-- ==== Sys2Proof/Word.lean ====
section
/-! DEFINITION. The word types of the UQV-3208 and their plainest field arithmetic. -/

namespace Sys2Proof

/-- A 32-bit register word (R7). -/
abbrev Word := BitVec 32

/-- One byte of memory. -/
abbrev Byte := BitVec 8

/-- A mesh node number (R295). -/
abbrev Node := Fin 64

/-- A logical spire number (R16). -/
abbrev Spire := Fin 32

/-- An event counter number of one spire (R304). -/
abbrev Ctr := Fin 512

end Sys2Proof
end

