-- ==== Sys2Proof/Syntax.lean ====
section
/-! DEFINITION. The commands of the block: one constructor of Instr per row of spec/opcode_table.json, and the data they carry.
A register command names its requester (mesh node number, R295) and the value written; a message command carries the message; an event command names the unit. -/

namespace Sys2Proof

/-- What the requester of a read, or the owner of a write, does with the data or the acknowledgement (R272, R273, R282, R288, R358, R378). -/
inductive Tag
  | plain
  | dma (ch : Fin 288) (bytes blk : Nat) (pois : Bool)
  | stream (n : Spire) (s : Fin 4) (row : Nat) (blk : Nat)
  | lantern (b : Fin 4) (blk : Nat)
  | loader (load : Nat)
  | keep
  | logRing (r : Fin 8)
  | rdma (a c : Fin 4) (off len : Nat)
  | rwr (a : Fin 4) (key : Nat)
  | host (link off len : Nat)
  | loadw (n : Spire) (blk : Nat)
  deriving DecidableEq, Repr

/-- The body of a mesh message (the kinds of R298). A PW carries its enabled bytes as address and byte pairs, the poisoned 64-bit words
among them by word address, and for a vault the arrival counter when ARR is 1 (R181). off says that a vault refused the read (R183). -/
inductive Body
  | pw (cells : List (Nat × Byte)) (pois : List Nat) (arr : Option Ctr) (landing : Bool) (tag : Tag)
  | rreq (addr len dst : Nat) (tag : Tag)
  | rd (addr len : Nat) (tag : Tag)
  | rdr (addr : Nat) (data : List Byte) (pois : List Nat) (off : Bool) (tag : Tag)
  | inc (ctr : Ctr) (amount : BitVec 16)
  | ack (id : Nat) (tag : Tag)
  | rcred
  | tc
  | hb
  deriving DecidableEq, Repr

/-- A mesh message: its number among the messages presented, source and destination node, and body (R295, R298). -/
structure Msg where
  id : Nat
  src : Node
  dst : Node
  body : Body
  deriving DecidableEq, Repr

/-- A message as its receiver finds it (R298, R303): good; its header corrected of a single-bit error; 64-bit data words of its flits corrected of a single-bit
error (one) or with a double-bit error (two), by word address, its header corrected too or not (hdr); of a reserved kind; or with an uncorrectable header, with the source node, kind and
destination node as read and the logical spire of the router that reads a reserved node number first. -/
inductive Header
  | good
  | corrected
  | data (hdr : Bool) (one two : List Nat)
  | reservedKind (kind : BitVec 8)
  | uncorrectable (src : Node) (kind : BitVec 8) (dst : Node) (router : Spire)
  deriving DecidableEq, Repr


/-- A control processor: spires 0 to 31, and the Keep's own as 32 (R384). -/
abbrev CpId := Fin 33

/-- A PCIe configuration request (R346, R347): a read, a write of the command register, of the MSI-X control word (enable and function
mask), of the power state (D0 or D3hot), of the Function Level Reset bit, or of any other word; or one that comes with a fault of the PCIe link that
AER reports: not performed, its bit in AER's uncorrectable or correctable status (R417). -/
inductive CfgReq
  | read (off : BitVec 12)
  | command (busMaster memSpace : Bool)
  | msixControl (enable mask : Bool)
  | power (d3hot : Bool)
  | initiateFlr
  | other (off : BitVec 12) (v : Word)
  | faulty (uncorrectable : Bool) (bit : Fin 32)
  deriving DecidableEq, Repr

/-- An operation word of a bundle with its extension word (R105, R106). -/
structure CpWord where
  word : Word
  ext : Option Word
  deriving DecidableEq, Repr

/-- One operation of a bundle as it reaches a control processor (R105 to R109): the core, the guard, the bits of OPC that the row leaves
open (KIND of R115, cond of R117, SIZE, SGN and UPD of R119, SIZE of R127; for a vector operation 1 in bit 0 means slot V1), OPND, the
extension word, and the operations of its bundle before and after it. The stop bit is 1 when none comes after. lost is, on the first operation of a
bundle, the cycles for which the bundle's accesses lose arbitration or wait for the store buffer (R79); upTo is, on a string operation, the element
after which its CP comes to an interrupt boundary (R97). -/
structure CpOp where
  core : CpId
  pred : Fin 8
  pneg : Bool
  sub : BitVec 4
  opnd : BitVec 16
  ext : Option Word
  before : List CpWord
  after : List CpWord
  lost : Nat := 0
  upTo : Option Nat := none
  deriving DecidableEq, Repr


/-- How an I2C transaction of a sensor port ends (R327): complete with the bytes read, refused by the target, or timed out with the bytes read so far. -/
inductive I2cEnd
  | complete (rx : Word)
  | nack
  | timeout (cnt : Fin 5) (rx : Word)
  deriving DecidableEq, Repr

/-- A change of a sensor link outside packets (R316, R331). -/
inductive LinkEv
  | ulpsEnter
  | ulpsExit
  | hsEnter
  | hsLost
  deriving DecidableEq, Repr

/-- What CONFIG carries from the far end of an Axsin link (R370, R371, R373): link number, time and tick roles, WMAX, expected SEQ, and free places
of its WRITE, RESP and SYNC buffers. -/
structure LinkPeer where
  link : Fin 4
  follow : Bool
  tick : Bool
  wmax : Fin 4
  seq : Byte
  write : Fin 129
  resp : Fin 17
  sync : Fin 5
  deriving DecidableEq, Repr


/-- A PLL of R432. -/
inductive Pll
  | time
  | core
  | mem
  | pcie
  | link (a : Fin 4)
  deriving DecidableEq, Repr

/-- A supply rail of R446. -/
inductive Rail
  | vddCore
  | vddVlt
  | vddSer
  | vdd2h
  | vddq
  | vddio18
  | vddio33
  | vddaPll
  deriving DecidableEq, Repr

/-- Where a rail stands to its operating range (R446 to R449). -/
inductive RailLevel
  | below
  | within
  | above
  deriving DecidableEq, Repr

/-- A repair row that a vault test marks failed (R394): physical spire, bank and row. -/
structure BadRow where
  spire : Fin 34
  bank : Fin 64
  row : Byte
  deriving DecidableEq, Repr

/-- The address and the width in bytes of a register read. -/
structure Access where
  addr : BitVec 26
  width : Nat
  deriving DecidableEq, Repr

/-- A processor at a boundary, and the words of the bundle that a held fault may name (R98, R101). -/
structure AtBundle where
  core : CpId
  bundle : List CpWord
  deriving DecidableEq, Repr

/-- A line fill (R84): its local address, the cycles that the fetch waits, and the cycles that issue is stalled. -/
structure LineFill where
  addr : Word
  lost : Nat
  stall : Nat
  deriving DecidableEq, Repr

/-- How far a RUN of a dome has come (R205, R213): to its end, or the blocks read and the positions left. -/
structure RunProgress where
  dome : Spire
  upTo : Option (Nat × Nat)
  deriving DecidableEq, Repr

/-- How far a load or the update engine of a dome has come (R206, R208, R231): to its end, or the blocks it has read. -/
structure DomeProgress where
  dome : Spire
  upTo : Option Nat
  deriving DecidableEq, Repr

/-- A level that an input has held for a number of ns (R340). -/
structure HeldLevel where
  high : Bool
  held : Nat
  deriving DecidableEq, Repr

/-- An encoder whose levels of A and of B have each held for a number of ns (R340, R343). -/
structure HeldEncoder where
  enc : Fin 8
  heldA : Nat
  heldB : Nat
  deriving DecidableEq, Repr

/-- An encoder whose Z has held a level for a number of ns (R340, R344). -/
structure HeldIndex where
  enc : Fin 8
  high : Bool
  held : Nat
  deriving DecidableEq, Repr

/-- A training (R370, R373): the far end, the earlier state that it reaches, or none when it completes, and the lanes on which LOCK has found the
polarity inverted. The good-lane bitmap beside it is what this end's receiver finds in EQ and LOCK, and at completion the one in the flits of the
far end. -/
structure Training where
  peer : LinkPeer
  reach : Option (Fin 5)
  inverted : Byte := 0
  deriving DecidableEq, Repr

/-- The commands, one per row of the opcode table, in its order. -/
inductive Instr
  /-- REG_WRITE (R7): An aligned 32-bit write to a register that has no row of its own stores its writable fields, or is dropped if it has another width or alignment. -/
  | regWrite (req : Node) (a : BitVec 26) (width : Nat) (v : Word)
  /-- RC_READ (R6): A read of an RC register returns its value and then clears it to 0. -/
  | rcRead (req : Node) (a : Access)
  /-- WIDE_READ_LOW (R8): A read of the low word of a 64-bit pair copies the high word into a shadow for the same requester. -/
  | wideReadLow (req : Node) (a : Access)
  /-- SET_ALIAS_WRITE (R9): A write to the set alias of an S/C register sets every bit written as 1. -/
  | setAliasWrite (req : Node) (a : BitVec 26) (v : Word)
  /-- CLEAR_ALIAS_WRITE (R9): A write to the clear alias of an S/C register clears every bit written as 1. -/
  | clearAliasWrite (req : Node) (a : BitVec 26) (v : Word)
  /-- INT_RAW_CLEAR (R13): A W1C write to INT_RAW clears the written bits; clearing bit 31 re-arms the error capture. -/
  | intRawClear (req : Node) (page : BitVec 14) (v : Word)
  /-- INT_FORCE (R12): A write to INT_FORCE sets the same INT_RAW bits as hardware events would. -/
  | intForce (req : Node) (page : BitVec 14) (v : Word)
  /-- LOCK (R14): A write of 1 to LOCK on page 0 of a block locks the RW, RWS and S/C fields of every page of the block. -/
  | lock (req : Node) (page : BitVec 14) (v : Word)
  /-- BLK_RST (R457): A write of 1 to BLK_CTL.BLK_RST returns the registers of the page to reset values, or is dropped where the block's chapter says so. -/
  | blkRst (req : Node) (page : BitVec 14) (v : Word)
  /-- INTERNAL_GRID_POINT (R39): A grid point of the internal period source is reached and becomes the pending source event. -/
  | internalGridPoint
  /-- TICK_BOUNDARY (R35): The tick start cycle: pending switch or stop takes effect, the overrun outcome applies, the tick count increments, TICK_START and TICK_EVENT are recorded and the walk of the new tick begins. -/
  | tickBoundary
  /-- TICK_STALL (R42): GAP ns pass without a tick start while a schedule runs, and TICK_STALL is raised. -/
  | tickStall
  /-- TIME_SYNC_CAPTURE (R47): A rising edge on TIME_SYNC captures device time, increments SEQ and raises SYNC. -/
  | timeSyncCapture
  /-- TIME_ADJ (R48): A write to TIME_ADJ loads a signed slew correction that replaces any pending one. -/
  | timeAdj (req : Node) (v : Word)
  /-- SLEW_STEP (R48): Every 1,000 TCLK while a correction is pending, device time advances by 2 or 0 and the correction moves 1 ns towards 0. -/
  | slewStep
  /-- TIME_SET (R51): A write of TIME_SET_HI commits a new device time, or is refused under R41. -/
  | timeSet (req : Node) (v : Word)
  /-- TICK_SET (R51): A write of TICK_SET_HI commits a new tick count, or is refused under R41. -/
  | tickSet (req : Node) (v : Word)
  /-- TIME_SRC_WRITE (R41): A write to TIME_SRC or TIME_ENC_N is accepted only while no schedule runs. -/
  | timeSrcWrite (req : Node) (encN : Bool) (v : Word)
  /-- TIMEBASE_ENABLE (R36): A write of the timebase BLK_CTL.EN gates tick starts; a write of 1 releases a pending source event. -/
  | timebaseEnable (req : Node) (v : Word)
  /-- NOP_ENTRY (R55): The Belfry dispatches a NOP entry, which uses one dispatch cycle. -/
  | nopEntry
  /-- TICK_END (R62): The Belfry dispatches the TICK_END entry: it compares tick-complete counts, checks heartbeats, sends the tick-end strobe and ends the walk. -/
  | tickEnd
  /-- BARRIER (R61): The Belfry dispatches a BARRIER entry and records the device time and lag of its slot. -/
  | barrier
  /-- PORT_ARM (R56): The Belfry dispatches a PORT_ARM entry and the port's landing engine checks and accepts or refuses the arm. -/
  | portArm
  /-- DMA_START (R57): The Belfry dispatches a DMA_START entry, which acts as a write of 1 to START of one channel. -/
  | dmaStart
  /-- STREAM_ARM (R57): The Belfry dispatches a STREAM_ARM entry, which arms one stream of one spire. -/
  | streamArm
  /-- DISPATCH (R58): The Belfry dispatches a DISPATCH entry, placing an entry point in the dispatch queue of each named spire in the grid. -/
  | dispatch
  /-- EVT_POST (R59): The Belfry dispatches an EVT_POST entry, adding AMOUNT to one event counter. -/
  | evtPost
  /-- SCALE_COMMIT (R221): A SCALE_COMMIT entry reaches each named dome, which makes pending exponents active and flips pending weight regions. -/
  | scaleCommit
  /-- START (R71): SEQ_CMD START starts the named schedule, clearing the tick-complete counts and the encoder accumulator. -/
  | start (req : Node) (v : Word)
  /-- SWITCH (R70): SEQ_CMD SWITCH makes a descriptor pending, to take effect at the next tick boundary. -/
  | switch (req : Node) (v : Word)
  /-- STOP (R72): SEQ_CMD STOP makes a stop pending, to take effect at the next tick boundary. -/
  | stop (req : Node) (v : Word)
  /-- CANCEL (R69): SEQ_CMD CANCEL removes a pending switch or stop. -/
  | cancel (req : Node) (v : Word)
  /-- BELFRY_ENABLE (R76): A write of BLK_CTL.EN of page 0x020; a write of 0 while a schedule runs makes a stop pending. -/
  | belfryEnable (req : Node) (v : Word)
  /-- DESC_VALID (R68): A write of SEQ_DESCd_CTL stores SPIRES and, with VALID = 1, checks and accepts or rejects the descriptor. -/
  | descValid (req : Node) (d : Fin 8) (v : Word)
  /-- TABLE_ENTRY_WRITE (R73): A write of SEQ_TBL_W3 commits W0 to W3 to the table entry, or is refused when the entry is in an active or pending range. -/
  | tableEntryWrite (req : Node) (v : Word)
  /-- RAW_LOAD (R75): A write of SEQ_LOAD_CTL.START with MODE 0 starts a raw copy of entries from DRAM into the table. -/
  | rawLoad (req : Node) (v : Word)
  /-- IMAGE_LOAD (R75): A write of SEQ_LOAD_CTL.START with MODE 1 starts an image load with header, copy and descriptor steps. -/
  | imageLoad (req : Node) (v : Word)
  /-- LOAD_COPY (R73): Entries returned from DRAM are written into the table by the loader, each checked against the active and pending ranges. -/
  | loadCopy
  /-- LOAD_DONE (R75): A table load completes with RESULT 0x00, or ends with LOAD_ERR and its reason. -/
  | loadDone
  /-- ENTRY_POINT_TAKE (R94): An IDLE enabled CP takes the head entry point, setting PC, ACC and ILVL over a six-cycle sequence. -/
  | entryPointTake (n : CpId)
  /-- INTERRUPT_ENTRY (R98): At an interrupt boundary the CP takes the eligible source, pushes PC and SR and fetches its vector in E1 to E6. -/
  | interruptEntry (n : AtBundle)
  /-- CP_NMI (R102): A write of 1 to CP_NMI raises the NMI, saving PC and SR in CP_NPC and CP_NSR. -/
  | cpNmi (req : Node) (n : Spire) (v : Word)
  /-- HALT_REQ (R104): A write of CP_CTL.HALT_REQ requests a halt, or with 0 resumes the CP. -/
  | haltReq (req : Node) (n : Spire) (v : Word)
  /-- HALTED (R104): At an interrupt boundary with HALT_REQ = 1 the CP completes issued bundles, enters HALTED and raises INT_RAW[2]. -/
  | halted (n : CpId)
  /-- CP_IRQ_SET (R96): A write of CP_IRQ_SET sets RAW bits 6 to 31. -/
  | cpIrqSet (req : Node) (n : Spire) (v : Word)
  /-- TCMP_ARM (R459): A write of CP_TCMP_HI arms the TIMER compare with both words. -/
  | tcmpArm (req : Node) (n : Spire) (v : Word)
  /-- TIMER (R459): The device time read by the spire reaches CP_TCMP and TIMER is set once. -/
  | timer (n : CpId)
  /-- IC_INVALIDATE (R85): A write of CP_IC_CTL.INV invalidates every instruction cache line in 256 CCLK, or is dropped outside IDLE and HALTED. -/
  | icInvalidate (req : Node) (n : Spire) (v : Word)
  /-- ICACHE_LINE_FILL (R84): A fetch miss requests the line's 16 words on the narrow port and fills the line buffer and its way. -/
  | icacheLineFill (n : CpId) (a : LineFill)
  /-- NARROW_READ_RETURN (R81): A narrow read returns 6 CCLK after its grant and the memory-source operation computes and writes its destination. -/
  | narrowReadReturn (n : CpId)
  /-- STORE_BUFFER_WRITE (R88): A waiting store buffer entry is presented and written to the vault, or dropped when its segment is not ON. -/
  | storeBufferWrite (n : CpId)
  /-- MOV (R115): S-slot MOV writes the source value to DST. -/
  | mov (o : CpOp)
  /-- ADD (R115): S-slot ADD adds the source to DST and writes carry. -/
  | add (o : CpOp)
  /-- ADDC (R115): S-slot ADDC adds the source and carry to DST. -/
  | addc (o : CpOp)
  /-- SUB (R115): S-slot SUB subtracts the source from DST and writes borrow. -/
  | sub (o : CpOp)
  /-- SUBC (R115): S-slot SUBC subtracts the source and borrow from DST. -/
  | subc (o : CpOp)
  /-- AND (R115): S-slot AND writes the bitwise and. -/
  | and (o : CpOp)
  /-- OR (R115): S-slot OR writes the bitwise or. -/
  | or (o : CpOp)
  /-- XOR (R115): S-slot XOR writes the bitwise exclusive or. -/
  | xor (o : CpOp)
  /-- SHL (R115): S-slot SHL shifts DST left by the source bits [4:0]. -/
  | shl (o : CpOp)
  /-- SHR (R115): S-slot SHR shifts DST right with zeros in. -/
  | shr (o : CpOp)
  /-- SAR (R115): S-slot SAR shifts DST right with the sign in. -/
  | sar (o : CpOp)
  /-- MUL (R115): S-slot MUL writes bits [31:0] of the product. -/
  | mul (o : CpOp)
  /-- MULHS (R115): S-slot MULHS writes the signed high word of the product. -/
  | mulhs (o : CpOp)
  /-- MULHU (R115): S-slot MULHU writes the unsigned high word of the product. -/
  | mulhu (o : CpOp)
  /-- MIN (R115): S-slot MIN writes the signed smaller value. -/
  | min (o : CpOp)
  /-- MAX (R115): S-slot MAX writes the signed larger value. -/
  | max (o : CpOp)
  /-- CMP (R117): CMP.cond writes a predicate from a register or immediate compare. -/
  | cmp (o : CpOp)
  /-- PLOG (R117): PLOG writes a predicate from a truth table of two predicates. -/
  | plog (o : CpOp)
  /-- MFC (R117): MFC reads a control register into a scalar register. -/
  | mfc (o : CpOp)
  /-- MTC (R117): MTC writes a control register from a scalar register. -/
  | mtc (o : CpOp)
  /-- DIV (R118): DIV holds issue 34 CCLK and writes the signed quotient. -/
  | div (o : CpOp)
  /-- DIVU (R118): DIVU holds issue 34 CCLK and writes the unsigned quotient. -/
  | divu (o : CpOp)
  /-- REM (R118): REM holds issue 34 CCLK and writes the signed remainder. -/
  | rem (o : CpOp)
  /-- REMU (R118): REMU holds issue 34 CCLK and writes the unsigned remainder. -/
  | remu (o : CpOp)
  /-- ISQRT (R118): ISQRT holds issue 18 CCLK and writes the integer square root. -/
  | isqrt (o : CpOp)
  /-- LD (R119): LD requests a byte, half-word or word from EA, with optional base update. -/
  | ld (o : CpOp)
  /-- ST (R119): ST writes the low bytes of a register to EA through the store buffer. -/
  | st (o : CpOp)
  /-- LEA (R119): LEA writes the effective address to a register without access. -/
  | lea (o : CpOp)
  /-- REPS (R127): REPS runs the string operation of its bundle element by element over CNT elements. -/
  | reps (o : CpOp)
  /-- MOVS (R127): String MOVS copies elements from IX0 to IX1. -/
  | movs (o : CpOp)
  /-- FILLS (R127): String FILLS writes the low bytes of ACC to each element at IX1. -/
  | fills (o : CpOp)
  /-- SCANS (R127): String SCANS searches elements at IX0 for a match or mismatch with ACC and writes Pd. -/
  | scans (o : CpOp)
  /-- CMPS (R127): String CMPS compares elements at IX0 and IX1 and writes Pd on the first difference. -/
  | cmps (o : CpOp)
  /-- BR (R120): BR branches to the target, killing the bundles behind it. -/
  | br (o : CpOp)
  /-- BR_D (R92): BR.D branches after two delay slots. -/
  | brD (o : CpOp)
  /-- BRL (R120): BRL writes LR and branches. -/
  | brl (o : CpOp)
  /-- BRL_D (R120): BRL.D writes LR and branches after two delay slots. -/
  | brlD (o : CpOp)
  /-- BRI (R120): BRI branches to the address in a register. -/
  | bri (o : CpOp)
  /-- BRI_D (R120): BRI.D branches to a register address after two delay slots. -/
  | briD (o : CpOp)
  /-- RETI (R121): RETI pops PC and SR after earlier bundles complete, or returns the CP to IDLE. -/
  | reti (o : CpOp)
  /-- RETN (R121): RETN restores PC and SR from CP_NPC and CP_NSR and ends the NMI handler. -/
  | retn (o : CpOp)
  /-- END (R95): END ends the entry point and returns the CP to IDLE, posting tick-complete when TC = 1. -/
  | endEntry (o : CpOp)
  /-- NOP (R120): S-slot NOP does nothing for 1 CCLK. -/
  | nop (o : CpOp)
  /-- RPT (R123): RPT issues its bundle the immediate count of times in consecutive cycles. -/
  | rpt (o : CpOp)
  /-- RPT_C (R123): RPT.C issues its bundle CNT times. -/
  | rptC (o : CpOp)
  /-- LOOP (R124): LOOP sets LBEG, LEND, LN and LACT from its extension word count. -/
  | loop (o : CpOp)
  /-- LOOP_C (R124): LOOP.C sets up a loop with its count from CNT. -/
  | loopC (o : CpOp)
  /-- EVSEND (R131): EVSEND adds an amount to counter k of spire n, locally or over the mesh. -/
  | evsend (o : CpOp)
  /-- EVSENDI (R131): EVSENDI adds an amount to the counter named by IX1. -/
  | evsendi (o : CpOp)
  /-- EVWAIT (R132): EVWAIT holds its bundle in IS until a local counter reaches a value. -/
  | evwait (o : CpOp)
  /-- EVWAIT_RELEASE (R132): The counter condition holds and the waiting EVWAIT bundle issues. -/
  | evwaitRelease (n : CpId)
  /-- TWAIT_R (R132): TWAIT.R holds its bundle until device time reaches tick start plus an offset. -/
  | twaitR (o : CpOp)
  /-- TWAIT_A (R132): TWAIT.A holds its bundle until device time reaches IX1:IX0. -/
  | twaitA (o : CpOp)
  /-- TWAIT_RELEASE (R132): Device time reaches the waited time and the TWAIT bundle issues. -/
  | twaitRelease (n : CpId)
  /-- FIRE (R133): FIRE reads a 16-byte fire record on the narrow port over four cycles. -/
  | fire (o : CpOp)
  /-- FIRE_RECORD_SEND (R133): The last word of a FIRE returns and the record is sent to the TIO as one posted write, or nothing is sent on poison. -/
  | fireRecordSend (n : CpId)
  /-- STARM (R284): STARM arms a stream with the count from ACC. -/
  | starm (o : CpOp)
  /-- STREL (R284): STREL releases the oldest claimed slot of a stream. -/
  | strel (o : CpOp)
  /-- STSTOP (R284): STSTOP stops the run of a stream. -/
  | ststop (o : CpOp)
  /-- DSUB (R201): DSUB waits for queue space and reads a 32-byte dome descriptor. -/
  | dsub (o : CpOp)
  /-- DESCRIPTOR_ENQUEUE (R201): The descriptor read returns and a copy enters the dome queue. -/
  | descriptorEnqueue (n : Spire)
  /-- DWAIT (R201): DWAIT holds until the dome queue is empty and nothing is in progress. -/
  | dwait (o : CpOp)
  /-- VADD (R144): Vector add modulo 2^SEW. -/
  | vadd (o : CpOp)
  /-- VSUB (R144): Vector subtract modulo 2^SEW. -/
  | vsub (o : CpOp)
  /-- VADDS (R144): Vector signed saturating add. -/
  | vadds (o : CpOp)
  /-- VADDSU (R144): Vector unsigned saturating add. -/
  | vaddsu (o : CpOp)
  /-- VSUBS (R144): Vector signed saturating subtract. -/
  | vsubs (o : CpOp)
  /-- VSUBSU (R144): Vector unsigned subtract saturated at 0. -/
  | vsubsu (o : CpOp)
  /-- VMUL (R144): Vector multiply, low bits. -/
  | vmul (o : CpOp)
  /-- VMULHS (R144): Vector multiply, signed high bits. -/
  | vmulhs (o : CpOp)
  /-- VMULHU (R144): Vector multiply, unsigned high bits. -/
  | vmulhu (o : CpOp)
  /-- VMIN (R144): Vector signed minimum. -/
  | vmin (o : CpOp)
  /-- VMINU (R144): Vector unsigned minimum. -/
  | vminu (o : CpOp)
  /-- VMAX (R144): Vector signed maximum. -/
  | vmax (o : CpOp)
  /-- VMAXU (R144): Vector unsigned maximum. -/
  | vmaxu (o : CpOp)
  /-- VAND (R144): Vector bitwise and. -/
  | vand (o : CpOp)
  /-- VOR (R144): Vector bitwise or. -/
  | vor (o : CpOp)
  /-- VXOR (R144): Vector bitwise exclusive or. -/
  | vxor (o : CpOp)
  /-- VSHL (R144): Vector shift left. -/
  | vshl (o : CpOp)
  /-- VSHR (R144): Vector logical shift right. -/
  | vshr (o : CpOp)
  /-- VSAR (R144): Vector arithmetic shift right. -/
  | vsar (o : CpOp)
  /-- VABSDU (R144): Vector unsigned absolute difference. -/
  | vabsdu (o : CpOp)
  /-- VAVGU (R144): Vector unsigned rounding average. -/
  | vavgu (o : CpOp)
  /-- VCMPEQ (R144): Vector compare equal into a mask. -/
  | vcmpeq (o : CpOp)
  /-- VCMPLT (R144): Vector signed compare less than into a mask. -/
  | vcmplt (o : CpOp)
  /-- VCMPLTU (R144): Vector unsigned compare less than into a mask. -/
  | vcmpltu (o : CpOp)
  /-- VSEL (R144): Vector bitwise select by the destination mask. -/
  | vsel (o : CpOp)
  /-- VMACC (R144): Vector multiply-accumulate into the destination. -/
  | vmacc (o : CpOp)
  /-- VMV (R144): Vector move of operand b. -/
  | vmv (o : CpOp)
  /-- VWMUL (R145): Vector signed widening multiply into a pair. -/
  | vwmul (o : CpOp)
  /-- VWMULU (R145): Vector unsigned widening multiply into a pair. -/
  | vwmulu (o : CpOp)
  /-- VWMACC (R145): Vector signed widening multiply-accumulate. -/
  | vwmacc (o : CpOp)
  /-- VWMACCU (R145): Vector unsigned widening multiply-accumulate. -/
  | vwmaccu (o : CpOp)
  /-- VDOT4 (R145): Vector signed four-byte dot product into 32-bit lanes. -/
  | vdot4 (o : CpOp)
  /-- VDOT4U (R145): Vector unsigned four-byte dot product. -/
  | vdot4u (o : CpOp)
  /-- VDOT4SU (R145): Vector signed-by-unsigned four-byte dot product. -/
  | vdot4su (o : CpOp)
  /-- VNSHR (R146): Vector narrowing shift with rounding and saturation. -/
  | vnshr (o : CpOp)
  /-- VFADD (R147): Vector binary32 add. -/
  | vfadd (o : CpOp)
  /-- VFSUB (R147): Vector binary32 subtract. -/
  | vfsub (o : CpOp)
  /-- VFMUL (R147): Vector binary32 multiply. -/
  | vfmul (o : CpOp)
  /-- VFMA (R147): Vector binary32 fused multiply-add. -/
  | vfma (o : CpOp)
  /-- VFMIN (R147): Vector binary32 minimum. -/
  | vfmin (o : CpOp)
  /-- VFMAX (R147): Vector binary32 maximum. -/
  | vfmax (o : CpOp)
  /-- VFCVT_F_I (R147): Vector conversion of signed integers to binary32. -/
  | vfcvtFI (o : CpOp)
  /-- VFCVT_I_F (R147): Vector conversion of binary32 to saturated signed integers. -/
  | vfcvtIF (o : CpOp)
  /-- VMVFX (R148): Move a scalar register into Fd. -/
  | vmvfx (o : CpOp)
  /-- VMVXF (R148): Move bits [31:0] of Fa into a scalar register. -/
  | vmvxf (o : CpOp)
  /-- SETVL (R139): SETVL sets SEW and VL and writes the granted VL. -/
  | setvl (o : CpOp)
  /-- VRDC (R148): Read a vector control register into a scalar register. -/
  | vrdc (o : CpOp)
  /-- VWRC (R148): Write a vector control register from a scalar register. -/
  | vwrc (o : CpOp)
  /-- VREDSUM (R149): Reduction: signed sum into Fd. -/
  | vredsum (o : CpOp)
  /-- VREDSUMU (R149): Reduction: unsigned sum into Fd. -/
  | vredsumu (o : CpOp)
  /-- VREDMAX (R149): Reduction: signed maximum into Fd. -/
  | vredmax (o : CpOp)
  /-- VREDMAXU (R149): Reduction: unsigned maximum into Fd. -/
  | vredmaxu (o : CpOp)
  /-- VREDMIN (R149): Reduction: signed minimum into Fd. -/
  | vredmin (o : CpOp)
  /-- VREDMINU (R149): Reduction: unsigned minimum into Fd. -/
  | vredminu (o : CpOp)
  /-- VFREDSUM (R149): Reduction: binary32 sum in a fixed tree. -/
  | vfredsum (o : CpOp)
  /-- VFREDMAX (R149): Reduction: binary32 maximum. -/
  | vfredmax (o : CpOp)
  /-- VLD (R152): Unit-stride vector load. -/
  | vld (o : CpOp)
  /-- VST (R152): Unit-stride vector store. -/
  | vst (o : CpOp)
  /-- VLD2 (R153): Structure load of two fields. -/
  | vld2 (o : CpOp)
  /-- VLD3 (R153): Structure load of three fields. -/
  | vld3 (o : CpOp)
  /-- VLD4 (R153): Structure load of four fields. -/
  | vld4 (o : CpOp)
  /-- VST2 (R153): Structure store of two fields. -/
  | vst2 (o : CpOp)
  /-- VST3 (R153): Structure store of three fields. -/
  | vst3 (o : CpOp)
  /-- VST4 (R153): Structure store of four fields. -/
  | vst4 (o : CpOp)
  /-- VLDX (R154): Indexed gather load. -/
  | vldx (o : CpOp)
  /-- VSTX (R154): Indexed scatter store. -/
  | vstx (o : CpOp)
  /-- VECTOR_LOAD_RETURN (R152): A wide load request returns and writes its beats or elements. -/
  | vectorLoadReturn (n : Spire)
  /-- MACB (R160): MAC of one X operand against four Y operands into MACC0 to MACC3. -/
  | macb (o : CpOp)
  /-- MACBY (R160): MAC of four X operands against one Y operand. -/
  | macby (o : CpOp)
  /-- MACP (R160): MAC of four X and Y operand pairs. -/
  | macp (o : CpOp)
  /-- MCLR (R161): Clear the accumulators named by MASK. -/
  | mclr (o : CpOp)
  /-- MRND (R161): Round, saturate and write an accumulator to a scalar register. -/
  | mrnd (o : CpOp)
  /-- MRDL (R161): Read accumulator bits [31:0]. -/
  | mrdl (o : CpOp)
  /-- MRDH (R161): Read accumulator bits [39:32]. -/
  | mrdh (o : CpOp)
  /-- MWR (R161): Write an accumulator. -/
  | mwr (o : CpOp)
  /-- MTM (R161): Write a MAC control register. -/
  | mtm (o : CpOp)
  /-- MFM (R161): Read a MAC control register. -/
  | mfm (o : CpOp)
  /-- MREP (R163): Start a block repeat on a level. -/
  | mrep (o : CpOp)
  /-- PW (R181): A posted write arrives at its destination node, and at a vault is granted and may make an arrival increment. -/
  | pw (m : Msg) (h : Header)
  /-- RREQ (R300): A read request arrives and the serving node answers it with posted writes to the named address. -/
  | rreq (m : Msg) (h : Header)
  /-- RD (R298): A direct read arrives and the serving node answers with one RDR. -/
  | rd (m : Msg) (h : Header)
  /-- RDR (R298): Read data returns to the node that sent the RD. -/
  | rdr (m : Msg) (h : Header)
  /-- INC (R305): An increment message arrives and is added to the target counter. -/
  | inc (m : Msg) (h : Header)
  /-- ACK (R302): An acknowledgement arrives, confirming bytes or an increment to its sender. -/
  | ack (m : Msg) (h : Header)
  /-- RCRED (R300): A read credit returns to its requester. -/
  | rcred (m : Msg) (h : Header)
  /-- TC (R43): A tick-complete event reaches the Belfry and raises the spire's complete count. -/
  | tc (m : Msg) (h : Header)
  /-- HB (R313): A heartbeat reaches the Belfry and is registered for its spire. -/
  | hb (m : Msg) (h : Header)
  /-- HEARTBEAT (R312): After the tick start crosses into a spire, the first cycle of progress sends its HB. -/
  | heartbeat (n : Spire)
  /-- OUTBOUND_EVENT_RELEASE (R302): A held INC or TC is presented once every earlier PW and INC of the spire has been acknowledged. -/
  | outboundEventRelease (src : Node)
  /-- WATCH_ARM (R310): A write of 1 to a watch ARM arms it, and it may fire in the same cycle. -/
  | watchArm (req : Node) (n : Spire) (w : Fin 4) (v : Word)
  /-- COUNTER_SET (R315): EVT_CTR_CMD with OP 0 sets a counter to VAL plus same-cycle increments. -/
  | counterSet (req : Node) (n : Spire) (v : Word)
  /-- COUNTER_ADD (R315): EVT_CTR_CMD with OP 1 adds VAL[15:0] to a counter as one increment. -/
  | counterAdd (req : Node) (n : Spire) (v : Word)
  /-- AUDIT_ENABLE (R311): A write of 1 to EN of an audit entry loads LAST from its counter. -/
  | auditEnable (req : Node) (n : Spire) (i : Fin 16) (v : Word)
  /-- SEGMENT_POWER_UP (R184): Setting a bit of VLT_SEG_PWR takes an OFF segment to WAKING and starts its clearing. -/
  | segmentPowerUp (req : Node) (n : Spire) (v : Word)
  /-- SEGMENT_POWER_DOWN (R184): Clearing a bit of VLT_SEG_PWR takes the segment OFF and powers its storage down. -/
  | segmentPowerDown (req : Node) (n : Spire) (v : Word)
  /-- SEG_READY (R184): A WAKING segment completes its 20,000 ns clearing, enters ON and raises SEG_READY. -/
  | segReady (n : Spire) (seg : Fin 16)
  /-- SCRUB_READ (R188): Every INTERVAL × 1,024 CCLK the vault scrubber presents a read of the next block. -/
  | scrubRead (n : Spire)
  /-- SCRUB_WRITEBACK (R188): A scrub read that found corrected words writes them back unless another write intervened. -/
  | scrubWriteback (n : Spire)
  /-- LOADW (R206): A LOADW descriptor issues and loads a weight tile into the SHADOW bank. -/
  | loadw (n : Spire)
  /-- RUN (R207): A RUN descriptor issues and streams activation vectors through the ACTIVE bank, swapping first if asked. -/
  | run (n : Spire)
  /-- LOADCB (R208): A LOADCB descriptor loads a codebook slot. -/
  | loadcb (n : Spire)
  /-- LOADRS (R208): A LOADRS descriptor loads channel table entries. -/
  | loadrs (n : Spire)
  /-- LOADAF (R208): A LOADAF descriptor loads an activation slot. -/
  | loadaf (n : Spire)
  /-- POOLCFG (R208): A POOLCFG descriptor loads a pooling slot. -/
  | poolcfg (n : Spire)
  /-- WINCFG (R236): A WINCFG descriptor checks and loads a walker slot and its cursors. -/
  | wincfg (n : Spire)
  /-- MARK (R208): A MARK descriptor completes one cycle after issue. -/
  | mark (n : Spire)
  /-- RUN_COMPLETE (R213): A RUN completes at s + 256 + max(P, Q), moves walker cursors and posts its event and DONE. -/
  | runComplete (n : RunProgress)
  /-- LOADW_COMPLETE (R212): A LOADW completes 8 CCLK after its last block and marks SHADOW full. -/
  | loadwComplete (n : DomeProgress)
  /-- TABLE_LOAD_COMPLETE (R212): A codebook, channel table or activation slot load completes 4 CCLK after its last block. -/
  | tableLoadComplete (n : DomeProgress)
  /-- RESUME (R209): A write of DOME_CTL.RESUME ends a halt of the dome queue. -/
  | resume (req : Node) (n : Spire) (v : Word)
  /-- FLUSH (R215): A write of DOME_CTL.FLUSH discards every queued descriptor not yet issued. -/
  | flush (req : Node) (n : Spire) (v : Word)
  /-- TNS_CFG_WRITE (R223): A write of DOME_TNSt_CFG; setting FRZ clears PEND and CALM. -/
  | tnsCfgWrite (req : Node) (n : Spire) (t : Fin 64) (v : Word)
  /-- EXP_WRITE (R223): A write of a tensor exponent E is accepted while FRZ is 1, and dropped and captured otherwise. -/
  | expWrite (req : Node) (n : Spire) (t : Fin 64) (v : Word)
  /-- LOG_EN_WRITE (R224): A write of LOG_EN = 1 checks the log ring against the task windows. -/
  | logEnWrite (req : Node) (n : Spire) (v : Word)
  /-- UPD_START (R228): A write of DOME_UPD_CTL.START checks the registers and sets BUSY, or refuses the start. -/
  | updStart (req : Node) (n : Spire) (v : Word)
  /-- UPD_ENGINE_BEGIN (R228): The update engine begins in the first cycle in which no LOADCB is in progress. -/
  | updEngineBegin (n : Spire)
  /-- UPD_DONE (R231): The update engine completes a tile, clears BUSY and optionally posts an event. -/
  | updDone (n : DomeProgress)
  /-- DMA_CTL_START (R269): A write of DMA_CTL.START checks the transfer and starts the channel or refuses it. -/
  | dmaCtlStart (req : Node) (ch : Fin 288) (v : Word)
  /-- DMA_CTL_STOP (R275): A write of DMA_CTL.STOP ends the transfer after bytes in flight are acknowledged. -/
  | dmaCtlStop (req : Node) (ch : Fin 288) (v : Word)
  /-- DMA_PIECE_REQUEST (R271): A busy channel presents the next piece's source read in its turn. -/
  | dmaPieceRequest (ch : Fin 288)
  /-- STREAM_ROW_FETCH (R281): A stream holding an index and a credit begins the fetch of a row, claiming a slot. -/
  | streamRowFetch (n : Spire) (st : Fin 4)
  /-- SLOT_READY (R282): A slot becomes ready in index order after its last write is granted, and the run may end. -/
  | slotReady (n : Spire) (st : Fin 4)
  /-- LANTERN_FETCH (R288): A shared LOADW block fetch reaches a Lantern bank and hits or misses. -/
  | lanternFetch (b : Fin 4)
  /-- LANTERN_FILL (R288): DRAM data of a miss returns; the block is installed and delivered to waiting requests. -/
  | lanternFill (b : Fin 4)
  /-- INV (R290): A write of LAN_CTL.INV invalidates every Lantern line. -/
  | inv (req : Node) (v : Word)
  /-- INV_DONE (R290): The 256-CCLK invalidation ends and INV_DONE is raised. -/
  | invDone
  /-- PRE_START (R290): A write of LAN_CTL.PRE_START starts a preload of consecutive blocks. -/
  | preStart (req : Node) (v : Word)
  /-- LINE (R319): A long packet of the selected type arrives on an enabled virtual channel and is processed as one stripe row. -/
  | line (p : Fin 16) (vc : Fin 4) (dt : BitVec 6) (payload : List Byte) (crcOk corrected : Bool)
  /-- FRAME_START (R319): A frame-start packet sets the frame row of its channel to 0. -/
  | frameStart (p : Fin 16) (vc : Fin 4) (corrected : Bool)
  /-- HDR_UE (R320): A packet header with an uncorrectable error is dropped and marks stripes damaged and discontinuous. -/
  | hdrUe (p : Fin 16)
  /-- LANDING_WRITE (R263): A completed 256-byte block of a row is presented as a landing write to the vault ring. -/
  | landingWrite (p : Fin 16)
  /-- PORT_DISABLE (R325): A write of the port BLK_CTL.EN = 0 abandons stripes in progress and discards arms. -/
  | portDisable (req : Node) (p : Fin 16) (v : Word)
  /-- COMB_WRITE (R317): A write of SP_CFG.COMB combines or separates a port pair while both are disabled. -/
  | combWrite (req : Node) (p : Fin 16) (v : Word)
  /-- TRIGGER_PULSE (R326): A scheduled line trigger edge falls due and is driven on SPp_TRIG. -/
  | triggerPulse (p : Fin 16)
  /-- I2C_START (R327): A write of SP_I2C_CMD.START runs one I2C transaction. -/
  | i2cStart (req : Node) (p : Fin 16) (v : Word)
  /-- I2C_DONE (R327): An I2C transaction ends, raising I2C_DONE or I2C_ERR. -/
  | i2cDone (p : Fin 16) (e : I2cEnd)
  /-- SPI_START (R328): A write of SP_SPI_CTL.START shifts a transfer out and in. -/
  | spiStart (req : Node) (p : Fin 16) (v : Word)
  /-- SPI_DONE (R328): An SPI transfer ends and SPI_DONE is raised. -/
  | spiDone (p : Fin 16) (rx : Word)
  /-- TBL_DATA_WRITE (R330): A write of SP_TBL_DATA stores a front-stage table word, or is refused for the selected bank. -/
  | tblDataWrite (req : Node) (p : Fin 16) (v : Word)
  /-- FIRE_RECORD (R334): A fire record arrives at the TIO and is checked, then queued, suppressed or rejected. -/
  | fireRecord
  /-- TIO_INJ (R333): A write of TIO_INJ_W3 submits W0 to W3 as a fire record. -/
  | tioInj (req : Node) (v : Word)
  /-- ACTIVE_EDGE (R336): Device time reaches a queued record's TIME and the channel drives its active level. -/
  | activeEdge (c : Fin 96)
  /-- INACTIVE_EDGE (R336): Device time reaches END of a pulse chain and the channel drives its inactive level. -/
  | inactiveEdge (c : Fin 96)
  /-- TIO_CTL_QUIET (R339): A write of TIO_CTL.QUIET or of TIO BLK_CTL.EN makes the TIO quiet or leaves quiet. -/
  | tioCtlQuiet (req : Node) (en : Bool) (v : Word)
  /-- INPUT_EDGE (R341): An accepted edge on a timed input is captured into its FIFO, optionally posted to a vault, and may be a tick source event. -/
  | inputEdge (i : Fin 32) (level : HeldLevel)
  /-- CAP_HI_READ (R341): A read of TIO_INi_CAP_HI removes the head capture. -/
  | capHiRead (req : Node) (i : Fin 32)
  /-- ENCODER_COUNT (R343): An accepted change of A or B counts forward or reverse and goes to the timebase accumulator. -/
  | encoderCount (e : HeldEncoder) (a b : Bool)
  /-- INDEX (R344): A rising edge of Z loads ZPOS and ZTIME and raises INDEX. -/
  | index (e : HeldIndex)
  /-- HOST_BAR2_WRITE (R351): A host write to a slot goes to DRAM when HOST owns it, and is dropped otherwise. -/
  | hostBar2Write (off : BitVec 30) (data : List Byte)
  /-- HOST_BAR2_READ (R351): A host read of a slot returns DRAM data, or 0xDEAD_DEAD for a non-owner read. -/
  | hostBar2Read (off : BitVec 30) (len : Nat)
  /-- OCU_HAND (R354): A write of OCU_HAND hands named slots to a new owner, skipping slots that may not change. -/
  | ocuHand (req : Node) (v : Word)
  /-- HANDOVER_TAKE_EFFECT (R354): After earlier BAR2 writes are acknowledged, slots pass to DEVICE and vector 40 may be sent. -/
  | handoverTakeEffect
  /-- OCU_HDB (R357): A host doorbell write targets a spire counter or interrupt, or the Keep. -/
  | ocuHdb (req : Node) (v : Word)
  /-- DOORBELL_PRESENT (R357): After earlier host writes take effect, the doorbell is presented to its target. -/
  | doorbellPresent
  /-- OCU_DDB (R357): A Keep write of OCU_DDB sends device doorbell vectors 48 to 63. -/
  | ocuDdb (req : Node) (v : Word)
  /-- WINDOW_ENABLE (R349): A write of OCU_CTL.EN = 1 checks WBASE and WSL and enables the window. -/
  | windowEnable (req : Node) (v : Word)
  /-- RING_ENABLE (R359): A write of 1 to a log ring EN loads LAST from its counter and sets REL to 0. -/
  | ringEnable (req : Node) (r : Fin 8) (v : Word)
  /-- LOG_RING_RELEASE (R358): The counter value returns and the ring releases filled slots to HOST, sending its vector. -/
  | logRingRelease (r : Fin 8)
  /-- FUNCTION_LEVEL_RESET (R347): A Function Level Reset or D3hot cycle returns configuration space and the MSI-X table to reset. -/
  | functionLevelReset
  /-- DL_DOWN (R425): The PCIe data link goes down; the endpoint takes an FLR effect and the chip runs on. -/
  | dlDown
  /-- DL_UP (R425): The PCIe data link comes up and OCU_LINK shows the new rate and width. -/
  | dlUp (rate width : BitVec 4)
  /-- PERST_N (R455): Assertion of PERST_N acts as a Function Level Reset on the endpoint. -/
  | perstN
  /-- SEQUENCED_FLIT (R364): A sequenced link flit arrives and is accepted if its CRC and SEQ are right, or a NAK is sent. -/
  | sequencedFlit (a : Fin 4) (f : BitVec 256) (pois : BitVec 28)
  /-- LCTL (R365): An LCTL flit arrives, freeing replay entries and credits, or starting a replay on NAK. -/
  | lctl (a : Fin 4) (f : BitVec 256)
  /-- REPLAY_TIMEOUT (R365): No LCTL for 1,000 ns with held flits starts a replay. -/
  | replayTimeout (a : Fin 4)
  /-- RETRAIN (R373): A write of AXL_CTL.RETRAIN or of EN = 1 starts link training. -/
  | retrain (req : Node) (a : Fin 4) (en : Bool) (v : Word)
  /-- TRAINING_COMPLETE (R373): Training reaches ACTIVE, raises UP and counts the retraining. -/
  | trainingComplete (a : Fin 4) (good : Byte) (peer : Training)
  /-- LINK_DOWN (R372): Training fails or times out; the link goes DOWN, closing windows and ending remote DMA. -/
  | linkDown (a : Fin 4) (good : Byte)
  /-- RWR (R375): A remote write reaches the head of the WRITE buffer, is checked against its window and cut into mesh writes. -/
  | rwr (a : Fin 4)
  /-- WACK (R379): A write acknowledge arrives at the sending remote DMA channel. -/
  | wack (a : Fin 4)
  /-- WINDOW_OPEN (R374): A write of 1 to a window OPEN checks its range and opens it. -/
  | windowOpen (req : Node) (a : Fin 4) (w : Fin 64) (v : Word)
  /-- RDMA_START (R377): A write of AXL_RDc_CTL.START checks and starts a remote DMA channel. -/
  | rdmaStart (req : Node) (a c : Fin 4) (v : Word)
  /-- RDMA_STOP (R379): A write of AXL_RDc_CTL.STOP ends a remote transfer after its WACKs. -/
  | rdmaStop (req : Node) (a c : Fin 4) (v : Word)
  /-- RDMA_PIECE (R378): A remote DMA channel reads a piece and sends it as one RWR. -/
  | rdmaPiece (a c : Fin 4)
  /-- TICK_MESSAGE (R380): A TICK message reaches the slave timebase as its link source event. -/
  | tickMessage (a : Fin 4)
  /-- TIME_PROBE (R381): Every PINT µs a time-following link sends a time probe. -/
  | timeProbe (a : Fin 4)
  /-- PROBE_ANSWER (R381): A probe arrives and the link answers with T1, T2, T3 and FOL. -/
  | probeAnswer (a : Fin 4) (f : BitVec 256)
  /-- ANSWER (R381): A probe answer arrives; the prober computes θ and d and loads a slew correction. -/
  | answer (a : Fin 4) (f : BitVec 256)
  /-- RESET_N (R448): RESET_N held low for 10 µs makes a cold reset. -/
  | resetN (rise : Bool)
  /-- SECURE_BOOT (R388): The boot ROM verifies image slots A and B and runs the first one permitted, or enters RECOVERY. -/
  | secureBoot
  /-- STAGE_PCIE (R391): Stage PCIE loads identities and enables link training; the chip enters TRAINING. -/
  | stagePcie
  /-- STAGE_SRAM (R390): BIST and redundancy repair of the on-chip SRAMs completes. -/
  | stageSram (failed : BitVec 34) (service : Bool)
  /-- STAGE_LOGIC (R390): Logic BIST of spires, routers and blocks completes. -/
  | stageLogic (failed : BitVec 34) (routers : BitVec 32) (service : Bool)
  /-- STAGE_DRAM_TRAIN (R397): DRAM channels are trained and links enabled. -/
  | stageDramTrain (trained : Byte) (dens : Fin 4)
  /-- STAGE_VAULT (R394): The vault test and row repair, or the quick check, completes. -/
  | stageVault (rows : List BadRow) (checkOk : Bool)
  /-- STAGE_DRAM_TEST (R397): The DRAM pattern test and zero fill completes. -/
  | stageDramTest (passed : Byte)
  /-- STAGE_MAP (R393): The logical grid is set and the chip declared READY or LIMITED. -/
  | stageMap
  /-- WARM_RESET (R411): KEEP_CMD WARM_RESET stops the schedule, quiets the TIO and warm-resets every block. -/
  | warmReset (req : Node) (v : Word)
  /-- COLD_RESET (R410): KEEP_CMD COLD_RESET acts as the reset ball. -/
  | coldReset (req : Node) (v : Word)
  /-- STORE_MAP (R405): KEEP_CMD STORE_MAP writes the repair map in use to the other flash copy. -/
  | storeMap (req : Node) (v : Word)
  /-- MAP_WRITE_DONE (R405): A repair map write to flash completes. -/
  | mapWriteDone (ok : Bool)
  /-- DROP_MAP (R405): KEEP_CMD DROP_MAP erases the MAGIC of both map copies. -/
  | dropMap (req : Node) (v : Word)
  /-- REC_BOOT (R389): KEEP_CMD REC_BOOT verifies and runs an image written in RECOVERY. -/
  | recBoot (req : Node) (v : Word)
  /-- KEEP_REC_DATA (R389): A write of KEEP_REC_DATA stores a word in Keep SRAM in RECOVERY and advances the address. -/
  | keepRecData (req : Node) (v : Word)
  /-- KEEP_MBOX_IN3 (R412): A host write of KEEP_MBOX_IN3 also rings the Keep doorbell. -/
  | keepMboxIn3 (req : Node) (v : Word)
  /-- KEEP_IRQ_EOI (R423): A write of 1 to KEEP_IRQ_EOI bit v resends vector v while its group is pending. -/
  | keepIrqEoi (req : Node) (v : Word)
  /-- KEEP_IRQ_HOST (R423): A write that enables a vector while its group is pending sends the vector. -/
  | keepIrqHost (req : Node) (v : Word)
  /-- UNIT_FAULT (R418): A unit fault line reaches the state machine and the chip enters FAILED. -/
  | unitFault (cause : Fin 8) (unit : Byte)
  /-- SPIRE_POWER (R430): A write of KEEP_SPIRE_PWR powers spire compute islands down or up while no schedule runs. -/
  | spirePower (req : Node) (v : Word)
  /-- SPIRE_POWER_READY (R431): A powering-up island becomes ready after 50 µs in its cold reset state. -/
  | spirePowerReady (n : Spire)
  /-- AVS_STEP (R429): With throttle level 0, the device sends one 5 mV AVSBus step towards TGT once the regulator reports settled. -/
  | avsStep
  /-- THERMAL_READING (R435): Every 10 µs the thermal sensors are read, TMAX updated and a trip may raise cause 5. -/
  | thermalReading (temps : Vector Byte 12)
  /-- THROTTLE_LEVEL (R436): The automatic throttle level rises every 100 µs or falls every 1 ms at a group boundary. -/
  | throttleLevel
  /-- PLL_LOSS_OF_LOCK (R433): A PLL loses lock, holding the chip in reset or taking DRAM, a link or PCIe down. -/
  | pllLossOfLock (p : Pll)
  /-- DRAM_SCRUB (R401): Every INTERVAL × 1,024 DRAM clocks a channel scrubs one of its blocks. -/
  | dramScrub (c : Fin 8)
  /-- REFRESH (R402): A DRAM channel issues all-bank refresh at its interval. -/
  | refresh (c : Fin 8)
  /-- MR4_READ (R402): Every 16 ms a channel reads MR4 of each device and sets its refresh interval. -/
  | mr4Read (c : Fin 8) (a b : BitVec 5)
  /-- DELAY_CORRECTION (R403): Every 1,000 µs a channel measures drift and moves its delays. -/
  | delayCorrection (c : Fin 8) (drift : Option (BitVec 16))
  /-- DRAM_REQUEST_SERVE (R460): A DRAM channel serves a queued read or write request. -/
  | dramRequestServe (c : Fin 8) (i : Fin 64)
  /-- PLL_LOCK (R432): A PLL acquires lock: the time and core PLLs end the cold reset hold, device time starts counting and stage ROM begins, and the other PLLs let their DRAM, link or PCIe logic run again. -/
  | pllLock (p : Pll)
  /-- RAIL_RANGE_CHANGE (R449): A supply rail enters or leaves its operating range; while VDD_CORE or VDDIO_3V3 is below range the TIO outputs are high impedance. -/
  | railRangeChange (r : Rail) (l : RailLevel)
  /-- PERST_N_RISE (R455): PERST_N rises and PCIe link training starts if stage PCIE has been reached. -/
  | perstNRise
  /-- CONFIGURATION_REQUEST (R347): A PCIe configuration request arrives and is answered with Configuration Request Retry Status before stage PCIE, or acts on configuration space such as Bus Master Enable. -/
  | configurationRequest (r : CfgReq)
  /-- HS_DESKEW (R316): A sensor sends the HS deskew sequence and the port receiver aligns its lanes on it. -/
  | hsDeskew (p : Fin 16)
  /-- ULPS (R331): The sensor lanes enter or leave ULPS, or all lanes leave HS without a packet end; SP_STAT changes and INT_RAW[10] LINK is raised. -/
  | ulps (p : Fin 16) (e : LinkEv)
  deriving DecidableEq, Repr

end Sys2Proof
end

