-- ==== Sys2Proof/Decode.lean ====
section
/-! DEFINITION. The block's commands carry no words: the opcode table gives its rows no bits. -/

namespace Sys2Proof

/-- The command that an nbits-bit word spells: the opcode table gives no row any bits, so no word spells one. -/
def decodeTableWord (_nbits _w : Nat) : Option Instr := none

end Sys2Proof
end

