-- ==== Sys2Proof/Machine/Crypto.lean ====
section
/-! DEFINITION. SHA-384 and ECDSA verification on P-384, which R388 names without defining: both are taken from the standards
FIPS 180-4 and FIPS 186-4 (PRESUMED, log entry 40). -/

namespace Sys2Proof.Machine

/-- The first n primes, from 2 (trial division; fuel bounds the search). -/
def primesGo : Nat → Nat → List Nat → List Nat
  | 0, _, acc => acc.reverse
  | f + 1, k, acc => primesGo f (k + 1) (if acc.all (fun p => k % p != 0) then k :: acc else acc)

/-- The 80 primes up to 409. -/
def primes80 : List Nat := primesGo 408 2 []

/-- The integer root of degree d of x, below 2^(b), found bit by bit. -/
def rootGo (d x : Nat) : Nat → Nat → Nat
  | 0, r => r
  | b + 1, r => rootGo d x b (if (r + 2 ^ b) ^ d ≤ x then r + 2 ^ b else r)

/-- The round constants of SHA-384: 64 fraction bits of the cube roots of the first 80 primes. -/
def shaK : List (BitVec 64) := primes80.map (fun p => BitVec.ofNat 64 (rootGo 3 (p * 2 ^ 192) 72 0))

/-- The initial hash of SHA-384: 64 fraction bits of the square roots of the ninth to sixteenth primes. -/
def shaInit : List (BitVec 64) := ((primes80.drop 8).take 8).map (fun p => BitVec.ofNat 64 (rootGo 2 (p * 2 ^ 128) 72 0))

/-- A big-endian number. -/
def beNum (l : List Byte) : Nat := l.foldl (fun a b => a * 256 + b.toNat) 0

/-- The functions of FIPS 180-4. -/
def shaS0 (x : BitVec 64) : BitVec 64 := x.rotateRight 28 ^^^ x.rotateRight 34 ^^^ x.rotateRight 39
def shaS1 (x : BitVec 64) : BitVec 64 := x.rotateRight 14 ^^^ x.rotateRight 18 ^^^ x.rotateRight 41
def shaG0 (x : BitVec 64) : BitVec 64 := x.rotateRight 1 ^^^ x.rotateRight 8 ^^^ x >>> 7
def shaG1 (x : BitVec 64) : BitVec 64 := x.rotateRight 19 ^^^ x.rotateRight 61 ^^^ x >>> 6

/-- The next schedule word from the last 16, newest first. -/
def shaNext (w : List (BitVec 64)) : BitVec 64 := shaG1 (w.getD 1 0) + w.getD 6 0 + shaG0 (w.getD 14 0) + w.getD 15 0

/-- The 80 schedule words of a block, newest first. -/
def shaSched : Nat → List (BitVec 64) → List (BitVec 64)
  | 0, w => w
  | n + 1, w => shaSched n (shaNext w :: w)

/-- One round on the working variables a to h. -/
def shaRound (v : List (BitVec 64)) (kw : BitVec 64 × BitVec 64) : List (BitVec 64) :=
  match v with
  | [a, b, c, d, e, f, g, h] =>
    let t1 := h + shaS1 e + ((e &&& f) ^^^ (~~~e &&& g)) + kw.1 + kw.2
    let t2 := shaS0 a + ((a &&& b) ^^^ (a &&& c) ^^^ (b &&& c))
    [t1 + t2, a, b, c, d + t1, e, f, g]
  | _ => v

/-- The words of a 128-byte block. -/
def shaWords (l : List Byte) : List (BitVec 64) := (List.range 16).map (fun i => BitVec.ofNat 64 (beNum ((l.drop (8 * i)).take 8)))

/-- One block. -/
def shaBlock (h : List (BitVec 64)) (l : List Byte) : List (BitVec 64) :=
  let w := (shaSched 64 (shaWords l).reverse).reverse
  List.zipWith (· + ·) h ((shaK.zip w).foldl shaRound h)

/-- n blocks of a padded message. -/
def shaBlocks : Nat → List (BitVec 64) → List Byte → List (BitVec 64)
  | 0, h, _ => h
  | n + 1, h, l => shaBlocks n (shaBlock h (l.take 128)) (l.drop 128)

/-- SHA-384 of a message, as a number. -/
def sha384 (m : List Byte) : Nat :=
  let n := m.length
  let z := (239 - n % 128) % 128
  let len := (List.range 16).map (fun i => BitVec.ofNat 8 (8 * n / 256 ^ (15 - i)))
  let h := shaBlocks ((n + 1 + z + 16) / 128) shaInit (m ++ 0x80 :: List.replicate z 0 ++ len)
  (h.take 6).foldl (fun a x => a * 2 ^ 64 + x.toNat) 0

/-! ### P-384 -/

/-- The field prime. -/
def ecP : Nat := 2 ^ 384 - 2 ^ 128 - 2 ^ 96 + 2 ^ 32 - 1

/-- The curve constant b, the order n and the base point of P-384. -/
def ecB : Nat := 0xb3312fa7e23ee7e4988e056be3f82d19181d9c6efe8141120314088f5013875ac656398d8a2ed19d2a85c8edd3ec2aef
def ecN : Nat := 0xffffffffffffffffffffffffffffffffffffffffffffffffc7634d81f4372ddf581a0db248b0a77aecec196accc52973
def ecG : Nat × Nat :=
  (0xaa87ca22be8b05378eb1c71ef320ad746e1d3b628ba79b9859f741e082542a385502f25dbf55296c3a545e3872760ab7,
   0x3617de4a96262c6f5d9e98bf9292dc29f8f41dbd289a147ce9da3113b5f0b8c00a60b1ce1d7e819d7a431d7c90ea0e5f)

/-- Powers modulo m, e of b bits. -/
def powMod (m x e : Nat) : Nat → Nat
  | 0 => 1 % m
  | b + 1 =>
    let r := powMod m x (e / 2) b
    if e % 2 = 1 then r * r * x % m else r * r % m

/-- The inverse modulo a prime m of 384 bits. -/
def invMod (m x : Nat) : Nat := powMod m (x % m) (m - 2) 384

/-- The sum of two points; none is the point at infinity. -/
def ecAdd : Option (Nat × Nat) → Option (Nat × Nat) → Option (Nat × Nat)
  | none, q => q
  | p, none => p
  | some (x1, y1), some (x2, y2) =>
    if x1 = x2 && (y1 + y2) % ecP = 0 then none
    else
      let l := if x1 = x2 then (3 * x1 * x1 + (ecP - 3)) * invMod ecP (2 * y1) % ecP
        else (y2 + (ecP - y1)) * invMod ecP (x2 + (ecP - x1)) % ecP
      let x3 := (l * l + 2 * ecP - x1 - x2) % ecP
      some (x3, (l * (x1 + ecP - x3) + ecP - y1) % ecP)

/-- k times a point, k of b bits. -/
def ecMul (q : Option (Nat × Nat)) (k : Nat) : Nat → Option (Nat × Nat)
  | 0 => none
  | b + 1 =>
    let r := ecMul q (k / 2) b
    let d := ecAdd r r
    if k % 2 = 1 then ecAdd d q else d

/-- The signature (r, s) verifies over digest e against the public key (x, y). -/
def ecdsaOk (x y r s e : Nat) : Bool :=
  x < ecP && y < ecP && y * y % ecP == (x * x * x + (ecP - 3) * x + ecB) % ecP &&
  0 < r && r < ecN && 0 < s && s < ecN &&
  (let w := invMod ecN s
   match ecAdd (ecMul (some ecG) (e * w % ecN) 384) (ecMul (some (x, y)) (r * w % ecN) 384) with
   | none => false
   | some (x1, _) => x1 % ecN == r)

end Sys2Proof.Machine
end

