-- ==== Sys2Proof/Machine/RegAddr.lean ====
section
/-! DEFINITION. The BAR0 offset of every register the spec names (page number times 0x1000 plus the offset of its table), under the spec's own name.
Parameters: spire n, port p, link a, DRAM channel c, DMA page pg, and i for the instance index of the register's own table. -/

namespace Sys2Proof.Machine

abbrev Reg.TIME_NOW_LO : Nat := 0x10040
abbrev Reg.TIME_NOW_HI : Nat := 0x10044
abbrev Reg.TICK_CNT_LO : Nat := 0x10048
abbrev Reg.TICK_CNT_HI : Nat := 0x1004C
abbrev Reg.TICK_START_LO : Nat := 0x10050
abbrev Reg.TICK_START_HI : Nat := 0x10054
abbrev Reg.TICK_EVENT_LO : Nat := 0x10058
abbrev Reg.TICK_EVENT_HI : Nat := 0x1005C
abbrev Reg.TICK_INFO : Nat := 0x10060
abbrev Reg.TIME_SRC : Nat := 0x10064
abbrev Reg.TIME_ENC_N : Nat := 0x10068
abbrev Reg.TIME_PERIOD : Nat := 0x1006C
abbrev Reg.TIME_MAX_GAP : Nat := 0x10070
abbrev Reg.TIME_OVR_POLICY : Nat := 0x10074
abbrev Reg.TIME_GROUP (i : Nat) : Nat := 0x010 * 0x1000 + 0x78 + 4 * i
abbrev Reg.TIME_OVR_LATE : Nat := 0x10088
abbrev Reg.TIME_OVR_CNT : Nat := 0x1008C
abbrev Reg.TIME_EARLY_CNT : Nat := 0x10090
abbrev Reg.TIME_MERGE_CNT : Nat := 0x10094
abbrev Reg.TIME_HELD_CNT : Nat := 0x10098
abbrev Reg.TIME_SYNC_LO : Nat := 0x1009C
abbrev Reg.TIME_SYNC_HI : Nat := 0x100A0
abbrev Reg.TIME_SYNC_SEQ : Nat := 0x100A4
abbrev Reg.TIME_ADJ : Nat := 0x100A8
abbrev Reg.TIME_SET_LO : Nat := 0x100AC
abbrev Reg.TIME_SET_HI : Nat := 0x100B0
abbrev Reg.TICK_SET_LO : Nat := 0x100B4
abbrev Reg.TICK_SET_HI : Nat := 0x100B8
abbrev Reg.TIME_LINK : Nat := 0x100BC
abbrev Reg.TIME_LINK_DELAY : Nat := 0x100C0
abbrev Reg.SEQ_CMD : Nat := 0x20040
abbrev Reg.SEQ_STATE : Nat := 0x20044
abbrev Reg.SEQ_ENTRY_IDX : Nat := 0x20048
abbrev Reg.SEQ_ERR_IDX : Nat := 0x2004C
abbrev Reg.SEQ_LATE_ENTRIES : Nat := 0x20050
abbrev Reg.SEQ_LATE_MAX : Nat := 0x20054
abbrev Reg.SEQ_BAD_ENTRIES : Nat := 0x20058
abbrev Reg.SEQ_UNREACHED : Nat := 0x2005C
abbrev Reg.SEQ_DISP_CNT : Nat := 0x20060
abbrev Reg.SEQ_DISP_DROP : Nat := 0x20064
abbrev Reg.SEQ_SKIP_CNT : Nat := 0x20068
abbrev Reg.SEQ_COMMIT_LATE : Nat := 0x2006C
abbrev Reg.SEQ_BAR_MISS : Nat := 0x20070
abbrev Reg.SEQ_DESC_BASE (i : Nat) : Nat := 0x021 * 0x1000 + 0x40 + 16 * i
abbrev Reg.SEQ_DESC_LEN (i : Nat) : Nat := 0x021 * 0x1000 + 0x44 + 16 * i
abbrev Reg.SEQ_DESC_PERIOD (i : Nat) : Nat := 0x021 * 0x1000 + 0x48 + 16 * i
abbrev Reg.SEQ_DESC_CTL (i : Nat) : Nat := 0x021 * 0x1000 + 0x4C + 16 * i
abbrev Reg.SEQ_TC_EXP (i : Nat) : Nat := 0x022 * 0x1000 + 0x40 + 4 * i
abbrev Reg.SEQ_TC_DONE (i : Nat) : Nat := 0x022 * 0x1000 + 0xC0 + 4 * i
abbrev Reg.SEQ_TBL_IDX : Nat := 0x23040
abbrev Reg.SEQ_TBL_W0 : Nat := 0x23044
abbrev Reg.SEQ_TBL_W1 : Nat := 0x23048
abbrev Reg.SEQ_TBL_W2 : Nat := 0x2304C
abbrev Reg.SEQ_TBL_W3 : Nat := 0x23050
abbrev Reg.SEQ_LOAD_SRC_LO : Nat := 0x23060
abbrev Reg.SEQ_LOAD_SRC_HI : Nat := 0x23064
abbrev Reg.SEQ_LOAD_IDX : Nat := 0x23068
abbrev Reg.SEQ_LOAD_CNT : Nat := 0x2306C
abbrev Reg.SEQ_LOAD_CTL : Nat := 0x23070
abbrev Reg.SEQ_LOAD_STAT : Nat := 0x23074
abbrev Reg.SEQ_BAR_TIME_LO (i : Nat) : Nat := 0x024 * 0x1000 + 0x40 + 16 * i
abbrev Reg.SEQ_BAR_TIME_HI (i : Nat) : Nat := 0x024 * 0x1000 + 0x44 + 16 * i
abbrev Reg.SEQ_BAR_LAG (i : Nat) : Nat := 0x024 * 0x1000 + 0x48 + 16 * i
abbrev Reg.CP_CTL (n : Nat) : Nat := (0x100 + 16 * n + 0) * 0x1000 + 0x40
abbrev Reg.CP_STAT (n : Nat) : Nat := (0x100 + 16 * n + 0) * 0x1000 + 0x44
abbrev Reg.CP_PC (n : Nat) : Nat := (0x100 + 16 * n + 0) * 0x1000 + 0x48
abbrev Reg.CP_DISP_OVF (n : Nat) : Nat := (0x100 + 16 * n + 0) * 0x1000 + 0x4C
abbrev Reg.CP_VBASE (n : Nat) : Nat := (0x100 + 16 * n + 0) * 0x1000 + 0x50
abbrev Reg.CP_TCMP_LO (n : Nat) : Nat := (0x100 + 16 * n + 0) * 0x1000 + 0x54
abbrev Reg.CP_TCMP_HI (n : Nat) : Nat := (0x100 + 16 * n + 0) * 0x1000 + 0x58
abbrev Reg.CP_IC_CTL (n : Nat) : Nat := (0x100 + 16 * n + 0) * 0x1000 + 0x60
abbrev Reg.CP_IC_MISS (n : Nat) : Nat := (0x100 + 16 * n + 0) * 0x1000 + 0x64
abbrev Reg.CP_FETCH_WAIT (n : Nat) : Nat := (0x100 + 16 * n + 0) * 0x1000 + 0x68
abbrev Reg.CP_STALL (n : Nat) : Nat := (0x100 + 16 * n + 0) * 0x1000 + 0x6C
abbrev Reg.CP_FAULT_PC (n : Nat) : Nat := (0x100 + 16 * n + 0) * 0x1000 + 0x70
abbrev Reg.CP_FAULT_ADDR (n : Nat) : Nat := (0x100 + 16 * n + 0) * 0x1000 + 0x74
abbrev Reg.CP_FAULT_OP (n : Nat) : Nat := (0x100 + 16 * n + 0) * 0x1000 + 0x78
abbrev Reg.CP_FAULT_SRC (n : Nat) : Nat := (0x100 + 16 * n + 0) * 0x1000 + 0x7C
abbrev Reg.CP_IRQ_RAW (n : Nat) : Nat := (0x100 + 16 * n + 1) * 0x1000 + 0x40
abbrev Reg.CP_IRQ_EN (n : Nat) : Nat := (0x100 + 16 * n + 1) * 0x1000 + 0x44
abbrev Reg.CP_IRQ_PEND (n : Nat) : Nat := (0x100 + 16 * n + 1) * 0x1000 + 0x48
abbrev Reg.CP_IRQ_SET (n : Nat) : Nat := (0x100 + 16 * n + 1) * 0x1000 + 0x4C
abbrev Reg.CP_NMI (n : Nat) : Nat := (0x100 + 16 * n + 1) * 0x1000 + 0x50
abbrev Reg.CP_IST_PC (n : Nat) : Nat := (0x100 + 16 * n + 1) * 0x1000 + 0x54
abbrev Reg.CP_IST_SR (n : Nat) : Nat := (0x100 + 16 * n + 1) * 0x1000 + 0x58
abbrev Reg.CP_NPC (n : Nat) : Nat := (0x100 + 16 * n + 1) * 0x1000 + 0x5C
abbrev Reg.CP_NSR (n : Nat) : Nat := (0x100 + 16 * n + 1) * 0x1000 + 0x60
abbrev Reg.CP_CAP (n : Nat) : Nat := (0x100 + 16 * n + 1) * 0x1000 + 0x80
abbrev Reg.CP_TIME_LO (n : Nat) : Nat := (0x100 + 16 * n + 1) * 0x1000 + 0x84
abbrev Reg.CP_TIME_HI (n : Nat) : Nat := (0x100 + 16 * n + 1) * 0x1000 + 0x88
abbrev Reg.CP_TICK_LO (n : Nat) : Nat := (0x100 + 16 * n + 1) * 0x1000 + 0x8C
abbrev Reg.CP_TICK_HI (n : Nat) : Nat := (0x100 + 16 * n + 1) * 0x1000 + 0x90
abbrev Reg.CP_TSTART_LO (n : Nat) : Nat := (0x100 + 16 * n + 1) * 0x1000 + 0x94
abbrev Reg.CP_TSTART_HI (n : Nat) : Nat := (0x100 + 16 * n + 1) * 0x1000 + 0x98
abbrev Reg.VU_VL (n : Nat) : Nat := (0x100 + 16 * n + 2) * 0x1000 + 0x40
abbrev Reg.VU_VTYPE (n : Nat) : Nat := (0x100 + 16 * n + 2) * 0x1000 + 0x44
abbrev Reg.VU_VSTART (n : Nat) : Nat := (0x100 + 16 * n + 2) * 0x1000 + 0x48
abbrev Reg.VU_FLAGS (n : Nat) : Nat := (0x100 + 16 * n + 2) * 0x1000 + 0x4C
abbrev Reg.VU_FAULT (n : Nat) : Nat := (0x100 + 16 * n + 2) * 0x1000 + 0x50
abbrev Reg.VU_FAULT_PC (n : Nat) : Nat := (0x100 + 16 * n + 2) * 0x1000 + 0x54
abbrev Reg.VU_FAULT_ADDR (n : Nat) : Nat := (0x100 + 16 * n + 2) * 0x1000 + 0x58
abbrev Reg.MAC_XP (n i : Nat) : Nat := (0x100 + 16 * n + 3) * 0x1000 + 0x40 + 4 * i
abbrev Reg.MAC_YP (n i : Nat) : Nat := (0x100 + 16 * n + 3) * 0x1000 + 0x50 + 4 * i
abbrev Reg.MAC_CB_BASE (n i : Nat) : Nat := (0x100 + 16 * n + 3) * 0x1000 + 0x60 + 8 * i
abbrev Reg.MAC_CB_LEN (n i : Nat) : Nat := (0x100 + 16 * n + 3) * 0x1000 + 0x64 + 8 * i
abbrev Reg.MAC_PCFG (n : Nat) : Nat := (0x100 + 16 * n + 3) * 0x1000 + 0x80
abbrev Reg.MAC_INC (n : Nat) : Nat := (0x100 + 16 * n + 3) * 0x1000 + 0x84
abbrev Reg.MAC_STAT (n : Nat) : Nat := (0x100 + 16 * n + 3) * 0x1000 + 0x88
abbrev Reg.MAC_RCTL (n : Nat) : Nat := (0x100 + 16 * n + 3) * 0x1000 + 0x8C
abbrev Reg.MAC_LC (n i : Nat) : Nat := (0x100 + 16 * n + 3) * 0x1000 + 0x90 + 4 * i
abbrev Reg.MAC_RBEG (n i : Nat) : Nat := (0x100 + 16 * n + 3) * 0x1000 + 0xA0 + 4 * i
abbrev Reg.MAC_REND (n i : Nat) : Nat := (0x100 + 16 * n + 3) * 0x1000 + 0xB0 + 4 * i
abbrev Reg.MAC_ACC_LO (n i : Nat) : Nat := (0x100 + 16 * n + 3) * 0x1000 + 0xC0 + 8 * i
abbrev Reg.MAC_ACC_HI (n i : Nat) : Nat := (0x100 + 16 * n + 3) * 0x1000 + 0xC4 + 8 * i
abbrev Reg.VLT_SEG_PWR (n : Nat) : Nat := (0x100 + 16 * n + 4) * 0x1000 + 0x40
abbrev Reg.VLT_SEG_STAT (n : Nat) : Nat := (0x100 + 16 * n + 4) * 0x1000 + 0x44
abbrev Reg.VLT_TB_BASE (n i : Nat) : Nat := (0x100 + 16 * n + 4) * 0x1000 + 0x50 + 8 * i
abbrev Reg.VLT_TB_SIZE (n i : Nat) : Nat := (0x100 + 16 * n + 4) * 0x1000 + 0x54 + 8 * i
abbrev Reg.VLT_ECC_CE (n : Nat) : Nat := (0x100 + 16 * n + 4) * 0x1000 + 0x70
abbrev Reg.VLT_ECC_UE (n : Nat) : Nat := (0x100 + 16 * n + 4) * 0x1000 + 0x74
abbrev Reg.VLT_ECC_ADDR (n : Nat) : Nat := (0x100 + 16 * n + 4) * 0x1000 + 0x78
abbrev Reg.VLT_SCRUB_CTL (n : Nat) : Nat := (0x100 + 16 * n + 4) * 0x1000 + 0x80
abbrev Reg.VLT_SCRUB_POS (n : Nat) : Nat := (0x100 + 16 * n + 4) * 0x1000 + 0x84
abbrev Reg.VLT_SCRUB_PASS (n : Nat) : Nat := (0x100 + 16 * n + 4) * 0x1000 + 0x88
abbrev Reg.VLT_CONF (n i : Nat) : Nat := (0x100 + 16 * n + 5) * 0x1000 + 0x40 + 4 * i
abbrev Reg.VLT_WAIT_MAX (n : Nat) : Nat := (0x100 + 16 * n + 5) * 0x1000 + 0x60
abbrev Reg.VLT_ARR_CNT (n : Nat) : Nat := (0x100 + 16 * n + 5) * 0x1000 + 0x64
abbrev Reg.VLT_OFF_DROP (n : Nat) : Nat := (0x100 + 16 * n + 5) * 0x1000 + 0x68
abbrev Reg.DOME_CTL (n : Nat) : Nat := (0x100 + 16 * n + 6) * 0x1000 + 0x40
abbrev Reg.DOME_STAT (n : Nat) : Nat := (0x100 + 16 * n + 6) * 0x1000 + 0x44
abbrev Reg.DOME_ERR_D (n i : Nat) : Nat := (0x100 + 16 * n + 6) * 0x1000 + 0x60 + 4 * i
abbrev Reg.DOME_RUN_CNT (n : Nat) : Nat := (0x100 + 16 * n + 7) * 0x1000 + 0x40
abbrev Reg.DOME_LOADW_CNT (n : Nat) : Nat := (0x100 + 16 * n + 7) * 0x1000 + 0x44
abbrev Reg.DOME_ARRAY_CYC (n : Nat) : Nat := (0x100 + 16 * n + 7) * 0x1000 + 0x48
abbrev Reg.DOME_POS_CNT (n : Nat) : Nat := (0x100 + 16 * n + 7) * 0x1000 + 0x4C
abbrev Reg.DOME_QFULL (n : Nat) : Nat := (0x100 + 16 * n + 7) * 0x1000 + 0x50
abbrev Reg.DOME_NAN (n : Nat) : Nat := (0x100 + 16 * n + 7) * 0x1000 + 0x54
abbrev Reg.DOME_POISON_POS (n : Nat) : Nat := (0x100 + 16 * n + 7) * 0x1000 + 0x58
abbrev Reg.DOME_TNS_CFG (n i : Nat) : Nat := (0x100 + 16 * n + 8) * 0x1000 + 0x40 + 8 * i
abbrev Reg.DOME_TNS_EXP (n i : Nat) : Nat := (0x100 + 16 * n + 8) * 0x1000 + 0x44 + 8 * i
abbrev Reg.DOME_CS_CONV (n i : Nat) : Nat := (0x100 + 16 * n + 9) * 0x1000 + 0x40 + 16 * i
abbrev Reg.DOME_CS_CLIP (n i : Nat) : Nat := (0x100 + 16 * n + 9) * 0x1000 + 0x44 + 16 * i
abbrev Reg.DOME_CS_MAX (n i : Nat) : Nat := (0x100 + 16 * n + 9) * 0x1000 + 0x48 + 16 * i
abbrev Reg.DOME_ADP_CTL (n : Nat) : Nat := (0x100 + 16 * n + 9) * 0x1000 + 0x440
abbrev Reg.DOME_LOG_BASE (n : Nat) : Nat := (0x100 + 16 * n + 9) * 0x1000 + 0x444
abbrev Reg.DOME_LOG_LEN (n : Nat) : Nat := (0x100 + 16 * n + 9) * 0x1000 + 0x448
abbrev Reg.DOME_LOG_POS (n : Nat) : Nat := (0x100 + 16 * n + 9) * 0x1000 + 0x44C
abbrev Reg.DOME_WREG_BASE0 (n i : Nat) : Nat := (0x100 + 16 * n + 9) * 0x1000 + 0x460 + 16 * i
abbrev Reg.DOME_WREG_BASE1 (n i : Nat) : Nat := (0x100 + 16 * n + 9) * 0x1000 + 0x464 + 16 * i
abbrev Reg.DOME_WREG_LEN (n i : Nat) : Nat := (0x100 + 16 * n + 9) * 0x1000 + 0x468 + 16 * i
abbrev Reg.DOME_WREG_CTL (n i : Nat) : Nat := (0x100 + 16 * n + 8) * 0x1000 + 0x240 + 4 * i
abbrev Reg.DOME_UPD_CTL (n : Nat) : Nat := (0x100 + 16 * n + 9) * 0x1000 + 0x4A0
abbrev Reg.DOME_UPD_REG (n : Nat) : Nat := (0x100 + 16 * n + 9) * 0x1000 + 0x4A4
abbrev Reg.DOME_UPD_WOFF (n : Nat) : Nat := (0x100 + 16 * n + 9) * 0x1000 + 0x4A8
abbrev Reg.DOME_UPD_GSRC (n : Nat) : Nat := (0x100 + 16 * n + 9) * 0x1000 + 0x4AC
abbrev Reg.DOME_UPD_MSRC (n : Nat) : Nat := (0x100 + 16 * n + 9) * 0x1000 + 0x4B0
abbrev Reg.DOME_UPD_VSRC (n : Nat) : Nat := (0x100 + 16 * n + 9) * 0x1000 + 0x4B4
abbrev Reg.DOME_UPD_TDST (n : Nat) : Nat := (0x100 + 16 * n + 9) * 0x1000 + 0x4B8
abbrev Reg.DOME_UPD_LR (n : Nat) : Nat := (0x100 + 16 * n + 9) * 0x1000 + 0x4BC
abbrev Reg.DOME_UPD_BETA1 (n : Nat) : Nat := (0x100 + 16 * n + 9) * 0x1000 + 0x4C0
abbrev Reg.DOME_UPD_BETA2 (n : Nat) : Nat := (0x100 + 16 * n + 9) * 0x1000 + 0x4C4
abbrev Reg.DOME_UPD_EPS (n : Nat) : Nat := (0x100 + 16 * n + 9) * 0x1000 + 0x4C8
abbrev Reg.DOME_UPD_GSH (n : Nat) : Nat := (0x100 + 16 * n + 9) * 0x1000 + 0x4CC
abbrev Reg.DOME_UPD_CNT (n : Nat) : Nat := (0x100 + 16 * n + 9) * 0x1000 + 0x4D0
abbrev Reg.DOME_UPD_SKIP (n : Nat) : Nat := (0x100 + 16 * n + 9) * 0x1000 + 0x4D4
abbrev Reg.DOME_WIN_POS (n i : Nat) : Nat := (0x100 + 16 * n + 6) * 0x1000 + 0x80 + 8 * i
abbrev Reg.DOME_WIN_TAP (n i : Nat) : Nat := (0x100 + 16 * n + 6) * 0x1000 + 0x84 + 8 * i
abbrev Reg.DMA_SRC_LO (pg i : Nat) : Nat := pg * 0x1000 + 0x40 + 64 * i
abbrev Reg.DMA_SRC_HI (pg i : Nat) : Nat := pg * 0x1000 + 0x44 + 64 * i
abbrev Reg.DMA_DST_LO (pg i : Nat) : Nat := pg * 0x1000 + 0x48 + 64 * i
abbrev Reg.DMA_DST_HI (pg i : Nat) : Nat := pg * 0x1000 + 0x4C + 64 * i
abbrev Reg.DMA_CNT (pg i : Nat) : Nat := pg * 0x1000 + 0x50 + 64 * i
abbrev Reg.DMA_CTL (pg i : Nat) : Nat := pg * 0x1000 + 0x54 + 64 * i
abbrev Reg.DMA_SHAPE (pg i : Nat) : Nat := pg * 0x1000 + 0x58 + 64 * i
abbrev Reg.DMA_TSTEP (pg i : Nat) : Nat := pg * 0x1000 + 0x5C + 64 * i
abbrev Reg.DMA_STAT (pg i : Nat) : Nat := pg * 0x1000 + 0x60 + 64 * i
abbrev Reg.DMA_LEFT (pg i : Nat) : Nat := pg * 0x1000 + 0x64 + 64 * i
abbrev Reg.DMA_DONE (pg i : Nat) : Nat := pg * 0x1000 + 0x68 + 64 * i
abbrev Reg.DMA_POISON (pg i : Nat) : Nat := pg * 0x1000 + 0x6C + 64 * i
abbrev Reg.STR_IBASE_LO (n i : Nat) : Nat := (0x100 + 16 * n + 10) * 0x1000 + 0x40 + 64 * i
abbrev Reg.STR_IBASE_HI (n i : Nat) : Nat := (0x100 + 16 * n + 10) * 0x1000 + 0x44 + 64 * i
abbrev Reg.STR_DBASE_LO (n i : Nat) : Nat := (0x100 + 16 * n + 10) * 0x1000 + 0x48 + 64 * i
abbrev Reg.STR_DBASE_HI (n i : Nat) : Nat := (0x100 + 16 * n + 10) * 0x1000 + 0x4C + 64 * i
abbrev Reg.STR_RING (n i : Nat) : Nat := (0x100 + 16 * n + 10) * 0x1000 + 0x50 + 64 * i
abbrev Reg.STR_ROW (n i : Nat) : Nat := (0x100 + 16 * n + 10) * 0x1000 + 0x54 + 64 * i
abbrev Reg.STR_XSTEP (n i : Nat) : Nat := (0x100 + 16 * n + 10) * 0x1000 + 0x58 + 64 * i
abbrev Reg.STR_YSTEP (n i : Nat) : Nat := (0x100 + 16 * n + 10) * 0x1000 + 0x5C + 64 * i
abbrev Reg.STR_PITCH (n i : Nat) : Nat := (0x100 + 16 * n + 10) * 0x1000 + 0x60 + 64 * i
abbrev Reg.STR_COUNT (n i : Nat) : Nat := (0x100 + 16 * n + 10) * 0x1000 + 0x64 + 64 * i
abbrev Reg.STR_CTL (n i : Nat) : Nat := (0x100 + 16 * n + 10) * 0x1000 + 0x68 + 64 * i
abbrev Reg.STR_STAT (n i : Nat) : Nat := (0x100 + 16 * n + 10) * 0x1000 + 0x6C + 64 * i
abbrev Reg.STR_HEAD (n i : Nat) : Nat := (0x100 + 16 * n + 10) * 0x1000 + 0x70 + 64 * i
abbrev Reg.STR_READY (n i : Nat) : Nat := (0x100 + 16 * n + 10) * 0x1000 + 0x74 + 64 * i
abbrev Reg.STR_POISON (n i : Nat) : Nat := (0x100 + 16 * n + 10) * 0x1000 + 0x78 + 64 * i
abbrev Reg.STR_UNDER (n i : Nat) : Nat := (0x100 + 16 * n + 10) * 0x1000 + 0x7C + 64 * i
abbrev Reg.LAN_CTL : Nat := 0xC0040
abbrev Reg.LAN_STAT : Nat := 0xC0044
abbrev Reg.LAN_PRE_ADDR_LO : Nat := 0xC0048
abbrev Reg.LAN_PRE_ADDR_HI : Nat := 0xC004C
abbrev Reg.LAN_PRE_LEN : Nat := 0xC0050
abbrev Reg.LAN_HIT : Nat := 0xC0054
abbrev Reg.LAN_MISS : Nat := 0xC0058
abbrev Reg.LAN_MERGE : Nat := 0xC005C
abbrev Reg.LAN_EVICT : Nat := 0xC0060
abbrev Reg.LAN_ECC_CE : Nat := 0xC0064
abbrev Reg.LAN_ECC_UE : Nat := 0xC0068
abbrev Reg.LAN_BLOCKS : Nat := 0xC006C
abbrev Reg.LAN_BAD : Nat := 0xC0070
abbrev Reg.EVT_CNT (n i : Nat) : Nat := (0x100 + 16 * n + 12) * 0x1000 + 0x40 + 4 * i
abbrev Reg.EVT_CNT_HI (n i : Nat) : Nat := (0x100 + 16 * n + 13) * 0x1000 + 0x40 + 4 * i
abbrev Reg.EVT_CTR_CMD (n : Nat) : Nat := (0x100 + 16 * n + 12) * 0x1000 + 0x440
abbrev Reg.EVT_CTR_VAL (n : Nat) : Nat := (0x100 + 16 * n + 12) * 0x1000 + 0x444
abbrev Reg.EVT_WATCH_CFG (n i : Nat) : Nat := (0x100 + 16 * n + 12) * 0x1000 + 0x450 + 8 * i
abbrev Reg.EVT_WATCH_VAL (n i : Nat) : Nat := (0x100 + 16 * n + 12) * 0x1000 + 0x454 + 8 * i
abbrev Reg.EVT_TX (n : Nat) : Nat := (0x100 + 16 * n + 12) * 0x1000 + 0x470
abbrev Reg.EVT_RX (n : Nat) : Nat := (0x100 + 16 * n + 12) * 0x1000 + 0x474
abbrev Reg.EVT_OUTST (n : Nat) : Nat := (0x100 + 16 * n + 12) * 0x1000 + 0x478
abbrev Reg.EVT_FENCE_WAIT (n : Nat) : Nat := (0x100 + 16 * n + 12) * 0x1000 + 0x47C
abbrev Reg.EVT_AUD_CTL (n : Nat) : Nat := (0x100 + 16 * n + 12) * 0x1000 + 0x480
abbrev Reg.EVT_AUD_MISS (n : Nat) : Nat := (0x100 + 16 * n + 12) * 0x1000 + 0x484
abbrev Reg.EVT_AUD_CNT (n : Nat) : Nat := (0x100 + 16 * n + 12) * 0x1000 + 0x488
abbrev Reg.EVT_DROP (n : Nat) : Nat := (0x100 + 16 * n + 12) * 0x1000 + 0x48C
abbrev Reg.EVT_REFUSED (n : Nat) : Nat := (0x100 + 16 * n + 12) * 0x1000 + 0x490
abbrev Reg.EVT_AUD_CFG (n i : Nat) : Nat := (0x100 + 16 * n + 12) * 0x1000 + 0x4C0 + 8 * i
abbrev Reg.EVT_AUD_LAST (n i : Nat) : Nat := (0x100 + 16 * n + 12) * 0x1000 + 0x4C4 + 8 * i
abbrev Reg.SEQ_HB_MASK : Nat := 0x22140
abbrev Reg.SEQ_HB_SEEN : Nat := 0x22144
abbrev Reg.SEQ_HB_MISS : Nat := 0x22148
abbrev Reg.SEQ_HB_CNT : Nat := 0x2214C
abbrev Reg.SP_CFG (p : Nat) : Nat := (0x080 + p) * 0x1000 + 0x40
abbrev Reg.SP_LINE (p : Nat) : Nat := (0x080 + p) * 0x1000 + 0x44
abbrev Reg.SP_FS_CFG (p : Nat) : Nat := (0x080 + p) * 0x1000 + 0x48
abbrev Reg.SP_BL01 (p : Nat) : Nat := (0x080 + p) * 0x1000 + 0x4C
abbrev Reg.SP_BL23 (p : Nat) : Nat := (0x080 + p) * 0x1000 + 0x50
abbrev Reg.SP_GRID (p : Nat) : Nat := (0x080 + p) * 0x1000 + 0x54
abbrev Reg.SP_TRIG_CFG (p : Nat) : Nat := (0x080 + p) * 0x1000 + 0x58
abbrev Reg.SP_TRIG_OFF (p : Nat) : Nat := (0x080 + p) * 0x1000 + 0x5C
abbrev Reg.SP_TRIG_PER (p : Nat) : Nat := (0x080 + p) * 0x1000 + 0x60
abbrev Reg.SP_STAT (p : Nat) : Nat := (0x080 + p) * 0x1000 + 0x64
abbrev Reg.SP_ARM_STAT (p : Nat) : Nat := (0x080 + p) * 0x1000 + 0x68
abbrev Reg.SP_STRIPE (p i : Nat) : Nat := (0x080 + p) * 0x1000 + 0x70 + 4 * i
abbrev Reg.SP_TBL_IDX (p : Nat) : Nat := (0x080 + p) * 0x1000 + 0x80
abbrev Reg.SP_TBL_DATA (p : Nat) : Nat := (0x080 + p) * 0x1000 + 0x84
abbrev Reg.SP_I2C_CMD (p : Nat) : Nat := (0x080 + p) * 0x1000 + 0x90
abbrev Reg.SP_I2C_TX (p : Nat) : Nat := (0x080 + p) * 0x1000 + 0x94
abbrev Reg.SP_I2C_RX (p : Nat) : Nat := (0x080 + p) * 0x1000 + 0x98
abbrev Reg.SP_I2C_STAT (p : Nat) : Nat := (0x080 + p) * 0x1000 + 0x9C
abbrev Reg.SP_SPI_CTL (p : Nat) : Nat := (0x080 + p) * 0x1000 + 0xA0
abbrev Reg.SP_SPI_TX (p : Nat) : Nat := (0x080 + p) * 0x1000 + 0xA4
abbrev Reg.SP_SPI_RX (p : Nat) : Nat := (0x080 + p) * 0x1000 + 0xA8
abbrev Reg.SP_LINES (p : Nat) : Nat := (0x080 + p) * 0x1000 + 0xC0
abbrev Reg.SP_DISC (p : Nat) : Nat := (0x080 + p) * 0x1000 + 0xC4
abbrev Reg.SP_OTHER (p : Nat) : Nat := (0x080 + p) * 0x1000 + 0xC8
abbrev Reg.SP_ECC_CE (p : Nat) : Nat := (0x080 + p) * 0x1000 + 0xCC
abbrev Reg.SP_HDR_UE (p : Nat) : Nat := (0x080 + p) * 0x1000 + 0xD0
abbrev Reg.SP_CRC (p : Nat) : Nat := (0x080 + p) * 0x1000 + 0xD4
abbrev Reg.SP_WC (p : Nat) : Nat := (0x080 + p) * 0x1000 + 0xD8
abbrev Reg.SP_OVF (p : Nat) : Nat := (0x080 + p) * 0x1000 + 0xDC
abbrev Reg.SP_SAT (p : Nat) : Nat := (0x080 + p) * 0x1000 + 0xE0
abbrev Reg.SP_ARM_REJ (p : Nat) : Nat := (0x080 + p) * 0x1000 + 0xE4
abbrev Reg.TIO_CTL : Nat := 0x40040
abbrev Reg.TIO_STAT : Nat := 0x40044
abbrev Reg.TIO_FIRED : Nat := 0x40048
abbrev Reg.TIO_LATE : Nat := 0x4004C
abbrev Reg.TIO_ORDER : Nat := 0x40050
abbrev Reg.TIO_FULL : Nat := 0x40054
abbrev Reg.TIO_BAD : Nat := 0x40058
abbrev Reg.TIO_JOIN : Nat := 0x4005C
abbrev Reg.TIO_FLUSHED : Nat := 0x40060
abbrev Reg.TIO_REJ_W0 : Nat := 0x40070
abbrev Reg.TIO_REJ_W1 : Nat := 0x40074
abbrev Reg.TIO_REJ_W2 : Nat := 0x40078
abbrev Reg.TIO_REJ_W3 : Nat := 0x4007C
abbrev Reg.TIO_REJ_INFO : Nat := 0x40080
abbrev Reg.TIO_INJ_W0 : Nat := 0x40090
abbrev Reg.TIO_INJ_W1 : Nat := 0x40094
abbrev Reg.TIO_INJ_W2 : Nat := 0x40098
abbrev Reg.TIO_INJ_W3 : Nat := 0x4009C
abbrev Reg.TIO_OCFG (i : Nat) : Nat := 0x041 * 0x1000 + 0x40 + 4 * i
abbrev Reg.TIO_IN_CFG (i : Nat) : Nat := 0x042 * 0x1000 + 0x40 + 32 * i
abbrev Reg.TIO_IN_RING (i : Nat) : Nat := 0x042 * 0x1000 + 0x44 + 32 * i
abbrev Reg.TIO_IN_CAP_LO (i : Nat) : Nat := 0x042 * 0x1000 + 0x48 + 32 * i
abbrev Reg.TIO_IN_CAP_HI (i : Nat) : Nat := 0x042 * 0x1000 + 0x4C + 32 * i
abbrev Reg.TIO_IN_CAP_STAT (i : Nat) : Nat := 0x042 * 0x1000 + 0x50 + 32 * i
abbrev Reg.TIO_ENC_CFG (i : Nat) : Nat := 0x043 * 0x1000 + 0x40 + 64 * i
abbrev Reg.TIO_ENC_POS (i : Nat) : Nat := 0x043 * 0x1000 + 0x44 + 64 * i
abbrev Reg.TIO_ENC_TLO (i : Nat) : Nat := 0x043 * 0x1000 + 0x48 + 64 * i
abbrev Reg.TIO_ENC_THI (i : Nat) : Nat := 0x043 * 0x1000 + 0x4C + 64 * i
abbrev Reg.TIO_ENC_TPOS (i : Nat) : Nat := 0x043 * 0x1000 + 0x50 + 64 * i
abbrev Reg.TIO_ENC_ZPOS (i : Nat) : Nat := 0x043 * 0x1000 + 0x54 + 64 * i
abbrev Reg.TIO_ENC_ZTLO (i : Nat) : Nat := 0x043 * 0x1000 + 0x58 + 64 * i
abbrev Reg.TIO_ENC_ZTHI (i : Nat) : Nat := 0x043 * 0x1000 + 0x5C + 64 * i
abbrev Reg.TIO_ENC_ERR (i : Nat) : Nat := 0x043 * 0x1000 + 0x60 + 64 * i
abbrev Reg.OCU_CTL : Nat := 0x60040
abbrev Reg.OCU_WBASE_LO : Nat := 0x60044
abbrev Reg.OCU_WBASE_HI : Nat := 0x60048
abbrev Reg.OCU_LINK : Nat := 0x6004C
abbrev Reg.OCU_PCI_ID : Nat := 0x60050
abbrev Reg.OCU_NOWN_CNT : Nat := 0x60054
abbrev Reg.OCU_NOWN_LAST : Nat := 0x60058
abbrev Reg.OCU_HAND_SKIP : Nat := 0x6005C
abbrev Reg.OCU_HAND : Nat := 0x61040
abbrev Reg.OCU_HAND_STAT : Nat := 0x61044
abbrev Reg.OCU_HDB : Nat := 0x61048
abbrev Reg.OCU_DDB : Nat := 0x6104C
abbrev Reg.OCU_RING_CFG (i : Nat) : Nat := 0x061 * 0x1000 + 0x80 + 8 * i
abbrev Reg.OCU_RING_LEN (i : Nat) : Nat := 0x061 * 0x1000 + 0x84 + 8 * i
abbrev Reg.OCU_OWN (i : Nat) : Nat := 0x062 * 0x1000 + 0x40 + 4 * i
abbrev Reg.AXL_CTL (a : Nat) : Nat := (0x0A0 + a) * 0x1000 + 0x40
abbrev Reg.AXL_STAT (a : Nat) : Nat := (0x0A0 + a) * 0x1000 + 0x44
abbrev Reg.AXL_PEER (a : Nat) : Nat := (0x0A0 + a) * 0x1000 + 0x48
abbrev Reg.AXL_RETRAIN_CNT (a : Nat) : Nat := (0x0A0 + a) * 0x1000 + 0x4C
abbrev Reg.AXL_CRC_ERR (a : Nat) : Nat := (0x0A0 + a) * 0x1000 + 0x50
abbrev Reg.AXL_REPLAY (a : Nat) : Nat := (0x0A0 + a) * 0x1000 + 0x54
abbrev Reg.AXL_WIN_REJ (a : Nat) : Nat := (0x0A0 + a) * 0x1000 + 0x58
abbrev Reg.AXL_BAD_MSG (a : Nat) : Nat := (0x0A0 + a) * 0x1000 + 0x5C
abbrev Reg.AXL_TX_FLITS (a : Nat) : Nat := (0x0A0 + a) * 0x1000 + 0x60
abbrev Reg.AXL_RX_FLITS (a : Nat) : Nat := (0x0A0 + a) * 0x1000 + 0x64
abbrev Reg.AXL_TPRB (a : Nat) : Nat := (0x0A0 + a) * 0x1000 + 0x70
abbrev Reg.AXL_TOFS (a : Nat) : Nat := (0x0A0 + a) * 0x1000 + 0x74
abbrev Reg.AXL_TDLY (a : Nat) : Nat := (0x0A0 + a) * 0x1000 + 0x78
abbrev Reg.AXL_RD_SRC_LO (a i : Nat) : Nat := (0x0A0 + a) * 0x1000 + 0x100 + 64 * i
abbrev Reg.AXL_RD_SRC_HI (a i : Nat) : Nat := (0x0A0 + a) * 0x1000 + 0x104 + 64 * i
abbrev Reg.AXL_RD_WOFF_LO (a i : Nat) : Nat := (0x0A0 + a) * 0x1000 + 0x108 + 64 * i
abbrev Reg.AXL_RD_WOFF_HI (a i : Nat) : Nat := (0x0A0 + a) * 0x1000 + 0x10C + 64 * i
abbrev Reg.AXL_RD_CNT (a i : Nat) : Nat := (0x0A0 + a) * 0x1000 + 0x110 + 64 * i
abbrev Reg.AXL_RD_CTL (a i : Nat) : Nat := (0x0A0 + a) * 0x1000 + 0x114 + 64 * i
abbrev Reg.AXL_RD_STAT (a i : Nat) : Nat := (0x0A0 + a) * 0x1000 + 0x118 + 64 * i
abbrev Reg.AXL_RD_LEFT (a i : Nat) : Nat := (0x0A0 + a) * 0x1000 + 0x11C + 64 * i
abbrev Reg.AXL_RD_DONE (a i : Nat) : Nat := (0x0A0 + a) * 0x1000 + 0x120 + 64 * i
abbrev Reg.AXL_RD_EVT (a i : Nat) : Nat := (0x0A0 + a) * 0x1000 + 0x124 + 64 * i
abbrev Reg.AXL_WIN_BASE_LO (a i : Nat) : Nat := (0x0A0 + a) * 0x1000 + 0x400 + 16 * i
abbrev Reg.AXL_WIN_BASE_HI (a i : Nat) : Nat := (0x0A0 + a) * 0x1000 + 0x404 + 16 * i
abbrev Reg.AXL_WIN_SIZE (a i : Nat) : Nat := (0x0A0 + a) * 0x1000 + 0x408 + 16 * i
abbrev Reg.AXL_WIN_CTL (a i : Nat) : Nat := (0x0A0 + a) * 0x1000 + 0x40C + 16 * i
abbrev Reg.DRC_STAT (c : Nat) : Nat := (0x0B0 + c) * 0x1000 + 0x40
abbrev Reg.DRC_ECC_CE (c : Nat) : Nat := (0x0B0 + c) * 0x1000 + 0x44
abbrev Reg.DRC_ECC_UE (c : Nat) : Nat := (0x0B0 + c) * 0x1000 + 0x48
abbrev Reg.DRC_ECC_ADDR_LO (c : Nat) : Nat := (0x0B0 + c) * 0x1000 + 0x4C
abbrev Reg.DRC_ECC_ADDR_HI (c : Nat) : Nat := (0x0B0 + c) * 0x1000 + 0x50
abbrev Reg.DRC_TEMP (c : Nat) : Nat := (0x0B0 + c) * 0x1000 + 0x54
abbrev Reg.DRC_DRIFT (c : Nat) : Nat := (0x0B0 + c) * 0x1000 + 0x58
abbrev Reg.DRC_ADJ_CNT (c : Nat) : Nat := (0x0B0 + c) * 0x1000 + 0x5C
abbrev Reg.DRC_SCRUB_CTL (c : Nat) : Nat := (0x0B0 + c) * 0x1000 + 0x60
abbrev Reg.DRC_SCRUB_POS (c : Nat) : Nat := (0x0B0 + c) * 0x1000 + 0x64
abbrev Reg.DRC_SCRUB_PASS (c : Nat) : Nat := (0x0B0 + c) * 0x1000 + 0x68
abbrev Reg.DRC_RD_BLK (c : Nat) : Nat := (0x0B0 + c) * 0x1000 + 0x6C
abbrev Reg.DRC_WR_BLK (c : Nat) : Nat := (0x0B0 + c) * 0x1000 + 0x70
abbrev Reg.KEEP_STATE : Nat := 0x40
abbrev Reg.KEEP_BOOT : Nat := 0x44
abbrev Reg.KEEP_SVN : Nat := 0x48
abbrev Reg.KEEP_SVN_MIN : Nat := 0x4C
abbrev Reg.KEEP_GRID : Nat := 0x50
abbrev Reg.KEEP_SPIRES : Nat := 0x54
abbrev Reg.KEEP_PFAIL_LO : Nat := 0x58
abbrev Reg.KEEP_PFAIL_HI : Nat := 0x5C
abbrev Reg.KEEP_DRAM : Nat := 0x60
abbrev Reg.KEEP_VREP : Nat := 0x64
abbrev Reg.KEEP_READY_LO : Nat := 0x68
abbrev Reg.KEEP_READY_HI : Nat := 0x6C
abbrev Reg.KEEP_CMD : Nat := 0x70
abbrev Reg.KEEP_CMD_STAT : Nat := 0x74
abbrev Reg.KEEP_HDB_CNT : Nat := 0x78
abbrev Reg.KEEP_CAP : Nat := 0x7C
abbrev Reg.KEEP_MBOX_IN (i : Nat) : Nat := 0x000 * 0x1000 + 0x80 + 4 * i
abbrev Reg.KEEP_MBOX_OUT (i : Nat) : Nat := 0x000 * 0x1000 + 0x90 + 4 * i
abbrev Reg.KEEP_REC_ADDR : Nat := 0xA0
abbrev Reg.KEEP_REC_DATA : Nat := 0xA4
abbrev Reg.KEEP_DIE_ID_LO : Nat := 0xA8
abbrev Reg.KEEP_DIE_ID_HI : Nat := 0xAC
abbrev Reg.KEEP_APER : Nat := 0xB0
abbrev Reg.KEEP_FAULT : Nat := 0xC0
abbrev Reg.KEEP_FAULT_T_LO : Nat := 0xC4
abbrev Reg.KEEP_FAULT_T_HI : Nat := 0xC8
abbrev Reg.KEEP_FAULT_TICK : Nat := 0xCC
abbrev Reg.KEEP_CLASS_CNT (i : Nat) : Nat := 0x000 * 0x1000 + 0xD0 + 4 * i
abbrev Reg.KEEP_IRQ_SUM : Nat := 0xF0
abbrev Reg.KEEP_IRQ_HOST : Nat := 0xF4
abbrev Reg.KEEP_IRQ_KEEP : Nat := 0xF8
abbrev Reg.KEEP_IRQ_EOI : Nat := 0xFC
abbrev Reg.KEEP_IRQ_SPIRE : Nat := 0x100
abbrev Reg.KEEP_IRQ_MISC : Nat := 0x104
abbrev Reg.KEEP_AVS : Nat := 0x140
abbrev Reg.KEEP_CLK_STAT : Nat := 0x144
abbrev Reg.KEEP_THERM_CFG : Nat := 0x148
abbrev Reg.KEEP_THR_CTL : Nat := 0x14C
abbrev Reg.KEEP_THR_STAT : Nat := 0x150
abbrev Reg.KEEP_THR_US : Nat := 0x154
abbrev Reg.KEEP_SPIRE_PWR : Nat := 0x158
abbrev Reg.KEEP_SPIRE_PSTAT : Nat := 0x15C
abbrev Reg.KEEP_THERM (i : Nat) : Nat := 0x000 * 0x1000 + 0x160 + 4 * i

end Sys2Proof.Machine
end

