-- ==== Sys2Proof/Machine/RegTable.lean ====
section
/-! DEFINITION. The register tables of the spec (every chapter's register section), one row per register of a page body:
offset, stride and count of its instances, the S/C mark (R9), and the masks of its RW, RC, WO and W1C fields (R6) with its reset value.
Bits in no mask are read-only. The block header of R5 is the same on every page and stands in Ops. -/

namespace Sys2Proof.Machine

/-- One register row of a page body (R4 to R9). -/
structure RegDesc where
  off : Nat
  stride : Nat := 0
  count : Nat := 1
  sc : Bool := false
  rw : Word := 0
  rc : Word := 0
  wo : Word := 0
  w1c : Word := 0
  reset : Word := 0
  rstep : Word := 0
  deriving DecidableEq, Repr

/-- Registers of the timebase page 0x010. -/
def RegTable.time : List RegDesc :=
  [{ off := 0x40 },
   { off := 0x44 },
   { off := 0x48 },
   { off := 0x4C },
   { off := 0x50 },
   { off := 0x54 },
   { off := 0x58 },
   { off := 0x5C },
   { off := 0x60 },
   { off := 0x64, rw := 0xFFFF },
   { off := 0x68, rw := 0xFFFFFF, reset := 0x1000 },
   { off := 0x6C }] ++
  [{ off := 0x70, rw := 0xFFFFFFFF },
   { off := 0x74, rw := 0x3, reset := 0x2 },
   { off := 0x78, stride := 4, count := 4, rw := 0xFFFFFFFF },
   { off := 0x88 },
   { off := 0x8C, rc := 0xFFFFFFFF },
   { off := 0x90, rc := 0xFFFFFFFF },
   { off := 0x94, rc := 0xFFFFFFFF },
   { off := 0x98, rc := 0xFFFFFFFF },
   { off := 0x9C },
   { off := 0xA0 },
   { off := 0xA4, rc := 0x10000 },
   { off := 0xA8, rw := 0xFFFFFFFF }] ++
  [{ off := 0xAC, wo := 0xFFFFFFFF },
   { off := 0xB0, wo := 0xFFFFFFFF },
   { off := 0xB4, wo := 0xFFFFFFFF },
   { off := 0xB8, wo := 0xFFFFFFFF },
   { off := 0xBC, rw := 0x70 },
   { off := 0xC0, rw := 0xFFFF, reset := 0x3E8 }]

/-- Registers of the Belfry page 0x020. -/
def RegTable.seq0 : List RegDesc :=
  [{ off := 0x40, wo := 0xFFFFFFFF },
   { off := 0x44 },
   { off := 0x48 },
   { off := 0x4C },
   { off := 0x50, rc := 0xFFFFFFFF },
   { off := 0x54, rc := 0xFFFFFFFF },
   { off := 0x58, rc := 0xFFFFFFFF },
   { off := 0x5C, rc := 0xFFFFFFFF },
   { off := 0x60, rc := 0xFFFFFFFF },
   { off := 0x64, rc := 0xFFFFFFFF },
   { off := 0x68, rc := 0xFFFFFFFF },
   { off := 0x6C, rc := 0xFFFFFFFF }] ++
  [{ off := 0x70, rc := 0xFFFFFFFF }]

/-- Registers of the Belfry page 0x021. -/
def RegTable.seq1 : List RegDesc :=
  [{ off := 0x40, stride := 16, count := 8, rw := 0x1FFFF },
   { off := 0x44, stride := 16, count := 8, rw := 0x3FFFF },
   { off := 0x48, stride := 16, count := 8, rw := 0xFFFFFFFF },
   { off := 0x4C, stride := 16, count := 8, rw := 0x8000003F }]

/-- Registers of the Belfry page 0x022. -/
def RegTable.seq2 : List RegDesc :=
  [{ off := 0x40, stride := 4, count := 32 },
   { off := 0xC0, stride := 4, count := 32 },
   { off := 0x140, rw := 0xFFFFFFFF },
   { off := 0x144 },
   { off := 0x148, rc := 0xFFFFFFFF },
   { off := 0x14C, rc := 0xFFFFFFFF }]

/-- Registers of the Belfry page 0x023. -/
def RegTable.seq3 : List RegDesc :=
  [{ off := 0x40, rw := 0x8001FFFF },
   { off := 0x44, rw := 0xFFFFFFFF },
   { off := 0x48, rw := 0xFFFFFFFF },
   { off := 0x4C, rw := 0xFFFFFFFF },
   { off := 0x50, rw := 0xFFFFFFFF },
   { off := 0x60, rw := 0xFFFFFFF0 },
   { off := 0x64, rw := 0xFFFF },
   { off := 0x68, rw := 0x1FFFF },
   { off := 0x6C, rw := 0x3FFFF },
   { off := 0x70, rw := 0x107, wo := 0x80000000 },
   { off := 0x74 }]

/-- Registers of the Belfry page 0x024. -/
def RegTable.seq4 : List RegDesc :=
  [{ off := 0x40, stride := 16, count := 16 },
   { off := 0x44, stride := 16, count := 16 },
   { off := 0x48, stride := 16, count := 16 }]

/-- Registers of the spire page k = 0x0. -/
def RegTable.cp0 : List RegDesc :=
  [{ off := 0x40, rw := 0x1 },
   { off := 0x44, reset := 0x800000 },
   { off := 0x48 },
   { off := 0x4C, rc := 0xFFFFFFFF },
   { off := 0x50, rw := 0xFFF000 },
   { off := 0x54, rw := 0xFFFFFFFF, reset := 0xFFFFFFFF },
   { off := 0x58, rw := 0xFFFFFFFF, reset := 0xFFFFFFFF },
   { off := 0x60, rw := 0xF0, wo := 0x1 },
   { off := 0x64, rc := 0xFFFFFFFF },
   { off := 0x68, rc := 0xFFFFFFFF },
   { off := 0x6C, rc := 0xFFFFFFFF },
   { off := 0x70 }] ++
  [{ off := 0x74 },
   { off := 0x78 },
   { off := 0x7C }]

/-- Registers of the spire page k = 0x1. -/
def RegTable.cp1 : List RegDesc :=
  [{ off := 0x40, w1c := 0xFFFFFFFF },
   { off := 0x44, sc := true, rw := 0xFFFFFFFF },
   { off := 0x48 },
   { off := 0x4C, wo := 0xFFFFFFFF },
   { off := 0x50, wo := 0xFFFFFFFF },
   { off := 0x54, rw := 0xFFFFFFFF },
   { off := 0x58, rw := 0xFFFFFFFF },
   { off := 0x5C, rw := 0xFFFFFFFF },
   { off := 0x60, rw := 0xFFFFFFFF },
   { off := 0x80, reset := 0x200003F },
   { off := 0x84 },
   { off := 0x88 }] ++
  [{ off := 0x8C },
   { off := 0x90 },
   { off := 0x94 },
   { off := 0x98 }]

/-- Registers of the spire page k = 0x2. -/
def RegTable.vu : List RegDesc :=
  [{ off := 0x40, rw := 0x1FF },
   { off := 0x44, rw := 0x3 },
   { off := 0x48, rw := 0xFF },
   { off := 0x4C, rw := 0xF },
   { off := 0x50 },
   { off := 0x54 },
   { off := 0x58 }]

/-- Registers of the spire page k = 0x3. -/
def RegTable.mac : List RegDesc :=
  [{ off := 0x40, stride := 4, count := 4, rw := 0x1FFFE },
   { off := 0x50, stride := 4, count := 4, rw := 0x1FFFE },
   { off := 0x60, stride := 8, count := 4, rw := 0x1FFFE },
   { off := 0x64, stride := 8, count := 4, rw := 0x1FFFE },
   { off := 0x80, rw := 0xFFFFFF },
   { off := 0x84, rw := 0xFFFEFFFE },
   { off := 0x88, rw := 0x3 },
   { off := 0x8C },
   { off := 0x90, stride := 4, count := 3 },
   { off := 0xA0, stride := 4, count := 3 },
   { off := 0xB0, stride := 4, count := 3 },
   { off := 0xC0, stride := 8, count := 4, rw := 0xFFFFFFFF }] ++
  [{ off := 0xC4, stride := 8, count := 4, rw := 0xFF }]

/-- Registers of the spire page k = 0x4. -/
def RegTable.vlt0 : List RegDesc :=
  [{ off := 0x40, sc := true, rw := 0xFFFE, reset := 0x1 },
   { off := 0x44, reset := 0x2 },
   { off := 0x50, stride := 8, count := 4, rw := 0xFFF007, reset := 0x7, rstep := 0x400000 },
   { off := 0x54, stride := 8, count := 4, rw := 0x7FF000, reset := 0x400000 },
   { off := 0x70, rc := 0xFFFFFFFF },
   { off := 0x74, rc := 0xFFFFFFFF },
   { off := 0x78 },
   { off := 0x80, rw := 0x8000FFFF, reset := 0x80000010 },
   { off := 0x84 },
   { off := 0x88 }]

/-- Registers of the spire page k = 0x5. -/
def RegTable.vlt1 : List RegDesc :=
  [{ off := 0x40, stride := 4, count := 8, rc := 0xFFFFFFFF },
   { off := 0x60, rc := 0xFFFFFFFF },
   { off := 0x64, rc := 0xFFFFFFFF },
   { off := 0x68, rc := 0xFFFFFFFF }]

/-- Registers of the spire page k = 0x6. -/
def RegTable.dome0 : List RegDesc :=
  [{ off := 0x40, wo := 0xFFFFFFFF },
   { off := 0x44 },
   { off := 0x60, stride := 4, count := 8 },
   { off := 0x80, stride := 8, count := 8 },
   { off := 0x84, stride := 8, count := 8 }]

/-- Registers of the spire page k = 0x7. -/
def RegTable.dome1 : List RegDesc :=
  [{ off := 0x40, rc := 0xFFFFFFFF },
   { off := 0x44, rc := 0xFFFFFFFF },
   { off := 0x48, rc := 0xFFFFFFFF },
   { off := 0x4C, rc := 0xFFFFFFFF },
   { off := 0x50, rc := 0xFFFFFFFF },
   { off := 0x54, rc := 0xFFFFFFFF },
   { off := 0x58, rc := 0xFFFFFFFF }]

/-- Registers of the spire page k = 0x8. -/
def RegTable.dome2 : List RegDesc :=
  [{ off := 0x40, stride := 8, count := 64, rw := 0xFFFFFFC3, reset := 0x1481080 },
   { off := 0x44, stride := 8, count := 64, rw := 0x7F },
   { off := 0x240, stride := 4, count := 4, sc := true, rw := 0x5 }]

/-- Registers of the spire page k = 0x9. -/
def RegTable.dome3 : List RegDesc :=
  [{ off := 0x40, stride := 16, count := 64 },
   { off := 0x44, stride := 16, count := 64 },
   { off := 0x48, stride := 16, count := 64 },
   { off := 0x440, rw := 0x3 },
   { off := 0x444, rw := 0xFFFF00 },
   { off := 0x448, rw := 0xFFFF, reset := 0x1 },
   { off := 0x44C, rw := 0xFFFFF },
   { off := 0x460, stride := 16, count := 4, rw := 0xFFFF00 },
   { off := 0x464, stride := 16, count := 4, rw := 0xFFFF00 },
   { off := 0x468, stride := 16, count := 4, rw := 0xFFFF00 },
   { off := 0x4A0, rw := 0xFFFFFE, wo := 0x80000000 },
   { off := 0x4A4, rw := 0x3 }] ++
  [{ off := 0x4A8, rw := 0xFFFFFF },
   { off := 0x4AC, rw := 0xFFFFFF },
   { off := 0x4B0, rw := 0xFFFFFF },
   { off := 0x4B4, rw := 0xFFFFFF },
   { off := 0x4B8, rw := 0xFFFFFF },
   { off := 0x4BC, rw := 0xFFFFFFFF },
   { off := 0x4C0, rw := 0xFFFFFFFF },
   { off := 0x4C4, rw := 0xFFFFFFFF },
   { off := 0x4C8, rw := 0xFFFFFFFF },
   { off := 0x4CC, rw := 0xFF },
   { off := 0x4D0, rc := 0xFFFFFFFF },
   { off := 0x4D4, rc := 0xFFFFFFFF }]

/-- Registers of the spire page k = 0xB. -/
def RegTable.dma : List RegDesc :=
  [{ off := 0x40, stride := 64, count := 8, rw := 0xFFFFFFFF },
   { off := 0x44, stride := 64, count := 8, rw := 0xFFFF },
   { off := 0x48, stride := 64, count := 8, rw := 0xFFFFFFFF },
   { off := 0x4C, stride := 64, count := 8, rw := 0xFFFF },
   { off := 0x50, stride := 64, count := 8, rw := 0xFFFFFFFF },
   { off := 0x54, stride := 64, count := 8, rw := 0xFFFFFF8, wo := 0xC0000000 },
   { off := 0x58, stride := 64, count := 8, rw := 0x70FFFFF },
   { off := 0x5C, stride := 64, count := 8, rw := 0xFFFFFF },
   { off := 0x60, stride := 64, count := 8 },
   { off := 0x64, stride := 64, count := 8 },
   { off := 0x68, stride := 64, count := 8 },
   { off := 0x6C, stride := 64, count := 8, rc := 0xFFFFFFFF }]

/-- Registers of the spire page k = 0xA. -/
def RegTable.str : List RegDesc :=
  [{ off := 0x40, stride := 64, count := 4, rw := 0xFFFFFFFF },
   { off := 0x44, stride := 64, count := 4, rw := 0xFFFF },
   { off := 0x48, stride := 64, count := 4, rw := 0xFFFFFFFF },
   { off := 0x4C, stride := 64, count := 4, rw := 0xFFFF },
   { off := 0x50, stride := 64, count := 4, rw := 0xFFFFFFFF },
   { off := 0x54, stride := 64, count := 4, rw := 0x17FFFF },
   { off := 0x58, stride := 64, count := 4, rw := 0xFFFFFFFF },
   { off := 0x5C, stride := 64, count := 4, rw := 0xFFFFFFFF },
   { off := 0x60, stride := 64, count := 4, rw := 0xFFFFF },
   { off := 0x64, stride := 64, count := 4, rw := 0xFFFFFFFF },
   { off := 0x68, stride := 64, count := 4, rw := 0x3FF },
   { off := 0x6C, stride := 64, count := 4 }] ++
  [{ off := 0x70, stride := 64, count := 4 },
   { off := 0x74, stride := 64, count := 4 },
   { off := 0x78, stride := 64, count := 4, rc := 0xFFFFFFFF },
   { off := 0x7C, stride := 64, count := 4, rc := 0xFFFFFFFF }]

/-- Registers of the Lantern page 0x0C0. -/
def RegTable.lan : List RegDesc :=
  [{ off := 0x40, wo := 0xFFFFFFFF },
   { off := 0x44 },
   { off := 0x48, rw := 0xFFFFFF00 },
   { off := 0x4C, rw := 0xFFFF },
   { off := 0x50, rw := 0x7FFF },
   { off := 0x54, rc := 0xFFFFFFFF },
   { off := 0x58, rc := 0xFFFFFFFF },
   { off := 0x5C, rc := 0xFFFFFFFF },
   { off := 0x60, rc := 0xFFFFFFFF },
   { off := 0x64, rc := 0xFFFFFFFF },
   { off := 0x68, rc := 0xFFFFFFFF },
   { off := 0x6C, rc := 0xFFFFFFFF }] ++
  [{ off := 0x70, rc := 0xFFFFFFFF }]

/-- Registers of the spire page k = 0xC. -/
def RegTable.evt0 : List RegDesc :=
  [{ off := 0x40, stride := 4, count := 256 },
   { off := 0x440, wo := 0xFFFFFFFF },
   { off := 0x444, rw := 0xFFFFFFFF },
   { off := 0x450, stride := 8, count := 4, rw := 0x800001FF },
   { off := 0x454, stride := 8, count := 4, rw := 0xFFFFFFFF },
   { off := 0x470 },
   { off := 0x474 },
   { off := 0x478 },
   { off := 0x47C, rc := 0xFFFFFFFF },
   { off := 0x480, rw := 0x1 },
   { off := 0x484, rc := 0xFFFFFFFF },
   { off := 0x488, rc := 0xFFFFFFFF }] ++
  [{ off := 0x48C, rc := 0xFFFFFFFF },
   { off := 0x490, rc := 0xFFFFFFFF },
   { off := 0x4C0, stride := 8, count := 16, rw := 0x81FFFFFF },
   { off := 0x4C4, stride := 8, count := 16 }]

/-- Registers of the spire page k = 0xD. -/
def RegTable.evt1 : List RegDesc :=
  [{ off := 0x40, stride := 4, count := 256 }]

/-- Registers of the sensor port pages. -/
def RegTable.sp : List RegDesc :=
  [{ off := 0x40, rw := 0xBFFFF3, reset := 0x1C1B02 },
   { off := 0x44, rw := 0x33FFF, reset := 0x800 },
   { off := 0x48, rw := 0xFFF07 },
   { off := 0x4C, rw := 0xFFFFFFFF },
   { off := 0x50, rw := 0xFFFFFFFF },
   { off := 0x54, rw := 0x7F7F0F0F, reset := 0x2010A0A },
   { off := 0x58, rw := 0xE3FFFFFF, reset := 0x3E8 },
   { off := 0x5C, rw := 0xFFFFFFFF },
   { off := 0x60, rw := 0xFFFFFFFF, reset := 0x61A8 },
   { off := 0x64 },
   { off := 0x68 },
   { off := 0x70, stride := 4, count := 4 }] ++
  [{ off := 0x80, rw := 0x8E003FFF },
   { off := 0x84, rw := 0xFFFFFFFF },
   { off := 0x90, rw := 0x6FC07F00, wo := 0x80000000 },
   { off := 0x94, rw := 0xFFFFFFFF },
   { off := 0x98 },
   { off := 0x9C },
   { off := 0xA0, rw := 0x38FF001F, wo := 0x80000000, reset := 0x130007 },
   { off := 0xA4, rw := 0xFFFFFFFF },
   { off := 0xA8 },
   { off := 0xC0, rc := 0xFFFFFFFF },
   { off := 0xC4, rc := 0xFFFFFFFF },
   { off := 0xC8, rc := 0xFFFFFFFF }] ++
  [{ off := 0xCC, rc := 0xFFFFFFFF },
   { off := 0xD0, rc := 0xFFFFFFFF },
   { off := 0xD4, rc := 0xFFFFFFFF },
   { off := 0xD8, rc := 0xFFFFFFFF },
   { off := 0xDC, rc := 0xFFFFFFFF },
   { off := 0xE0, rc := 0xFFFFFFFF },
   { off := 0xE4, rc := 0xFFFFFFFF }]

/-- Registers of the TIO page 0x040. -/
def RegTable.tio0 : List RegDesc :=
  [{ off := 0x40, rw := 0x1 },
   { off := 0x44, reset := 0x2 },
   { off := 0x48, rc := 0xFFFFFFFF },
   { off := 0x4C, rc := 0xFFFFFFFF },
   { off := 0x50, rc := 0xFFFFFFFF },
   { off := 0x54, rc := 0xFFFFFFFF },
   { off := 0x58, rc := 0xFFFFFFFF },
   { off := 0x5C, rc := 0xFFFFFFFF },
   { off := 0x60, rc := 0xFFFFFFFF },
   { off := 0x70 },
   { off := 0x74 },
   { off := 0x78 }] ++
  [{ off := 0x7C },
   { off := 0x80 },
   { off := 0x90, rw := 0xFFFFFFFF },
   { off := 0x94, rw := 0xFFFFFFFF },
   { off := 0x98, rw := 0xFFFFFFFF },
   { off := 0x9C, rw := 0xFFFFFFFF }]

/-- Registers of the TIO page 0x041. -/
def RegTable.tio1 : List RegDesc :=
  [{ off := 0x40, stride := 4, count := 96, rw := 0x3 }]

/-- Registers of the TIO page 0x042. -/
def RegTable.tio2 : List RegDesc :=
  [{ off := 0x40, stride := 32, count := 32, rw := 0xFFFFFCFF, reset := 0x4000000 },
   { off := 0x44, stride := 32, count := 32, rw := 0xFFFF },
   { off := 0x48, stride := 32, count := 32 },
   { off := 0x4C, stride := 32, count := 32 },
   { off := 0x50, stride := 32, count := 32, rc := 0xFF000000 }]

/-- Registers of the TIO page 0x043. -/
def RegTable.tio3 : List RegDesc :=
  [{ off := 0x40, stride := 64, count := 8, rw := 0xE00000FF, reset := 0xA },
   { off := 0x44, stride := 64, count := 8 },
   { off := 0x48, stride := 64, count := 8 },
   { off := 0x4C, stride := 64, count := 8 },
   { off := 0x50, stride := 64, count := 8 },
   { off := 0x54, stride := 64, count := 8 },
   { off := 0x58, stride := 64, count := 8 },
   { off := 0x5C, stride := 64, count := 8 },
   { off := 0x60, stride := 64, count := 8, rc := 0xFFFFFFFF }]

/-- Registers of the host page 0x060. -/
def RegTable.ocu0 : List RegDesc :=
  [{ off := 0x40, rw := 0x1 },
   { off := 0x44, rw := 0xFFFC0000, reset := 0xC },
   { off := 0x48, rw := 0xFFFF },
   { off := 0x4C },
   { off := 0x50, reset := 0x32080000 },
   { off := 0x54, rc := 0xFFFFFFFF },
   { off := 0x58 },
   { off := 0x5C, rc := 0xFFFFFFFF }]

/-- Registers of the host page 0x061. -/
def RegTable.ocu1 : List RegDesc :=
  [{ off := 0x40, wo := 0xFFFFFFFF },
   { off := 0x44 },
   { off := 0x48, wo := 0xFFFFFFFF },
   { off := 0x4C, wo := 0xFFFFFFFF },
   { off := 0x80, stride := 8, count := 8, sc := true, rw := 0xFFFF0FFF },
   { off := 0x84, stride := 8, count := 8, rw := 0x1FFF, reset := 0x1 }]

/-- Registers of the host page 0x062. -/
def RegTable.ocu2 : List RegDesc :=
  [{ off := 0x40, stride := 4, count := 128 }]

/-- Registers of the Axsin link pages. -/
def RegTable.axl : List RegDesc :=
  [{ off := 0x40, rw := 0x98, wo := 0x80000000 },
   { off := 0x44 },
   { off := 0x48 },
   { off := 0x4C, rc := 0xFFFFFFFF },
   { off := 0x50, rc := 0xFFFFFFFF },
   { off := 0x54, rc := 0xFFFFFFFF },
   { off := 0x58, rc := 0xFFFFFFFF },
   { off := 0x5C, rc := 0xFFFFFFFF },
   { off := 0x60 },
   { off := 0x64 },
   { off := 0x70, rw := 0xFFFF, reset := 0xA },
   { off := 0x74 }] ++
  [{ off := 0x78 },
   { off := 0x100, stride := 64, count := 4, rw := 0xFFFFFFFF },
   { off := 0x104, stride := 64, count := 4, rw := 0xFFFF },
   { off := 0x108, stride := 64, count := 4, rw := 0xFFFFFFFF },
   { off := 0x10C, stride := 64, count := 4, rw := 0xF },
   { off := 0x110, stride := 64, count := 4, rw := 0xFFFFFFFF },
   { off := 0x114, stride := 64, count := 4, rw := 0x3FFFC000, wo := 0xC0000000 },
   { off := 0x118, stride := 64, count := 4 },
   { off := 0x11C, stride := 64, count := 4 },
   { off := 0x120, stride := 64, count := 4 },
   { off := 0x124, stride := 64, count := 4, rw := 0x7FFF },
   { off := 0x400, stride := 16, count := 64, rw := 0xFFFFF000 }] ++
  [{ off := 0x404, stride := 16, count := 64, rw := 0xFFFF },
   { off := 0x408, stride := 16, count := 64, rw := 0xFFFFFF },
   { off := 0x40C, stride := 16, count := 64, rw := 0x80000006 }]

/-- Registers of the DRAM channel pages. -/
def RegTable.drc : List RegDesc :=
  [{ off := 0x40 },
   { off := 0x44, rc := 0xFFFFFFFF },
   { off := 0x48, rc := 0xFFFFFFFF },
   { off := 0x4C },
   { off := 0x50 },
   { off := 0x54 },
   { off := 0x58 },
   { off := 0x5C, rc := 0xFFFFFFFF },
   { off := 0x60, rw := 0x8000FFFF, reset := 0x80000004 },
   { off := 0x64 },
   { off := 0x68 },
   { off := 0x6C }] ++
  [{ off := 0x70 }]

/-- Registers of the Keep page 0x000. -/
def RegTable.keep : List RegDesc :=
  [{ off := 0x40 },
   { off := 0x44 },
   { off := 0x48 },
   { off := 0x4C },
   { off := 0x50 },
   { off := 0x54, reset := 0x10 },
   { off := 0x58 },
   { off := 0x5C },
   { off := 0x60 },
   { off := 0x64 },
   { off := 0x68 },
   { off := 0x6C }] ++
  [{ off := 0x70, wo := 0xFFFFFFFF },
   { off := 0x74 },
   { off := 0x78, rc := 0xFFFFFFFF },
   { off := 0x7C, reset := 0x2000030 },
   { off := 0x80, stride := 4, count := 4, rw := 0xFFFFFFFF },
   { off := 0x90, stride := 4, count := 4, rw := 0xFFFFFFFF },
   { off := 0xA0, rw := 0x7FFFC },
   { off := 0xA4, wo := 0xFFFFFFFF },
   { off := 0xA8 },
   { off := 0xAC },
   { off := 0xB0, rw := 0xFFFFFF },
   { off := 0xC0 }] ++
  [{ off := 0xC4 },
   { off := 0xC8 },
   { off := 0xCC },
   { off := 0xD0, stride := 4, count := 6, rc := 0xFFFFFFFF },
   { off := 0xF0 },
   { off := 0xF4, rw := 0xFFFFFFFF },
   { off := 0xF8, rw := 0xFFFFFFFF },
   { off := 0xFC, wo := 0xFFFFFFFF },
   { off := 0x100 },
   { off := 0x104 },
   { off := 0x140, rw := 0x1F, reset := 0x1414 },
   { off := 0x144 }] ++
  [{ off := 0x148, rw := 0xFFFFFF00, reset := 0xB0A40500 },
   { off := 0x14C, rw := 0x7 },
   { off := 0x150 },
   { off := 0x154, rc := 0xFFFFFFFF },
   { off := 0x158, sc := true, rw := 0xFFFFFFFF, reset := 0xFFFFFFFF },
   { off := 0x15C },
   { off := 0x160, stride := 4, count := 12 }]

end Sys2Proof.Machine
end

