-- ==== Sys2Proof/Config.lean ====
section
/-! DEFINITION. What the implementation fixes and the spec leaves open: the free values (opaque, with no body). -/

namespace Sys2Proof

/-- The free values: the value used at the k-th place where the spec states no value (the counter is State.free). Log entry 3. -/
opaque Config.freeValue : Nat → BitVec 64

end Sys2Proof
end

