-- ==== Sys2Proof/Machine/Table.lean ====
section
/-! DEFINITION. Sparse tables: a list of (key, value) pairs with rising keys that lists no value equal to the default of its key,
so that equal contents are equal lists. Registers, memory and every indexed group of the State are held so. -/

namespace Sys2Proof.Machine

/-- The value of key k: the listed one, else the default. -/
def Tab.get {α : Type} (d : Nat → α) : List (Nat × α) → Nat → α
  | [], k => d k
  | (j, v) :: t, k => if k = j then v else Tab.get d t k

/-- Puts (k, v) before the first greater key. -/
def Tab.insert {α : Type} (k : Nat) (v : α) : List (Nat × α) → List (Nat × α)
  | [] => [(k, v)]
  | (j, w) :: t => if k < j then (k, v) :: (j, w) :: t else (j, w) :: Tab.insert k v t

/-- Sets key k to v. Setting the default removes the entry. -/
def Tab.set {α : Type} [DecidableEq α] (d : Nat → α) (l : List (Nat × α)) (k : Nat) (v : α) : List (Nat × α) :=
  if v = d k then l.filter (fun e => e.1 != k) else Tab.insert k v (l.filter (fun e => e.1 != k))

/-- Every key of the list is above b. -/
def Tab.above {α : Type} (b : Nat) : List (Nat × α) → Bool
  | [] => true
  | (j, _) :: _ => decide (b < j)

/-- The canonical form: keys strictly rising, no entry equal to the default of its key. -/
def Tab.wf {α : Type} [DecidableEq α] (d : Nat → α) : List (Nat × α) → Bool
  | [] => true
  | (j, v) :: t => decide (v ≠ d j) && Tab.above j t && Tab.wf d t

/-- What a byte of memory that nothing has written reads as (log entry 2). -/
def memDefault (_ : Nat) : Byte := 0

/-- The canonical form of memory. -/
abbrev Memory.wf (m : List Host.Cell) : Bool := Tab.wf memDefault m

/-- A sorted set of numbers: inserts k. -/
def NatSet.insert : List Nat → Nat → List Nat
  | [], k => [k]
  | j :: t, k => if k < j then k :: j :: t else if k = j then j :: t else j :: NatSet.insert t k

/-- A sorted set of numbers: removes k. -/
def NatSet.erase (l : List Nat) (k : Nat) : List Nat := l.filter (fun j => j != k)

/-- Strictly rising. -/
def NatSet.wf : List Nat → Bool
  | [] => true
  | [_] => true
  | j :: k :: t => decide (j < k) && NatSet.wf (k :: t)

end Sys2Proof.Machine
end

