-- ==== Sys2Proof/Machine/State.lean ====
section
/-! DEFINITION. The state of the UQV-3208. Every register that software can read or write has its one home in State.regs, under its BAR0
offset; the fields below hold the rest: counts wider than a register, queues, memories, latched pins and sequencers. -/

namespace Sys2Proof.Machine

/-- Why the block stops with a fault: there is no reason, since the spec stops it for none. Safe. -/
inductive Fault
  deriving DecidableEq, Repr

/-- Why the block refuses a command. -/
inductive Refusal
  /-- Raised by no meaning: the arm of a command that has none. Safe. -/
  | notModelled (mnemonic : String)
  deriving DecidableEq, Repr

/-- The pending source event of R38: its time, the events merged into it, the count a link message carried, and whether that message was
late (R40). -/
structure SourceEvent where
  time : BitVec 64
  merged : Nat
  link : Option (BitVec 48)
  late : Bool
  deriving DecidableEq, Repr

/-- The timebase beside its registers (R31 to R51): tickStart is the start of the tick, startShown what TICK_START reads (a BLK_RST parts them). -/
structure Timebase where
  now : BitVec 64
  running : Bool
  tickCnt : BitVec 48
  tickStart : BitVec 64
  startShown : BitVec 64
  tickEvent : BitVec 64
  pend : Option SourceEvent
  tickEndAt : Option (BitVec 64)
  enAt : Option (BitVec 64)
  slewPhase : Nat
  encAcc : Int
  gridK : Nat
  setLo : Word
  tickSetLo : Word
  syncUnread : Bool
  stalled : Bool
  deriving DecidableEq, Repr

def Timebase.reset : Timebase :=
  { now := 0, running := false, tickCnt := 0, tickStart := 0, startShown := 0, tickEvent := 0, pend := none, tickEndAt := none, enAt := none,
    slewPhase := 0, encAcc := 0, gridK := 0, setLo := 0, tickSetLo := 0, syncUnread := false, stalled := false }

/-- The table loader (R73 to R75): mode, phase (0 idle, 1 header, 2 copy, 3 ended), header bytes read, source address of the next bytes,
bytes still to read, whether its next read waits for a read credit (R300), next entry index, descriptors and first slot, CRC so far and RESULT. -/
structure Loader where
  image : Bool
  phase : Nat
  hdrBytes : List Byte
  src : Nat
  left : Nat
  wait : Bool
  idx : Nat
  dslot : Nat
  base : Nat
  crc : Word
  result : Nat
  deriving DecidableEq, Repr

def Loader.reset : Loader :=
  { image := false, phase := 0, hdrBytes := [], src := 0, left := 0, wait := false, idx := 0, dslot := 0, base := 0, crc := 0, result := 0 }

/-- The Belfry beside its registers: position of the walk in the active descriptor (none between ticks), device time of the cycle in which the walk
reached the entry it stands at, whether an entry has gone out in this very cycle (R63, R64), the previous OFFSET and the run length j of R63, first tick after a START not yet begun, no TICK_END since START, start time,
spires skipped in this tick and to be skipped in the next (R44), spires dispatched in this tick (R60), an overrun under STOP, spires whose
heartbeat of this tick is still to be sent (R312), the number of the load, which its reads carry, and the loader. -/
structure Belfry where
  walk : Option Nat
  reach : Nat
  sent : Bool
  prevOff : Option Nat
  run : Nat
  first : Bool
  hbFirst : Bool
  startTime : Nat
  skip : Word
  nextSkip : Word
  dispatched : Word
  overStop : Bool
  hbDue : Word
  loads : Nat
  loader : Loader
  deriving DecidableEq, Repr

def Belfry.reset : Belfry :=
  { walk := none, reach := 0, sent := false, prevOff := none, run := 0, first := false, hbFirst := false, startTime := 0, skip := 0, nextSkip := 0,
    dispatched := 0, overStop := false, hbDue := 0, loads := 0, loader := Loader.reset }

/-- An INC or TC held behind unacknowledged writes (R302). -/
structure Held where
  node : Nat
  waits : List Nat
  dst : Node
  body : Body
  deriving DecidableEq, Repr

/-- What a message to the host carries (MSI-X, R350). -/
inductive HostOut
  | msix (v : Nat) (addr : Nat) (data : Word)
  | cpl (off : Nat) (data : List Byte) (ep : Bool)
  | cfgCpl (crs : Bool) (data : Word)
  deriving DecidableEq, Repr

/-- Data returned by an RDR or read, waiting for the unit that asked (R298); off says that a vault refused the read. -/
structure Returned where
  tag : Tag
  addr : Nat
  data : List Byte
  pois : List Nat
  off : Bool
  deriving DecidableEq, Repr

/-- A handover to DEVICE that waits for the host's earlier BAR2 writes (R354): the slots, the writes it waits for, and ACK. -/
structure Handover where
  slots : List Nat
  waits : List Nat
  ack : Bool
  done : Nat
  deriving DecidableEq, Repr

/-- A host doorbell that waits for the host's earlier writes (R357): the value written to OCU_HDB, the writes it waits for, and the number of
handovers before it. -/
structure Doorbell where
  v : Word
  waits : List Nat
  hands : Nat
  deriving DecidableEq, Repr

/-- The PCIe endpoint beside its registers (R346 to R361, R425, R455): data link up, PERST_N high, link training enabled, configuration
space (by byte offset, words against those of reset), Bus Master Enable, Memory Space Enable, MSI-X Enable and function mask, D3hot, BAR2 writes not yet acknowledged, reads that
wait for a read credit, handovers and doorbells not yet presented, LAST of each log ring, its place in the ring (releases modulo its slots, where
not 0), and the number of times the link has gone down. -/
structure HostIf where
  up : Bool
  perstN : Bool
  trainEn : Bool
  bme : Bool
  mse : Bool
  msixEn : Bool
  msixMask : Bool
  d3 : Bool
  cfg : List (Nat × Word)
  bar2Out : List Nat
  reads : List (Nat × Nat × Tag)
  handovers : List Handover
  doorbells : List Doorbell
  ringLast : List (Nat × Word)
  ringPos : List (Nat × Nat)
  downs : Nat
  deriving DecidableEq, Repr

def HostIf.reset : HostIf :=
  { up := false, perstN := true, trainEn := false, bme := false, mse := false, msixEn := false, msixMask := false, d3 := false, cfg := [], bar2Out := [], reads := [],
    handovers := [], doorbells := [], ringLast := [], ringPos := [], downs := 0 }

/-- A busy DMA channel beside its registers: bytes requested so far, the RESULT of an early end that waits for
the bytes in flight (R275), and the destination blocks of the poisoned pieces counted. -/
structure DmaSt where
  next : Nat
  ending : Option Nat
  poisBlks : List Nat
  deriving DecidableEq, Repr

def DmaSt.reset : DmaSt := { next := 0, ending := none, poisBlks := [] }

/-- A row a stream fetches (R281, R282): its index number, its origin, its slot and the bytes that have not yet landed. -/
structure StreamRow where
  j : Nat
  origin : Nat
  slot : Nat
  left : Nat
  deriving DecidableEq, Repr

/-- A stream beside its registers (R280 to R283): the count of the run, the next row, rows being fetched in index order, read requests that
wait for a read credit, slots released since the arm, the RESULT of an end that waits for the rows being fetched, the number of index blocks read
and those held, oldest first (none: the read was refused). -/
structure StreamSt where
  count : Nat
  next : Nat
  rows : List StreamRow
  unsent : List (Nat × Nat × Nat)
  released : Nat
  ending : Option Nat
  blocks : Nat
  held : List (Option (List Byte))
  deriving DecidableEq, Repr

def StreamSt.reset : StreamSt := { count := 0, next := 0, rows := [], unsent := [], released := 0, ending := none, blocks := 0, held := [] }

/-- A queued fire record (R334, R337): time of the active edge, width in ns, and whether it joined the chain before it. -/
structure TioRec where
  time : BitVec 64
  width : Nat
  joined : Bool
  deriving DecidableEq, Repr

/-- One output channel beside its register (R334 to R337): queue, LAST, END, whether the pulse is active and where its chain ends. -/
structure TioChan where
  queue : List TioRec
  last : BitVec 64
  endT : BitVec 64
  active : Bool
  pulseEnd : BitVec 64
  deriving DecidableEq, Repr

def TioChan.reset : TioChan := { queue := [], last := 0, endT := 0, active := false, pulseEnd := 0 }

/-- A fire record on its way (R332, R333): its words, and whether it was one flit with all 16 bytes enabled. -/
structure FireRec where
  w0 : Word
  w1 : Word
  w2 : Word
  w3 : Word
  whole : Bool
  deriving DecidableEq, Repr

/-- A capture of a timed input (R341). -/
structure TioCap where
  time : BitVec 64
  rise : Bool
  deriving DecidableEq, Repr

/-- The timed I/O unit beside its registers (R332 to R344): output channels, quiet, records that cross into TCLK, capture FIFOs of the
inputs, the accepted levels of A and B of each encoder, and the inputs and the encoders' Z whose accepted level is high. -/
structure Tio where
  chans : List (Nat × TioChan)
  quiet : Bool
  inbox : List FireRec
  caps : List (Nat × List TioCap)
  encLvl : List (Nat × (Bool × Bool))
  inLvl : List Nat
  encZ : List Nat
  deriving DecidableEq, Repr

def Tio.reset : Tio := { chans := [], quiet := true, inbox := [], caps := [], encLvl := [], inLvl := [], encZ := [] }

/-- The scalar registers that the pipeline reads at different stages (R80, R110, R113): PRED holds Pk in bit k. -/
structure Scal where
  acc : Word
  ix0 : Word
  ix1 : Word
  cnt : BitVec 16
  lr : Word
  pred : BitVec 8
  deriving DecidableEq, Repr

def Scal.reset : Scal := { acc := 0, ix0 := 0, ix1 := 0, cnt := 0, lr := 0, pred := 0 }

/-- What a narrow read does in its return cycle (R81): an S-slot operation of R115 by FUNC, or a load by size in bytes and sign. -/
inductive LoadOp
  | alu (func dst : Nat)
  | load (dst size : Nat) (sgn : Bool)
  deriving DecidableEq, Repr

/-- A narrow read on its way (R81, R90): whether its bundle is still in issue, issue slots left before it returns, what it does, the data read,
whether it is poisoned, its bundle and its address. -/
structure PendLoad where
  fresh : Bool
  due : Nat
  op : LoadOp
  data : Word
  pois : Bool
  pc : Word
  addr : Word
  deriving DecidableEq, Repr

/-- A store buffer entry (R88): bytes by physical address, or a word for a register page of the local view. -/
inductive SbEntry
  | bytes (cells : List (Nat × Byte))
  | reg (off : Nat) (v : Word)
  deriving DecidableEq, Repr

/-- A FIRE or DSUB read on its way (R133, R201): its bytes, whether one is poisoned, its bundle and its address. -/
structure PendRec where
  data : List Byte
  pois : Bool
  pc : Word
  addr : Word
  deriving DecidableEq, Repr

/-- A write of bits [lo, lo + len) of a vector register; flat says that every beat is written in one cycle (R137). -/
structure VW where
  reg : Nat
  lo : Nat
  len : Nat
  val : Nat
  flat : Bool
  deriving DecidableEq, Repr

/-- Vector register writes on their way (R142, R143, R152): issue slots left, whether a load makes them, whether slot V1 does, and for the last
return of a poisoned load its element, address and bundle (R156). -/
structure VPend where
  due : Nat
  isLoad : Bool
  v1 : Bool
  writes : List VW
  pois : Option (Nat × Word × Word)
  deriving DecidableEq, Repr

/-- What has reached the vector registers in a bundle slot just before (R142): a write that returned, with whether it is one of a widening or narrowing
operation and whether slot V1 makes it, a write of VMVFX, or an element operation that issued, at SEW bits, on elements lo to hi - 1. -/
inductive VEvt
  | ret (late v1 : Bool) (w : VW)
  | fd (w : VW)
  | op (w : CpWord) (sew lo hi : Nat)
  deriving DecidableEq, Repr

/-- A line of the instruction cache (R83): way, local address of the line, words, bad words with VAULT_OFF true or poisoned false. -/
structure IcLine where
  way : Nat
  addr : Nat
  words : List Word
  bad : List (Nat × Bool)
  deriving DecidableEq, Repr

/-- A synchronous fault found in a return (R101, R156): source, bundle, address, vector element, and the bundles that may still issue before it is taken. -/
structure LateFault where
  src : Nat
  pc : Word
  addr : Word
  elem : Nat
  slots : Nat
  deriving DecidableEq, Repr

/-- A fetch group in the group buffer (R458): its address, and its bad words with VAULT_OFF true or FETCH_FAULT false (R83). -/
structure FetchGroup where
  addr : Nat
  bad : List (Nat × Bool)
  deriving DecidableEq, Repr

/-- An access of the Keep through its aperture (R385): global address, bytes, whether it writes, the number of its PW, and whether it is complete with
the data read and its poison. -/
structure AperAcc where
  g : Nat
  len : Nat
  write : Bool
  id : Nat
  done : Bool
  data : List Byte
  pois : Bool
  deriving DecidableEq, Repr

/-- What the S or X slot of the bundle in issue does to the next bundle (R95, R120, R124, R163): a taken branch with its target and whether
it is delayed, RETI, RETN, or END with its TC. -/
inductive Ctl
  | none
  | branch (target : Word) (delayed : Bool)
  | reti
  | retn
  | stop (tc : Bool)
  deriving DecidableEq, Repr

/-- A write of MTC to SR, LBEG, LEND or LN on its way to the stages before WB (R80, R117): issue slots left, control register, value. -/
structure MtcPend where
  due : Nat
  ctl : Nat
  v : Word
  deriving DecidableEq, Repr

/-- LR of BRL.D whose second slot has not issued (R120): the value written, taken from the code in memory, the LR it stands in place of, the issue
slots since the write back of its own bundle, the slots until the write where the second slot comes later than that, and whether the second slot has issued. -/
structure LrDue where
  val : Word
  old : Word
  age : Nat
  due : Option Nat
  made : Bool
  deriving DecidableEq, Repr

/-- The result of an MFC whose WB cycle has not come (R78, R117): issue slots left, control register, DST and the value written. -/
structure MfcPend where
  due : Nat
  ctl : Nat
  dst : Nat
  v : Word
  deriving DecidableEq, Repr

/-- A control processor beside its registers (R78 to R136). st is CP_STAT.STATE; f are the scalar registers after every write so far, and h1
to h4 as they stood after the write back of the last four issue slots (R80, R81); wb, agv and isv are what the bundle being issued reads
in WB, AG and IS, held the further cycles that it has been kept in AG (R79), lag those of them that passed before its access was granted. part
holds the operations of that bundle issued so far, todo those still to issue, ctl where it goes on; slots the delay slots left with the
target; rpt the repetitions left; extra the further cycles of the bundle; lop a long scalar operation that ends with them (opcode, DST,
SRC); lrDue the LR of a BRL.D on its way; mtcs writes of MTC on their way, mfcs results of MFC; bnd an
interrupt boundary that no hold-off takes away (R121); first says that the first bundle of a handler (1) or program (2) has not issued, before
which there is no boundary (R94, R99); lateC is C of SR without the memory-source returns since the last bundle's write back (R100); late holds the
faults found in returns, oldest first; groups is the group buffer; aper the aperture accesses of the bundle in AG; v1 to v3 the vector registers
after the last three issue slots and v4 after the fourth, vlog what reached them in the present slot and the three before with its age, and v1now the writes of
slot V1 that fall in the present cycle (R142). -/
structure Core where
  st : Nat
  resumeRun : Bool
  queue : List (Nat × Nat)
  pc : Word
  sr : Word
  lbeg : Word
  lend : Word
  ln : BitVec 16
  f : Scal
  h1 : Scal
  h2 : Scal
  h3 : Scal
  h4 : Scal
  wb : Scal
  agv : Scal
  isv : Scal
  held : Nat
  lag : Nat
  stack : List (Word × Word)
  nmiAct : Bool
  nmiPend : Bool
  part : List CpWord
  todo : List CpWord
  ctl : Ctl
  slots : Option (Nat × Option Word)
  lrDue : Option LrDue
  rpt : Option Nat
  extra : Nat
  lop : Option (Nat × Nat × Nat)
  mtcs : List MtcPend
  mfcs : List MfcPend
  loads : List PendLoad
  sbuf : List SbEntry
  fires : List PendRec
  dsubs : List PendRec
  vpend : List VPend
  vregs : List (Nat × BitVec 2048)
  v1 : List (Nat × BitVec 2048)
  v2 : List (Nat × BitVec 2048)
  v3 : List (Nat × BitVec 2048)
  v4 : List (Nat × BitVec 2048)
  vlog : List (Nat × VEvt)
  wait : List CpWord
  go : Bool
  late : List LateFault
  bnd : Bool
  first : Nat
  lateC : Option Bool
  v1now : List VW
  aper : List AperAcc
  groups : List FetchGroup
  tcmpArmed : Bool
  tickLatch : Option (BitVec 48 × BitVec 64)
  icache : List IcLine
  lineBuf : Option IcLine
  deriving DecidableEq, Repr

/-- A control processor after reset: SR is 0x0000_2000 and the scalar registers are 0 (R111); it is IDLE with an empty queue (R103, R104). -/
def Core.reset : Core :=
  { st := 0, resumeRun := false, queue := [], pc := 0, sr := 0x2000, lbeg := 0, lend := 0, ln := 0, f := Scal.reset, h1 := Scal.reset,
    h2 := Scal.reset, h3 := Scal.reset, h4 := Scal.reset, wb := Scal.reset, agv := Scal.reset, isv := Scal.reset, held := 0, lag := 0, stack := [], nmiAct := false, nmiPend := false, part := [],
    todo := [], ctl := .none, slots := none, lrDue := none, rpt := none, extra := 0, lop := none, mtcs := [], mfcs := [], loads := [], sbuf := [], fires := [], dsubs := [],
    vpend := [], vregs := [], v1 := [], v2 := [], v3 := [], v4 := [], vlog := [], wait := [], go := false, late := [], bnd := false, first := 0, lateC := none, v1now := [], aper := [], groups := [], tcmpArmed := false, tickLatch := none,
    icache := [], lineBuf := none }

/-- A weight bank (R190, R193, R205, R206): kind 0 none, 1 codebook, 2 INT8, 3 UINT8; its poison mark (R211); and the cells by
64 × row + column: an FP12 entry plus 4,096 × its E8M0 group scale, or an integer code. -/
structure Bank where
  kind : Nat
  pois : Bool
  w : List (Nat × Nat)
  deriving DecidableEq, Repr

def Bank.reset : Bank := { kind := 0, pois := false, w := [] }

/-- A RUN in progress (R205, R207, R213, R247): its words W0 to W7 and the exponents read at issue, the blocks it has read with their poisoned words by
local block number, the vectors read, the positions that have left it, for pooling their codes and poison, and the outputs that wait for their block to be
complete. -/
structure RunSt where
  words : List Nat
  ein : Int
  eout : Int
  buf : List (Nat × (List Byte × List Nat))
  fetched : Nat
  pos : Nat
  conv : List (List Nat × Bool)
  outq : List (Nat × (List Nat × Bool))
  deriving DecidableEq, Repr

/-- A RUN of the words ws as it issues. -/
def RunSt.start (ws : List Nat) (ein eout : Int) : RunSt := { words := ws, ein := ein, eout := eout, buf := [], fetched := 0, pos := 0, conv := [], outq := [] }

/-- A LOADW or a table load in progress (R206, R208, R226, R300): its words, the address it reads from after redirection, the blocks it has received by
number with their poison, and the block requests it has presented to the Lantern. -/
structure LoadSt where
  words : List Nat
  src : Nat
  got : List (Nat × (List Byte × Bool))
  sent : Nat
  deriving DecidableEq, Repr

/-- Clip statistics of one tensor since the last close (R216). -/
structure TStat where
  conv : Nat
  clip : Nat
  max : Word
  deriving DecidableEq, Repr

/-- A dome beside its registers (R190 to R232): queue of copied descriptors, halt, banks, RUN, LOADW and table load in progress, ABUF sums,
row sums and poison marks, codebooks (FP12 by 256 × slot + entry), channel entries (128 bits), activation slots (words by 1,024 × slot),
pooling and walker slots, statistics, CLIP of the tick that made each proposal, the log ring as LOG_EN found it (R224: base, blocks and
the task windows' VLT_TB_BASE), and the update engine (0 idle, 1 started, 2 begun) with DOME_UPD_CTL as it started. -/
structure Dome where
  queue : List (List Nat)
  halt : Bool
  active : Bank
  shadow : Bank
  actValid : Bool
  shFull : Bool
  run : Option RunSt
  lw : Option LoadSt
  tl : Option LoadSt
  abuf : List (Nat × Word)
  sa : List (Nat × Word)
  abufPois : List Nat
  cb : List (Nat × Nat)
  cbPois : List Nat
  rs : List (Nat × Nat)
  rsPois : Bool
  af : List (Nat × Word)
  afPois : List Nat
  pool : List (Nat × Nat)
  win : List (Nat × List Nat)
  stats : List (Nat × TStat)
  propClip : List (Nat × Nat)
  logBase : Nat
  logLen : Nat
  logTb : List Word
  upd : Nat
  updCtl : Word
  updGot : List (List Byte × List Nat)
  deriving DecidableEq, Repr

def Dome.reset : Dome :=
  { queue := [], halt := false, active := Bank.reset, shadow := Bank.reset, actValid := false, shFull := false, run := none, lw := none,
    tl := none, abuf := [], sa := [], abufPois := [], cb := [], cbPois := [], rs := [], rsPois := false, af := [], afPois := [], pool := [],
    win := [], stats := [], propClip := [], logBase := 0, logLen := 0, logTb := [], upd := 0, updCtl := 0, updGot := [] }

/-- A Lantern line (R287, R291): its address, its bytes, its words with a single-bit error, and whether a word is uncorrectable. -/
structure LanLine where
  addr : Nat
  data : List Byte
  ce : Nat
  ue : Bool
  deriving DecidableEq, Repr

/-- A block request at a Lantern bank (R288, R290): the spire of the LOADW, or 32 for a preload, its block number, and the address. -/
structure LanReq where
  spire : Nat
  blk : Nat
  addr : Nat
  deriving DecidableEq, Repr

/-- A fill in progress (R288, R290): its address, the requests it serves, whether it installs, and whether its DRAM read has been presented. -/
structure LanFill where
  addr : Nat
  waiters : List LanReq
  install : Bool
  sent : Bool
  deriving DecidableEq, Repr

/-- The Lantern beside its registers (R287 to R294): lines by 256 × bank + set, most recently used first; requests and fills by bank; an
invalidation under way; and the blocks left of a preload. -/
structure Lantern where
  lines : List (Nat × List LanLine)
  queue : List (Nat × List LanReq)
  fills : List (Nat × List LanFill)
  inv : Bool
  pre : Option Nat
  deriving DecidableEq, Repr

def Lantern.reset : Lantern := { lines := [], queue := [], fills := [], inv := false, pre := none }

/-- An accepted arm of a sensor port (R56, R254, R322): spire, ring base and length, rows, halo, channel, arrival counter; and whether its ring
fields equal those of the arm accepted before it. -/
structure Arm where
  spire : Nat
  base : Nat
  len : Nat
  rows : Nat
  halo : Nat
  vc : Nat
  ctr : Nat
  cont : Bool
  deriving DecidableEq, Repr

/-- A stripe in progress (R254, R262, R324): its slot, rows received, marks, and the parameters latched at its first line. -/
structure Stripe where
  slot : Nat
  row : Nat
  cont : Bool
  dmg : Bool
  hdr : Bool
  line : Word
  fs : Word
  bl01 : Word
  bl23 : Word
  grid : Word
  deriving DecidableEq, Repr

/-- A virtual channel of a port (R319, R322, R323): frame row, whether it wrapped since the frame start, a line discarded or a header lost since
the last stripe began, arms (the current one first), the stripe in progress, the slot of the last stripe, and PSEL as it was latched last (R262). -/
structure PortCh where
  y : Nat
  wrapped : Bool
  disc : Bool
  arms : List Arm
  stripe : Option Stripe
  lastSlot : Nat
  psel : Bool
  deriving DecidableEq, Repr

def PortCh.reset : PortCh := { y := 0, wrapped := false, disc := false, arms := [], stripe := none, lastSlot := 0, psel := false }

/-- A landing write in the landing buffer (R255, R263): its spire, cells, arrival counter, and for the last write of a stripe its channel. -/
structure LandW where
  spire : Nat
  cells : List (Nat × Byte)
  arr : Option Ctr
  last : Option Nat
  deriving DecidableEq, Repr

/-- What an I²C master does on its bus in a transaction (R327): START or repeated START, an address byte with its direction bit, a byte written, a
byte read with whether it is answered with NACK, and STOP. -/
inductive I2cSym
  | start
  | addr (a : Nat) (read : Bool)
  | out (b : Byte)
  | take (nack : Bool)
  | stop
  deriving DecidableEq, Repr

/-- A transfer of an SPI master (R328): chip select, CPOL, CPHA and divider, and the bits it shifts out in order. -/
structure SpiXfer where
  cs : Bool
  cpol : Bool
  cpha : Bool
  div : Nat
  out : List Bool
  deriving DecidableEq, Repr

/-- A sensor port beside its registers (R316 to R331): channels, the last accepted arm, landing writes not yet presented, front-stage tables
(words by 16,384 × (2 × table + bank) + word), trigger pulses due, the end of the pulse being driven, the link (0 not seen, 1 stop state,
2 HS, 3 ULPS), and the running I²C transaction and SPI transfer. -/
structure Port where
  chans : List (Nat × PortCh)
  lastArm : Option Arm
  landing : List LandW
  tables : List (Nat × Word)
  pulses : List Nat
  pulse : Option Nat
  link : Nat
  i2c : List I2cSym
  spi : Option SpiXfer
  deriving DecidableEq, Repr

def Port.reset : Port := { chans := [], lastArm := none, landing := [], tables := [], pulses := [], pulse := none, link := 0, i2c := [], spi := none }

/-- A flit on an Axsin link (R362), with the bytes of its payload that are poisoned: R419 carries the mark in the data of an RWR, and the spec does
not give its place in the flit (log entry 36). -/
structure Flit where
  bits : BitVec 256
  pois : BitVec 28
  deriving DecidableEq, Repr

/-- A remote write received or being assembled (R367, R368, R375): window, offset, length, ARR with its counter, TAG, data and poisoned bytes, and
the target address once it has passed its check. -/
structure RwrMsg where
  win : Nat
  off : Nat
  len : Nat
  arr : Bool
  actr : Nat
  tag : Nat
  data : List Byte
  pois : List Nat
  target : Option Nat
  deriving DecidableEq, Repr

/-- A remote DMA piece (R378): its number, bytes, the data read so far by offset within the piece with its byte count, poisoned bytes, and whether its RWR was sent. -/
structure Piece where
  num : Nat
  start : Nat
  len : Nat
  got : List (Nat × Byte)
  cnt : Nat
  bad : List Nat
  off : Bool
  sent : Bool
  deriving DecidableEq, Repr

/-- A busy remote DMA channel beside its registers (R378, R379): number of its run, bytes requested, pieces in flight oldest first, next piece number, the RESULT of
an early end. -/
structure Rdma where
  run : Nat
  next : Nat
  pieces : List Piece
  num : Nat
  ending : Option Nat
  deriving DecidableEq, Repr

def Rdma.reset : Rdma := { run := 0, next := 0, pieces := [], num := 0, ending := none }

/-- An Axsin link beside its registers (R362 to R382): next SEQ and replay buffer, the run of replays that began at one SEQ, the time of the last
LCTL, messages waiting by class (SYNC, RESP, WRITE), credits by class, flits transmitted, expected SEQ, whether a NAK is out, places freed by
class not yet returned, DATA flits still to come of a remote write that is discarded, received messages by class (the last remote write may lack
DATA flits), remote writes not yet acknowledged (key, TAG, acknowledgements left), next key, remote DMA channels and the one whose turn is next,
next probe time, probes within 8 ns, this end's good-lane bitmap and the lanes with inverted polarity (R370). -/
structure Link where
  seqTx : Nat
  replay : List (Nat × Flit)
  repSeq : Nat
  repRun : Nat
  lctlAt : Nat
  txSync : List (List Flit)
  txResp : List (List Flit)
  txWrite : List (List Flit)
  credS : Nat
  credR : Nat
  credW : Nat
  sent : List Flit
  seqRx : Nat
  nak : Bool
  freeS : Nat
  freeR : Nat
  freeW : Nat
  skip : Nat
  rxSync : List (BitVec 48 × BitVec 64)
  rxResp : List (Nat × Nat)
  rxWrite : List RwrMsg
  acks : List (Nat × Nat × Nat)
  key : Nat
  rdma : List (Nat × Rdma)
  turn : Nat
  probeAt : Nat
  probes : Nat
  good : Byte
  inverted : Byte
  deriving DecidableEq, Repr

def Link.reset : Link :=
  { seqTx := 0, replay := [], repSeq := 0, repRun := 0, lctlAt := 0, txSync := [], txResp := [], txWrite := [], credS := 0, credR := 0, credW := 0,
    sent := [], seqRx := 0, nak := false, freeS := 0, freeR := 0, freeW := 0, skip := 0, rxSync := [], rxResp := [], rxWrite := [], acks := [],
    key := 0, rdma := [], turn := 0, probeAt := 0, probes := 0, good := 0, inverted := 0 }

/-- A repair row with a spare row mapped in (R394, R406): physical spire, bank, row and spare row. -/
structure SpareRow where
  spire : Nat
  bank : Nat
  row : Nat
  spare : Nat
  deriving DecidableEq, Repr

/-- A repair map accepted by R405: its copy, DRAM_OK, bypasses, failed spires, generation, trained values and entries. -/
structure RepairMap where
  copy : Nat
  dramOk : Nat
  bypA : Nat
  bypB : Nat
  failed : Nat
  gen : Nat
  train : List Byte
  rows : List SpareRow
  deriving DecidableEq, Repr

/-- A write to the repair map copies in progress (R405, R410): of a map after a full start or on STORE_MAP, or the erasing of DROP_MAP. -/
inductive FlashOp
  | bringup
  | store
  | drop
  deriving DecidableEq, Repr

/-- The Keep beside its registers and its control processor (R384 to R412, R427 to R449): RESET_N high, THERM_N driven low, rails out of range
(true below), the fused key hash, the bring-up stage to run next, CFG and SSID of the image run, physical spires found failed, spare rows in use,
trained values, the map in use, flash writes in progress, the automatic throttle level, ns at a level above 0 not yet counted, and the level of
the balls DRc_RESET_N (R453). -/
structure KeepSt where
  resetN : Bool
  thermN : Bool
  rails : List (Rail × Bool)
  keyHash : BitVec 384
  next : Nat
  cfg : Word
  ssid : Word
  failed : BitVec 34
  routers : Word
  rows : List SpareRow
  train : List Byte
  map : Option RepairMap
  flash : List FlashOp
  autoLevel : Nat
  thrNs : Nat
  dramResetN : Bool
  deriving DecidableEq, Repr

def KeepSt.reset : KeepSt :=
  { resetN := true, thermN := false, rails := [], keyHash := 0, next := 0, cfg := 0, ssid := 0, failed := 0, routers := 0, rows := [], train := [],
    map := none, flash := [], autoLevel := 0, thrNs := 0, dramResetN := false }

/-- A DRAM channel beside its registers (R403, R460): requests taken and not yet served, oldest first, and whether the last oscillator
reading failed. -/
structure DramCh where
  queue : List Msg
  oscFail : Bool
  deriving DecidableEq, Repr

def DramCh.reset : DramCh := { queue := [], oscFail := false }

/-- The state of the whole chip. -/
structure State where
  regs : List (Nat × Word)
  shadow : List (Nat × Word)
  readData : List (Nat × Word)
  mem : List Host.Cell
  poison : List Nat
  eccOne : List Nat
  eccTwo : List Nat
  mesh : List Msg
  msgId : Nat
  unacked : List (Nat × Nat)
  readCred : List (Nat × Nat)
  held : List Held
  returned : List Returned
  tb : Timebase
  bel : Belfry
  tio : Tio
  cores : List (Nat × Core)
  domes : List (Nat × Dome)
  lantern : Lantern
  ports : List (Nat × Port)
  links : List (Nat × Link)
  host : HostIf
  hostOut : List HostOut
  dma : List (Nat × DmaSt)
  streams : List (Nat × StreamSt)
  contended : List Nat
  scrubWb : List (Nat × List Nat)
  wakeAt : List (Nat × Nat)
  faultLines : List (Nat × Nat)
  keep : KeepSt
  dram : List (Nat × DramCh)
  free : Nat
  pending : List Instr
  deriving DecidableEq, Repr

/-- The machine right after a cold reset: every table of the spec at its reset value, memory with nothing listed, no command waiting. RESET_N is
high and no PLL has locked. -/
def State.reset : State :=
  { regs := [], shadow := [], readData := [], mem := [], poison := [], eccOne := [], eccTwo := [], mesh := [], msgId := 0, unacked := [],
    readCred := [], held := [], returned := [], tb := Timebase.reset, bel := Belfry.reset, tio := Tio.reset, cores := [], domes := [],
    lantern := Lantern.reset, ports := [], links := [], host := HostIf.reset, hostOut := [], dma := [], streams := [], contended := [], scrubWb := [],
    wakeAt := [], faultLines := [], keep := KeepSt.reset, dram := [], free := 0, pending := [] }

end Sys2Proof.Machine
end

