-- ==== Sys2Proof/Machine/Ops.lean ====
section
/-! DEFINITION. The named operations over registers, error captures, interrupts, memory and the mesh that every meaning shares. -/

namespace Sys2Proof.Machine

/-! ### Bit fields -/

/-- The len-bit field of w from bit lo up. -/
def bitsOf (w : Word) (lo len : Nat) : Nat := (w.toNat >>> lo) % 2 ^ len

/-- Bit i of w. -/
def bitOf (w : Word) (i : Nat) : Bool := bitsOf w i 1 == 1

/-- w with the len-bit field from bit lo up replaced by v. -/
def putFld (w : Word) (lo len v : Nat) : Word :=
  let m : Nat := (2 ^ len - 1) <<< lo
  BitVec.ofNat 32 ((w.toNat - (w.toNat &&& m)) + ((v % 2 ^ len) <<< lo))

/-- w with bit i set to b. -/
def putBit (w : Word) (i : Nat) (b : Bool) : Word := putFld w i 1 (if b then 1 else 0)

/-- Each bit of a as in x where mask m is 1, as in y elsewhere. -/
def maskMix (m x y : Word) : Word := (x &&& m) ||| (y &&& ~~~m)

/-- Two's complement value of a 32-bit word. -/
def sgn (w : Word) : Int := w.toInt

/-- A number as a word, modulo 2^32. -/
def w32 (n : Nat) : Word := BitVec.ofNat 32 n

/-! ### Register pages (R5, R23, R25) -/

/-- Page number of spire page k of core n. Core 32 is the Keep's own control processor: its CP registers (R384) are on no page of R23,
so the model gives them the page numbers just above the last spire's, which no access of a requester reaches (log entry 8). -/
def spirePage (n k : Nat) : Nat := 0x100 + 16 * n + k

/-- The page is one of spires 0 to 31. -/
def isSpirePage (p : Nat) : Bool := 0x100 ≤ p && p < 0x300

/-- The spire of a spire page. -/
def spireOfPage (p : Nat) : Nat := (p - 0x100) / 16

/-- The page number k of a spire page within its spire (R25). -/
def pageK (p : Nat) : Nat := (p - 0x100) % 16

/-- BAR0 offset of a header register of page p (R5). -/
def hdr (p off : Nat) : Nat := p * 0x1000 + off

/-- The body registers of page p. -/
def bodyRegs (p : Nat) : List RegDesc :=
  if 0x100 ≤ p then
    (if 0x310 ≤ p then [] else
     match pageK p with
     | 0 => RegTable.cp0 | 1 => RegTable.cp1 | 2 => RegTable.vu | 3 => RegTable.mac | 4 => RegTable.vlt0 | 5 => RegTable.vlt1
     | 6 => RegTable.dome0 | 7 => RegTable.dome1 | 8 => RegTable.dome2 | 9 => RegTable.dome3 | 10 => RegTable.str | 11 => RegTable.dma
     | 12 => RegTable.evt0 | 13 => RegTable.evt1 | _ => [])
  else if p = 0x000 then RegTable.keep
  else if p = 0x010 then RegTable.time
  else if p = 0x020 then RegTable.seq0 else if p = 0x021 then RegTable.seq1 else if p = 0x022 then RegTable.seq2
  else if p = 0x023 then RegTable.seq3 else if p = 0x024 then RegTable.seq4
  else if 0x028 ≤ p && p < 0x030 then RegTable.dma
  else if p = 0x040 then RegTable.tio0 else if p = 0x041 then RegTable.tio1 else if p = 0x042 then RegTable.tio2
  else if p = 0x043 then RegTable.tio3
  else if p = 0x060 then RegTable.ocu0 else if p = 0x061 then RegTable.ocu1 else if p = 0x062 then RegTable.ocu2
  else if 0x080 ≤ p && p < 0x090 then RegTable.sp
  else if 0x0A0 ≤ p && p < 0x0A4 then RegTable.axl
  else if 0x0B0 ≤ p && p < 0x0B8 then RegTable.drc
  else if p = 0x0C0 then RegTable.lan
  else []

/-- The instance of row d that offset o names, if any. -/
def RegDesc.index (d : RegDesc) (o : Nat) : Option Nat :=
  if o < d.off then none
  else if d.count = 1 then (if o = d.off then some 0 else none)
  else if (o - d.off) % d.stride = 0 && (o - d.off) / d.stride < d.count then some ((o - d.off) / d.stride) else none

/-- The row and instance of offset o in a list of rows. -/
def findDesc : List RegDesc → Nat → Option (RegDesc × Nat)
  | [], _ => none
  | d :: t, o => match d.index o with
    | some i => some (d, i)
    | none => findDesc t o

/-- The row of the register at BAR0 offset a. -/
def descAt (a : Nat) : Option (RegDesc × Nat) := findDesc (bodyRegs (a / 0x1000)) (a % 0x1000)

/-- Reset value of the register at BAR0 offset a: the register tables' values; MSI-X vectors are masked, as the PCIe specification's
layout has them (R350, log entry 7). -/
def regReset (a : Nat) : Word :=
  if a / 0x1000 = 0x6E then (if 0x400 ≤ a % 0x1000 && a % 0x1000 < 0x800 && a % 16 = 12 then 1 else 0)
  else match descAt a with
  | some (d, i) => d.reset + BitVec.ofNat 32 i * d.rstep
  | none => 0

/-- The register at BAR0 offset a. -/
def State.reg (s : State) (a : Nat) : Word := Tab.get regReset s.regs a

/-- Sets the register at BAR0 offset a. -/
def State.setReg (s : State) (a : Nat) (v : Word) : State := { s with regs := Tab.set regReset s.regs a v }

/-- A field of the register at a. -/
def State.fld (s : State) (a lo len : Nat) : Nat := bitsOf (s.reg a) lo len

/-- A bit of the register at a. -/
def State.bit (s : State) (a i : Nat) : Bool := bitOf (s.reg a) i

/-- Sets a field of the register at a. -/
def State.setFld (s : State) (a lo len v : Nat) : State := s.setReg a (putFld (s.reg a) lo len v)

/-- Sets a bit of the register at a. -/
def State.setBit (s : State) (a i : Nat) (b : Bool) : State := s.setReg a (putBit (s.reg a) i b)

/-- Adds k to a saturating 32-bit counter. -/
def State.bump (s : State) (a : Nat) (k : Nat := 1) : State :=
  s.setReg a (w32 (Nat.min 0xFFFFFFFF ((s.reg a).toNat + k)))

/-- Adds k to a wrapping 32-bit counter. -/
def State.count (s : State) (a : Nat) (k : Nat := 1) : State := s.setReg a (s.reg a + w32 k)

/-- Raises the register at a to v, or to its largest value, when v is above it. -/
def State.raiseTo (s : State) (a : Nat) (v : Nat) : State := if (s.reg a).toNat < v then s.setReg a (w32 (Nat.min 0xFFFFFFFF v)) else s

/-- A 64-bit value in a pair of registers (R8). -/
def State.reg64 (s : State) (lo : Nat) : Nat := (s.reg lo).toNat + (s.reg (lo + 4)).toNat <<< 32

/-- Sets a pair of registers (R8). -/
def State.setReg64 (s : State) (lo : Nat) (v : BitVec 64) : State :=
  (s.setReg lo (v.extractLsb' 0 32)).setReg (lo + 4) (v.extractLsb' 32 32)

/-- A fresh free value: the value is Config.freeValue of the counter, which then advances. -/
def State.fresh (s : State) : BitVec 64 × State := (Config.freeValue s.free, { s with free := s.free + 1 })

/-- n free bytes. -/
def State.freeBytes (s : State) : Nat → List Byte × State
  | 0 => ([], s)
  | n + 1 =>
    let (v, t) := s.fresh
    let (l, u) := t.freeBytes n
    (v.setWidth 8 :: l, u)

/-! ### Grid and chip state -/

/-- Spire n is in the logical grid (KEEP_GRID, R393). -/
def State.inGrid (s : State) (n : Nat) : Bool := n < 32 && s.bit Reg.KEEP_GRID n

/-- Chip state (KEEP_STATE.STATE, R413). -/
def State.chip (s : State) : Nat := s.fld Reg.KEEP_STATE 0 3

/-- Bytes of DRAM in use (KEEP_DRAM.CAP, in GiB). -/
def State.dramCap (s : State) : Nat := s.fld Reg.KEEP_DRAM 24 8 <<< 30

/-- DRAM channel of address a: bits [8 + k - 1:8] with 2^k channels in use (R21). -/
def State.dramChan (s : State) (a : Nat) : Nat := (a / 256) % Nat.max 1 (s.fld Reg.KEEP_DRAM 4 4)

/-! ### Interrupts (R12, R422 to R424) -/

/-- Interrupt group of page p (R422). -/
def groupOf (p : Nat) : Nat :=
  if 0x100 ≤ p then 16 + spireOfPage p / 2
  else if p < 0x010 then 0 else if p < 0x020 then 1 else if p < 0x040 then 2 else if p < 0x060 then 3 else if p < 0x080 then 4
  else if p < 0x0A0 then 5 else if p < 0x0B0 then 6 else if p < 0x0C0 then 7 else 8

/-- Pages of group v (R422). -/
def groupPages (v : Nat) : List Nat :=
  if v = 0 then [0x000] else if v = 1 then [0x010] else if v = 2 then (List.range 16).map (0x020 + ·)
  else if v = 3 then (List.range 4).map (0x040 + ·) else if v = 4 then (List.range 3).map (0x060 + ·)
  else if v = 5 then (List.range 16).map (0x080 + ·) else if v = 6 then (List.range 4).map (0x0A0 + ·)
  else if v = 7 then (List.range 8).map (0x0B0 + ·) else if v = 8 then [0x0C0]
  else if 16 ≤ v && v < 32 then (List.range 32).map (spirePage (2 * (v - 16)) 0 + ·)
  else []

/-- INT_PEND of page p (R12). -/
def State.intPend (s : State) (p : Nat) : Word := s.reg (hdr p 0x10) &&& s.reg (hdr p 0x14)

/-- Group v is pending (R422); group 9 stands for FAILED. -/
def State.groupPend (s : State) (v : Nat) : Bool :=
  if v = 9 then s.chip == 5 else (groupPages v).any (fun p => s.intPend p != 0)

/-- KEEP_IRQ_SUM (R422). -/
def State.irqSum (s : State) : Word :=
  (List.range 32).foldl (fun w v => if s.groupPend v then putBit w v true else w) 0

/-- Sets CP source b of core n (R96). -/
def State.cpIrq (s : State) (n b : Nat) : State := s.setBit (Reg.CP_IRQ_RAW n) b true

/-- Sends or pends MSI-X vector v (R350, R423): sent while the link is up, the function in D0, Bus Master Enable and MSI-X Enable set and
neither the function nor the vector masked; otherwise its pending bit is set. -/
def State.sendVec (s : State) (v : Nat) : State :=
  let e := 0x6E400 + 16 * v
  if s.host.up && !s.host.d3 && s.host.bme && s.host.msixEn && !s.host.msixMask && !s.bit (e + 12) 0 then
    { s with hostOut := s.hostOut ++ [.msix v (s.reg64 e) (s.reg (e + 8))] }
  else s.setBit (0x6F400 + 4 * (v / 32)) (v % 32) true

/-- Sends every pending vector that can now be sent (R350). -/
def State.flushVecs (s : State) : State :=
  (List.range 64).foldl (fun t v =>
    let p := 0x6F400 + 4 * (v / 32)
    if t.bit p (v % 32) then (t.setBit p (v % 32) false).sendVec v else t) s

/-- Source 29 of the Keep is set in every cycle in which SUM and KEEP_IRQ_KEEP share a bit (R424). -/
def State.keepFault (s : State) : State :=
  if s.irqSum &&& s.reg Reg.KEEP_IRQ_KEEP = 0 then s else s.cpIrq 32 29

/-- Vectors of groups that rose from s to t (R423), and the Keep's source 29 (R424). v is the only group that can have risen. -/
def State.routed (t s : State) (v : Nat) : State :=
  if t.groupPend v && !s.groupPend v then
    let u := if v != 9 && t.bit Reg.KEEP_IRQ_HOST v then t.sendVec v else t
    if u.bit Reg.KEEP_IRQ_KEEP v then u.cpIrq 32 29 else u
  else t

/-- The CP source that a hardware set of INT_RAW bit b of page p also sets: streams (R293), DMA (R292), refused messages (R314), the
dome (R215), the scale adapter (R220) and the update engine (R232). -/
def cpSource (p b : Nat) : Option Nat :=
  if isSpirePage p then
    match pageK p with
    | 10 => if b < 16 then some (16 + b % 4) else none
    | 11 => if b < 16 then some (8 + b % 8) else none
    | 12 => if b = 2 then some 25 else none
    | 6 => if b < 5 then some 20 else none
    | 8 => if b = 0 then some 31 else if 2 ≤ b && b ≤ 5 then some 20 else none
    | _ => none
  else none

/-- A hardware event sets INT_RAW bit b of page p (R12). -/
def State.raise (s : State) (p b : Nat) : State :=
  let t := s.setBit (hdr p 0x10) b true
  let u := match cpSource p b with
    | some c => t.cpIrq (spireOfPage p) c
    | none => t
  u.routed s (groupOf p)

/-! ### Error capture and fault classes (R13, R416, R417) -/

/-- Class of error code c of page p, raised for requester req (R417). -/
def errClass (p c req : Nat) : Nat :=
  if c = 0x30 || c = 0x50 || c = 0xFE then (if req = 40 then 5 else 2)
  else if c = 0x82 then 3
  else if 0x100 ≤ p then
    match pageK p with
    | 0 | 1 => if c = 0x41 then 3 else 2
    | 4 | 5 => if c = 0x60 then 1 else 2
    | 6 | 7 | 8 | 9 => if c = 0x72 || c = 0x77 then 1 else 2
    | 10 => if c = 0x93 then 1 else 2
    | 11 => if c = 0xA2 then 1 else 2
    | _ => 2
  else if p = 0x010 then (if c = 0x10 || c = 0x11 then 2 else 5)
  else if 0x028 ≤ p && p < 0x030 then (if c = 0xA2 then 1 else 2)
  else if 0x020 ≤ p && p < 0x028 then
    (if c = 0x2A then 1 else if c = 0x29 then 3 else if 0x22 ≤ c && c ≤ 0x26 then 2 else 5)
  else if 0x040 ≤ p && p < 0x050 then (if c = 0xC5 then 4 else 2)
  else if 0x060 ≤ p && p < 0x070 then (if c = 0x36 then 2 else 5)
  else if 0x080 ≤ p && p < 0x090 then (if c = 0x10 then 2 else if c = 0x16 || c = 0x17 then 5 else 4)
  else if 0x0A0 ≤ p && p < 0x0B0 then (if c = 0xD7 then 5 else 4)
  else if 0x0B0 ≤ p && p < 0x0C0 then (if c = 0xF1 then 3 else 1)
  else if p = 0x0C0 then (if c = 0xB1 then 1 else 0)
  else (if c = 0xE0 then 5 else 3)

/-- Counts an event of fault class c (R416). -/
def State.classCnt (s : State) (c : Nat) : State := s.bump (Reg.KEEP_CLASS_CNT c)

/-- An error of page p (R13): captured when no capture is held, always counted; req is the requester, where the class depends on it. -/
def State.err (s : State) (p code unit detail : Nat) (req : Nat := 41) : State :=
  let t := (s.bump (hdr p 0x28)).classCnt (errClass p code req)
  if t.bit (hdr p 0x10) 31 then t
  else
    ((t.setReg (hdr p 0x20) (w32 (code <<< 24 + (unit % 256) <<< 16 + detail % 2 ^ 16))).setReg (hdr p 0x24)
      (t.tb.now.extractLsb' 0 32)).raise p 31

/-- An error whose DETAIL the spec does not state: it is a free value (log entry 3). -/
def State.errFree (s : State) (p code unit : Nat) (req : Nat := 41) : State :=
  let (v, t) := s.fresh
  t.err p code unit (v.toNat % 2 ^ 16) req

/-- A corrected event (R417). -/
def State.corrected (s : State) : State := s.classCnt 0

/-- A unit fault line is driven (R418): it reaches the state machine as a UNIT_FAULT event. -/
def State.faultLine (s : State) (cause unit : Nat) : State :=
  { s with faultLines := if s.faultLines.contains (cause, unit) then s.faultLines else s.faultLines ++ [(cause, unit)] }

/-- An access to an unassigned range or page (R22, R24). -/
def State.unmapped (s : State) (req addr : Nat) : State :=
  (s.err 0x060 0x30 req ((addr / 256) % 2 ^ 16) req).raise 0x060 6

/-- The chip state becomes v; every change raises STATE_CHANGE (R413), and entry into FAILED sends vector 9 and sets source 29 (R423, R424). -/
def State.setChip (s : State) (v : Nat) : State :=
  if s.chip = v then s
  else
    let t := (s.setFld Reg.KEEP_STATE 0 3 v).raise 0x000 0
    if v = 5 then (t.sendVec 9).cpIrq 32 29 else t

/-! ### Memory -/

/-- Global address of offset p of vault n (R20). -/
def vaultAddr (n p : Nat) : Nat := 0x010000000000 + n <<< 24 + p

/-- What a global address names (R20). -/
inductive Region
  | dram
  | vault (n : Nat)
  | regs
  | none
  deriving DecidableEq, Repr

/-- The region of global address a (R20, R22). -/
def State.regionOf (s : State) (a : Nat) : Region :=
  if a < 0x001000000000 then (if a < s.dramCap then .dram else .none)
  else if 0x010000000000 ≤ a && a < 0x010020000000 then .vault (a / 0x01000000 % 32)
  else if 0x020000000000 ≤ a && a < 0x020004000000 then .regs
  else .none

/-- Mesh node that serves global address a (R295); register pages by their block. -/
def State.nodeOf (s : State) (a : Nat) : Nat :=
  if a < 0x001000000000 then 32 + s.dramChan a
  else if 0x010000000000 ≤ a && a < 0x010020000000 then a / 0x01000000 % 32
  else if 0x020000000000 ≤ a && a < 0x020004000000 then
    let p := a % 0x04000000 / 0x1000
    if 0x100 ≤ p then spireOfPage p % 32
    else if p = 0 then 41 else if p < 0x040 then 42 else if p < 0x060 then 43 else if p < 0x080 then 40
    else if p < 0x0A0 then 52 + (p - 0x080) / 2 else if p < 0x0B0 then 44 + (p - 0x0A0) % 4
    else if p < 0x0C0 then 32 + (p - 0x0B0) % 8 else 48
  else 40

/-- The byte at address a. -/
def State.byte (s : State) (a : Nat) : Byte := Tab.get memDefault s.mem a

/-- Stores one byte. -/
def State.setByte (s : State) (a : Nat) (b : Byte) : State := { s with mem := Tab.set memDefault s.mem a b }

/-- The n bytes from address a. -/
def State.bytes (s : State) (a n : Nat) : List Byte := (List.range n).map (fun i => s.byte (a + i))

/-- The n bytes from a as a little-endian number. -/
def State.numLE (s : State) (a : Nat) : Nat → Nat
  | 0 => 0
  | n + 1 => (s.byte a).toNat + 256 * State.numLE s (a + 1) n

/-- Bytes as a little-endian number. -/
def leNum : List Byte → Nat
  | [] => 0
  | b :: t => b.toNat + 256 * leNum t

/-- A number as n little-endian bytes. -/
def leBytes (v : Nat) : Nat → List Byte
  | 0 => []
  | n + 1 => BitVec.ofNat 8 v :: leBytes (v / 256) n

/-- Stores bytes from address a up. -/
def State.setBytes (s : State) (a : Nat) : List Byte → State
  | [] => s
  | b :: t => (s.setByte a b).setBytes (a + 1) t

/-- Pairs bytes with rising addresses from a. -/
def cellsAt (a : Nat) : List Byte → List (Nat × Byte)
  | [] => []
  | b :: t => (a, b) :: cellsAt (a + 1) t

/-- The 64-bit words that n bytes from address a touch. -/
def wordsOf (a n : Nat) : List Nat :=
  if n = 0 then [] else (List.range ((a + n - 1) / 8 - a / 8 + 1)).map (a / 8 + ·)

/-- Contents of [lo, hi) are lost: bytes, poison and error marks. -/
def State.clearRange (s : State) (lo hi : Nat) : State :=
  { s with
    mem := s.mem.filter (fun c => c.1 < lo || hi ≤ c.1)
    poison := s.poison.filter (fun w => 8 * w < lo || hi ≤ 8 * w)
    eccOne := s.eccOne.filter (fun w => 8 * w < lo || hi ≤ 8 * w)
    eccTwo := s.eccTwo.filter (fun w => 8 * w < lo || hi ≤ 8 * w) }

/-- Model address of Keep SRAM (R385). -/
def sramAddr : Nat := 0x1000000000000 + 2 ^ 33

/-- Where an ECC error of word w is counted, shown and captured: vaults (R186), DRAM channels (R400) and Keep SRAM (R385, R417, R418). who is the class of R172 for a
vault, the requester node for DRAM. -/
def State.eccHit (s : State) (w who : Nat) (ue : Bool) : State :=
  let a := 8 * w
  match s.regionOf a with
  | .vault n =>
    let p := spirePage n 4
    let t := s.setReg (Reg.VLT_ECC_ADDR n) (w32 ((if ue then 2 ^ 31 else 0) + a % 2 ^ 24))
    if ue then ((t.bump (Reg.VLT_ECC_UE n)).err p 0x60 who ((a / 256) % 2 ^ 16)).raise p 2
    else ((t.bump (Reg.VLT_ECC_CE n)).corrected).raise p 1
  | .dram =>
    let c := s.dramChan a
    let p := 0x0B0 + c
    let t := (s.setReg (Reg.DRC_ECC_ADDR_LO c) (w32 (a % 2 ^ 32 + (if ue then 1 else 0)))).setReg (Reg.DRC_ECC_ADDR_HI c) (w32 (a / 2 ^ 32))
    if ue then ((t.bump (Reg.DRC_ECC_UE c)).err p 0xF0 who ((a / 256) % 2 ^ 16)).raise p 1
    else ((t.bump (Reg.DRC_ECC_CE c)).corrected).raise p 0
  | _ => if sramAddr ≤ a && a < sramAddr + 2 ^ 19 then (if ue then (s.classCnt 3).faultLine 6 0 else s.corrected) else s

/-- A read checks word w (R186, R187, R400): true when it is delivered poisoned. -/
def State.checkWord (s : State) (w who : Nat) : Bool × State :=
  if s.poison.contains w then (true, s)
  else if s.eccTwo.contains w then (true, s.eccHit w who true)
  else if s.eccOne.contains w then (false, s.eccHit w who false)
  else (false, s)

/-- A read checks each word it touches, and names those delivered poisoned. -/
def State.checkWords (s : State) (who : Nat) : List Nat → List Nat × State
  | [] => ([], s)
  | w :: t =>
    let (b, s1) := s.checkWord w who
    let (l, s2) := s1.checkWords who t
    (if b then w :: l else l, s2)

/-- The counts of cycles that requests of class who lost in vault n are open from now on (R173, log entry 6). -/
def State.openConf (s : State) (n who : Nat) : State :=
  { s with contended := NatSet.insert (NatSet.insert s.contended (Reg.VLT_CONF n (who % 8))) (Reg.VLT_WAIT_MAX n) }

/-- A request of class who of R172 to the vault of address a can lose arbitration (R173) by a number of cycles that no command carries. The dome, first in the
order, never loses. -/
def State.contend (s : State) (a who : Nat) : State :=
  match s.regionOf a with
  | .vault n => if who = 0 then s else s.openConf n who
  | _ => s

/-- A request of class cls to vault n has lost k cycles in a row (R173). -/
def State.loseArb (s : State) (n cls k : Nat) : State :=
  let t := s.bump (Reg.VLT_CONF n cls) k
  if s.fld (Reg.VLT_WAIT_MAX n) 0 16 < k then t.setReg (Reg.VLT_WAIT_MAX n) (w32 (cls * 2 ^ 16 + Nat.min k 0xFFFF)) else t

/-- A read of n bytes at a whose lost cycles are known: the bytes, the poisoned words among those it touches, and the state after the ECC checks. -/
def State.readGranted (s : State) (a n who : Nat) : List Byte × List Nat × State :=
  let (l, t) := s.checkWords who (wordsOf a n)
  (s.bytes a n, l, t)

/-- A read of n bytes at a: the bytes, the poisoned words among those it touches, and the state after the ECC checks. -/
def State.readMem (s : State) (a n who : Nat) : List Byte × List Nat × State := (s.contend a who).readGranted a n who

/-- The check bits of word w after a write: pois when the data written is poisoned, full when all 8 bytes are written; the merge of a partial write checks
the word it reads (R186, R187). -/
def State.writeWord (s : State) (w who : Nat) (pois full : Bool) : State :=
  let t := if full then s else (s.checkWord w who).2
  { t with
    poison := if pois || (!full && (s.poison.contains w || s.eccTwo.contains w)) then NatSet.insert t.poison w else NatSet.erase t.poison w
    eccOne := NatSet.erase t.eccOne w
    eccTwo := NatSet.erase t.eccTwo w }

/-- The words of dst, dst + len - 1 that hold a byte of one of the words bad of the source range from src. -/
def poisMove (src dst len : Nat) (bad : List Nat) : List Nat :=
  if bad.isEmpty then [] else (wordsOf dst len).filter (fun w => (List.range len).any (fun i => (dst + i) / 8 == w && bad.contains ((src + i) / 8)))

/-- [a, a + len) cut at the 256-byte boundaries. -/
def cutBlocks (a len : Nat) : List (Nat × Nat) :=
  if len = 0 then []
  else (List.range ((a + len - 1) / 256 - a / 256 + 1)).map (fun i =>
    let lo := Nat.max a ((a / 256 + i) * 256)
    (lo, Nat.min (a + len) ((a / 256 + i + 1) * 256) - lo))

/-- The distinct words of a list of cells. -/
def cellWords (cells : List (Nat × Byte)) : List Nat := cells.foldl (fun l c => NatSet.insert l (c.1 / 8)) []

/-- A write to a block cancels the scrubber's write-back of that block (R188, R401). -/
def State.cancelScrub (s : State) (cells : List (Nat × Byte)) : State :=
  { s with scrubWb := s.scrubWb.filter (fun e => !(cells.any (fun c => c.1 / 256 == e.1))) }

/-- Stores cells, with the words of pois poisoned, keeping the ECC and poison marks (R187). -/
def State.writeMem (s : State) (cells : List (Nat × Byte)) (pois : List Nat) (who : Nat) : State :=
  let t := (cellWords cells).foldl (fun t w =>
    t.writeWord w who (pois.contains w) ((cells.filter (fun c => c.1 / 8 == w)).length == 8)) ((s.cancelScrub cells).contend ((cells.head?.map (·.1)).getD 0) who)
  cells.foldl (fun t c => t.setByte c.1 c.2) t

/-! ### Vault segments (R183 to R185) -/

/-- The segment of physical offset p of vault n is ON. -/
def State.segOn (s : State) (n p : Nat) : Bool := s.fld (Reg.VLT_SEG_STAT n) (2 * ((p / 2 ^ 20) % 16)) 2 == 2

/-- Every segment of [p, p + len) of vault n is ON. -/
def State.segsOn (s : State) (n p len : Nat) : Bool :=
  len = 0 || ((List.range ((p + len - 1) / 2 ^ 20 - p / 2 ^ 20 + 1)).all (fun i => s.segOn n ((p / 2 ^ 20 + i) <<< 20)))

/-- A refused request is reported on the vault page: CODE 0x61 for a write, 0x62 for a read, and OFF_ACCESS (R183, R185). -/
def State.offAccess (s : State) (n p cls : Nat) (write : Bool) : State :=
  (s.err (spirePage n 4) (if write then 0x61 else 0x62) cls ((p / 256) % 2 ^ 16)).raise (spirePage n 4) 3

/-! ### Event counters (R304, R305, R310) -/

/-- Register of EVT n.k (R314). -/
def evtReg (n k : Nat) : Nat := if k < 256 then Reg.EVT_CNT n k else Reg.EVT_CNT_HI n (k - 256)

/-- The condition of R132: the counter has reached v. -/
def reached (c v : Word) : Bool := (c - v).toNat < 2 ^ 31

/-- Each armed watch of spire n whose condition holds fires once (R310). -/
def State.watches (s : State) (n : Nat) : State :=
  (List.range 4).foldl (fun t w =>
    let c := t.reg (Reg.EVT_WATCH_CFG n w)
    if bitOf c 31 && reached (t.reg (evtReg n (bitsOf c 0 9))) (t.reg (Reg.EVT_WATCH_VAL n w)) then
      (t.setReg (Reg.EVT_WATCH_CFG n w) (putBit c 31 false)).cpIrq n (21 + w)
    else t) s

/-- Sets EVT n.k and judges the watches. -/
def State.evtSet (s : State) (n k : Nat) (v : Word) : State := (s.setReg (evtReg n k) v).watches n

/-- Adds amt to EVT n.k (R305). -/
def State.evtAdd (s : State) (n k : Nat) (amt : Nat) : State := s.evtSet n k (s.reg (evtReg n k) + w32 amt)

/-! ### Messages (R298 to R303) -/

/-- The ordering class of R301: WRITE kinds in one class, INC, TC and RCRED in the other, ACK and HB in none. -/
def msgOrder : Body → Nat
  | .pw .. => 1 | .rreq .. => 1 | .rd .. => 1 | .rdr .. => 1
  | .inc .. => 2 | .tc => 2 | .rcred => 2
  | .ack .. => 0 | .hb => 0

/-- A fresh message number and the node of a destination field. -/
def nodeFin (n : Nat) : Node := ⟨n % 64, Nat.mod_lt _ (by decide)⟩

/-- Presents a message to the mesh. own says that its source awaits the acknowledgement (PW and INC, R302); a spire counts its INCs in EVT_TX (R308). -/
def State.post (s : State) (src dst : Nat) (body : Body) (own : Bool := true) : State :=
  let m : Msg := { id := s.msgId, src := nodeFin src, dst := nodeFin dst, body := body }
  let t := { s with mesh := s.mesh ++ [m], msgId := s.msgId + 1 }
  match body with
  | .pw .. => if own then { t with unacked := t.unacked ++ [(src, m.id)] } else t
  | .inc .. =>
    let u := if own then { t with unacked := t.unacked ++ [(src, m.id)] } else t
    if src < 32 then u.count (Reg.EVT_TX src) else u
  | _ => t

/-- The numbers of the writes and increments of node src that are not yet acknowledged (R302). -/
def State.outstanding (s : State) (src : Nat) : List Nat := (s.unacked.filter (fun u => u.1 == src)).map (·.2)

/-- Sends an INC or TC of a spire: presented at once when nothing earlier waits, otherwise held (R302, R306), behind the 8
if need be (log entry 95). -/
def State.sendEvent (s : State) (src dst : Nat) (body : Body) : State :=
  if (s.outstanding src).isEmpty && !(s.held.any (fun h => h.node == src)) then s.post src dst body
  else { s with held := s.held ++ [{ node := src, waits := s.outstanding src, dst := nodeFin dst, body := body }],
                contended := NatSet.insert s.contended (Reg.EVT_FENCE_WAIT src) }

/-- Adds amt to EVT n.k from node src: locally when src is the spire itself, else as an INC (R305, R307). -/
def State.sendInc (s : State) (src n k amt : Nat) : State :=
  if src = n then s.evtAdd n k amt
  else
    let b : Body := .inc ⟨k % 512, Nat.mod_lt _ (by decide)⟩ (BitVec.ofNat 16 amt)
    if src < 32 then s.sendEvent src n b else s.post src n b

/-- The read credits of src towards dst in use (R300). -/
def State.credUsed (s : State) (src dst : Nat) : Nat := Tab.get (fun _ => 0) s.readCred (src * 64 + dst)

/-- Sets the read credits in use. -/
def State.setCred (s : State) (src dst v : Nat) : State :=
  { s with readCred := Tab.set (fun _ => 0) s.readCred (src * 64 + dst) v }

/-- Presents an RREQ or RD against a read credit (R300); the caller has checked that one is free. -/
def State.postRead (s : State) (src dst : Nat) (body : Body) : State :=
  (s.setCred src dst (s.credUsed src dst + 1)).post src dst body

/-- m may arrive now: it is the oldest of its class, source and destination in the mesh (R301), or comes from a source the model does not
drive (log entry 5). -/
def State.mayArrive (s : State) (m : Msg) : Bool :=
  if s.mesh.contains m then
    msgOrder m.body == 0 ||
    (s.mesh.find? (fun x => msgOrder x.body == msgOrder m.body && x.src == m.src && x.dst == m.dst)) == some m
  else true

/-- The first occurrence of m leaves the mesh. -/
def State.takeMsg (s : State) (m : Msg) : State := { s with mesh := s.mesh.erase m }

/-- Cells grouped into the 256-byte blocks of R181, in address order. -/
def blocksOf (cells : List (Nat × Byte)) : List (List (Nat × Byte)) :=
  (cells.foldl (fun l c => NatSet.insert l (c.1 / 256)) []).map (fun b => cells.filter (fun c => c.1 / 256 == b))


/-! ### Vault reads and writes of every requester -/

/-- A read of [a, a + n) through a wide port: the words of the 256-byte blocks it reads are checked (R169, R186), and the poisoned ones among those it
asks for are named. -/
def State.blockRead (s : State) (a n who : Nat) : List Byte × List Nat × State :=
  let r := s.readMem (a / 256 * 256) ((a + n + 255) / 256 * 256 - a / 256 * 256) who
  (s.bytes a n, r.2.1.filter (fun w => (wordsOf a n).contains w), r.2.2)

/-- A read of [p, p + len) of vault n by class cls (R172): none when a segment is not ON (the caller reports it), else bytes, poisoned
words and the state after the ECC checks. -/
def State.vaultRead (s : State) (n p len cls : Nat) : Option (List Byte × List Nat × State) :=
  if s.segsOn n p len then some (s.blockRead (vaultAddr n p) len cls) else none

/-- A granted write to vault n of cells in global addresses, by class cls (R171, R187). -/
def State.vaultStore (s : State) (cells : List (Nat × Byte)) (pois : List Nat) (cls : Nat) : State := s.writeMem cells pois cls

/-- An inbound posted write or landing at vault n (R181, R183): dropped and reported when its segment is not ON; otherwise stored, with
its arrival increment. -/
def State.vaultArrive (s : State) (n : Nat) (cells : List (Nat × Byte)) (pois : List Nat) (arr : Option Ctr) (cls : Nat) : State :=
  let p := match cells with
    | [] => 0
    | c :: _ => (c.1 - vaultAddr n 0) % 2 ^ 24
  if s.segOn n p then
    let t := s.vaultStore cells pois cls
    match arr with
    | some k => (t.bump (Reg.VLT_ARR_CNT n)).evtAdd n k.val 1
    | none => t
  else (s.bump (Reg.VLT_OFF_DROP n)).offAccess n p cls true

end Sys2Proof.Machine
end

