-- ==== Sys2Proof/Machine/Vault.lean ====
section
/-! DEFINITION. The vault: segment power (R184), scrubbing (R188) and the shaped reads of R175 and R176. -/

namespace Sys2Proof.Machine

/-- Key of segment seg of vault n in State.wakeAt. -/
def segKey (n seg : Nat) : Nat := n * 16 + seg

/-- Segment seg of vault n goes OFF: its contents are lost (R184). -/
def State.segOff (s : State) (n seg : Nat) : State :=
  let t := s.setFld (Reg.VLT_SEG_STAT n) (2 * seg) 2 0
  t.clearRange (vaultAddr n (seg <<< 20)) (vaultAddr n ((seg + 1) <<< 20))

/-- Segment seg of vault n starts to wake: 20,000 ns of clearing in device time (R184). -/
def State.segWake (s : State) (n seg : Nat) : State :=
  let t := s.setFld (Reg.VLT_SEG_STAT n) (2 * seg) 2 1
  { t with wakeAt := Tab.set (fun _ => 0) t.wakeAt (segKey n seg) (t.tb.now.toNat + 20000) }

/-- The power requests of vault n become v (bits [15:1]); each segment follows its bit (R184). -/
def State.segPower (s : State) (n : Nat) (v : Word) : State :=
  let t := s.setReg (Reg.VLT_SEG_PWR n) v
  (List.range 15).foldl (fun t i =>
    let seg := i + 1
    let st := t.fld (Reg.VLT_SEG_STAT n) (2 * seg) 2
    if bitOf v seg then (if st = 0 then t.segWake n seg else t)
    else (if st = 0 then t else t.segOff n seg)) t

/-- SEG_READY (R184): a WAKING segment whose clearing time has passed is ON. -/
def State.segReady (s : State) (n seg : Nat) : State :=
  if s.fld (Reg.VLT_SEG_STAT n) (2 * seg) 2 = 1 && Tab.get (fun _ => 0) s.wakeAt (segKey n seg) ≤ s.tb.now.toNat then
    (s.setFld (Reg.VLT_SEG_STAT n) (2 * seg) 2 2).raise (spirePage n 4) 0
  else s

/-- The first block at or after b of vault n whose segment is ON. -/
def State.scrubNext (s : State) (n b : Nat) : Option Nat :=
  if 2 ^ 16 ≤ b then none
  else if s.segOn n (b * 256) then some b
  else ((List.range 16).find? (fun g => b < g * 2 ^ 12 && s.segOn n (g <<< 20))).map (· * 2 ^ 12)

/-- The scrubber of vault n has read block b (R188): its position moves on, and after the last block the pass ends. -/
def State.scrubAdvance (s : State) (n b : Nat) : State :=
  match s.scrubNext n (b + 1) with
  | some c => s.setReg (Reg.VLT_SCRUB_POS n) (w32 c)
  | none => ((s.setReg (Reg.VLT_SCRUB_POS n) 0).count (Reg.VLT_SCRUB_PASS n)).raise (spirePage n 4) 4

/-- The words of block number b (global address divided by 256) that hold a corrected error. -/
def State.scrubHits (s : State) (b : Nat) : List Nat :=
  ((List.range 32).map (32 * b + ·)).filter (fun w => s.eccOne.contains w && !s.eccTwo.contains w && !s.poison.contains w)

/-- A scrub read of block b (global address divided by 256) for reader who; corrected words wait to be written back (R188, R401). -/
def State.scrubBlock (s : State) (b who : Nat) : State :=
  let hits := s.scrubHits b
  let t := ((s.contend (256 * b) who).checkWords who ((List.range 32).map (32 * b + ·))).2
  if hits.isEmpty then t else { t with scrubWb := t.scrubWb ++ [(b, hits)] }

/-- SCRUB_READ (R188). -/
def State.scrubRead (s : State) (n : Nat) : State :=
  if s.bit (Reg.VLT_SCRUB_CTL n) 31 then
    match s.scrubNext n ((s.reg (Reg.VLT_SCRUB_POS n)).toNat) with
    | some b => (s.scrubBlock (vaultAddr n 0 / 256 + b) 7).scrubAdvance n b
    | none => s.scrubAdvance n (2 ^ 16)
  else s

/-- The corrected words of one scrubbed block are written back; the oldest of those for which p holds (R188, R401). -/
def State.scrubWriteBack (s : State) (p : Nat → Bool) : State :=
  match s.scrubWb.find? (fun e => p e.1) with
  | some e => { s with eccOne := s.eccOne.filter (fun w => !e.2.contains w), scrubWb := s.scrubWb.erase e }
  | none => s

/-- SCRUB_WRITEBACK (R188). -/
def State.scrubWrite (s : State) (n : Nat) : State :=
  s.scrubWriteBack (fun b => vaultAddr n 0 / 256 ≤ b && b < vaultAddr n 0 / 256 + 2 ^ 16)

/-! ### Shaped reads (R175) -/

/-- Rows of a shape: number of rows and bytes a row. -/
def shapeRows (shape : Nat) : Nat × Nat :=
  match shape with
  | 0 => (1, 256) | 1 => (8, 32) | 2 => (16, 16) | 3 => (8, 32) | 4 => (16, 16) | _ => (0, 0)

/-- The fields of a shaped read fit R175: a defined shape, the origin aligned, and the pitch a nonzero multiple of the row's bytes. -/
def shapeOk (shape origin pitch : Nat) : Bool :=
  match shape with
  | 0 => origin % 256 = 0
  | 1 => origin % 32 = 0 && pitch % 32 = 0 && 0 < pitch
  | 2 => origin % 16 = 0 && pitch % 16 = 0 && 0 < pitch
  | 3 => origin % 32 = 0 && pitch % 32 = 0 && 0 < pitch
  | 4 => origin % 16 = 0 && pitch % 16 = 0 && 0 < pitch
  | _ => false

/-- Offset from the origin of the input byte that lands at output byte k of a shaped read (R175). -/
def shapeSrc (shape pitch k : Nat) : Nat :=
  match shape with
  | 0 => k
  | 1 => (k / 32) * pitch + k % 32
  | 2 => (k / 16) * pitch + k % 16
  | 3 => ((k % 32) / 4) * pitch + 4 * (k / 32) + k % 4
  | _ => (k % 16) * pitch + k / 16

/-- Bytes from the lowest to one past the highest byte that a shaped read touches. -/
def shapeSpan (shape pitch : Nat) : Nat :=
  let (r, b) := shapeRows shape
  (r - 1) * pitch + b

/-- A shaped read of 256 bytes at physical offset p of vault n (R175, R176): refused as a whole when a row's segment is not ON. The words of
the blocks it reads are checked (R186), it may lose in arbitration (R173), and the poisoned output words are named by index 0 to 31. -/
def State.shapedRead (s : State) (n p shape pitch cls : Nat) : Option (List Byte × List Nat × State) :=
  let (rows, rb) := shapeRows shape
  if (List.range rows).all (fun r => s.segsOn n (p + r * pitch) rb) then
    let words := (List.range rows).foldl (fun l r => (wordsOf (vaultAddr n ((p + r * pitch) / 256 * 256)) 256).foldl NatSet.insert l) []
    let (bad, t) := (s.contend (vaultAddr n p) cls).checkWords cls words
    let src := fun k => vaultAddr n (p + shapeSrc shape pitch k)
    some ((List.range 256).map (fun k => s.byte (src k)),
      (List.range 32).filter (fun w => (List.range 8).any (fun j => bad.contains (src (8 * w + j) / 8))), t)
  else none

/-- Where a refused access at physical offset p that spans at most two blocks is refused (R185): its first block, or the next one when only
that one's segment is not ON. -/
def State.refusedAt (s : State) (n p : Nat) : Nat := if s.segOn n p then p / 256 * 256 + 256 else p

/-- Where a refused shaped read is refused (R176): its first row whose segment is not ON. -/
def State.shapedRefusedAt (s : State) (n p shape pitch : Nat) : Nat :=
  let (rows, rb) := shapeRows shape
  match (List.range rows).find? (fun r => !s.segsOn n (p + r * pitch) rb) with
  | some r => s.refusedAt n (p + r * pitch)
  | none => p

/-- Physical range [lo, lo + len) of vault n lies inside one task window with permission bit perm (0 R, 1 W, 2 X) (R179). -/
def State.inWindow (s : State) (n lo len perm : Nat) : Bool :=
  (List.range 4).any (fun w =>
    let b := s.reg (Reg.VLT_TB_BASE n w)
    let base := bitsOf b 12 12 * 4096
    let size := s.fld (Reg.VLT_TB_SIZE n w) 12 11 * 4096
    0 < size && bitOf b perm && base ≤ lo && lo + len ≤ base + size)

/-- A local vault address a of n bytes through its task window (R177, R178): the physical offset, or none when refused. -/
def State.translate (s : State) (n a len perm : Nat) : Option Nat :=
  let w := (a / 2 ^ 22) % 4
  let b := s.reg (Reg.VLT_TB_BASE n w)
  let size := s.fld (Reg.VLT_TB_SIZE n w) 12 11 * 4096
  let o := a % 2 ^ 22
  let p := bitsOf b 12 12 * 4096 + o
  if size = 0 || size < o + len || 2 ^ 24 < p + len || !bitOf b perm then none else some p

end Sys2Proof.Machine
end

