-- ==== Sys2Proof/Machine/Dma.lean ====
section
/-! DEFINITION. The 288 DMA channels (R268 to R276): channels 0 to 255 are channel c of spire n as 8n + c, 256 to 287 the chip channels. -/

namespace Sys2Proof.Machine

/-- Page of channel ch (R268, R292). -/
def dmaPage (ch : Nat) : Nat := if ch < 256 then spirePage (ch / 8) 11 else 0x028 + (ch - 256) / 4

/-- Index of channel ch on its page. -/
def dmaIdx (ch : Nat) : Nat := if ch < 256 then ch % 8 else (ch - 256) % 4

/-- Mesh node of channel ch (R295). -/
def dmaNode (ch : Nat) : Nat := if ch < 256 then ch / 8 else 42

/-- UNIT of channel ch in its error captures (R292). -/
def dmaUnit (ch : Nat) : Nat := if ch < 256 then ch % 8 else ch - 256

/-- Register r (a Reg function of page and index) of channel ch. -/
def dmaReg (r : Nat → Nat → Nat) (ch : Nat) : Nat := r (dmaPage ch) (dmaIdx ch)

/-- Hidden state of channel ch. -/
def State.dmaSt (s : State) (ch : Nat) : DmaSt := Tab.get (fun _ => DmaSt.reset) s.dma ch

/-- Sets the hidden state of channel ch. -/
def State.setDma (s : State) (ch : Nat) (d : DmaSt) : State := { s with dma := Tab.set (fun _ => DmaSt.reset) s.dma ch d }

/-- Raises DONE (R292). -/
def State.dmaDoneInt (s : State) (ch : Nat) : State := s.raise (dmaPage ch) (dmaIdx ch)

/-- Raises ERR (R292). -/
def State.dmaErrInt (s : State) (ch : Nat) : State := s.raise (dmaPage ch) (if ch < 256 then 8 + dmaIdx ch else 4 + dmaIdx ch)

/-- BUSY of channel ch. -/
def State.dmaBusy (s : State) (ch : Nat) : Bool := s.bit (dmaReg Reg.DMA_STAT ch) 31

/-- Where a range lies wholly: the DRAM in use, or the vault of one spire of the grid (R269 reason 0x0002). -/
def State.rangeHome (s : State) (a len : Nat) : Option Region :=
  if 2 ^ 48 < a + len then none
  else match s.regionOf a with
  | .dram => if a + len ≤ s.dramCap then some .dram else none
  | .vault n => if a + len ≤ vaultAddr (n + 1) 0 && s.inGrid n then some (.vault n) else none
  | _ => none

/-- Reason 0x0004 of R269, with R270, R271 and R292: page disabled, a reserved field, or a shape that does not fit. -/
def State.dmaFieldBad (s : State) (ch : Nat) : Bool :=
  let ctl := s.reg (dmaReg Reg.DMA_CTL ch)
  let shp := s.reg (dmaReg Reg.DMA_SHAPE ch)
  let src := s.reg64 (dmaReg Reg.DMA_SRC_LO ch)
  let dst := s.reg64 (dmaReg Reg.DMA_DST_LO ch)
  let cnt := (s.reg (dmaReg Reg.DMA_CNT ch)).toNat
  let step := (s.reg (dmaReg Reg.DMA_TSTEP ch)).toNat
  let shape := bitsOf shp 24 3
  !s.bit (hdr (dmaPage ch) 8) 0
    || (ch < 256 && bitsOf ctl 3 5 != 0)
    || (256 ≤ ch && shape != 0)
    || (shape != 0 &&
        (s.regionOf src != .vault (ch / 8) || vaultAddr (ch / 8 + 1) 0 < src + cnt || cnt % 256 != 0 || !shapeOk shape src (bitsOf shp 0 20)
          || (256 < cnt && !shapeOk shape (src + step) (bitsOf shp 0 20))))
    || (bitOf ctl 27 && cnt != 0 && s.regionOf dst == .dram)

/-- Bytes from SRC that the transfer reads: CNT, or up to the last byte of the last tile (R271). -/
def State.dmaSrcSpan (s : State) (ch : Nat) : Nat :=
  let cnt := (s.reg (dmaReg Reg.DMA_CNT ch)).toNat
  let shp := s.reg (dmaReg Reg.DMA_SHAPE ch)
  if bitsOf shp 24 3 = 0 then cnt
  else (cnt / 256 - 1) * (s.reg (dmaReg Reg.DMA_TSTEP ch)).toNat + shapeSpan (bitsOf shp 24 3) (bitsOf shp 0 20)

/-- The reason a START of an idle channel is refused, 0 when it passes (R269, R270). -/
def State.dmaReason (s : State) (ch : Nat) : Nat :=
  let src := s.reg64 (dmaReg Reg.DMA_SRC_LO ch)
  let dst := s.reg64 (dmaReg Reg.DMA_DST_LO ch)
  let cnt := (s.reg (dmaReg Reg.DMA_CNT ch)).toNat
  if s.dmaFieldBad ch then 4
  else if cnt = 0 then 0
  else match s.rangeHome src cnt, s.rangeHome dst cnt with
  | some hs, some hd =>
    if 256 ≤ ch then 0
    else if hs == .vault (ch / 8) && !s.inWindow (ch / 8) (src - vaultAddr (ch / 8) 0) (s.dmaSrcSpan ch) 0 then 1
    else if hd == .vault (ch / 8) && !s.inWindow (ch / 8) (dst - vaultAddr (ch / 8) 0) cnt 1 then 1
    else 0
  | _, _ => 2

/-- Completion of channel ch (R273): RESULT 0, BUSY clear, DONE, the completion event, and the arrival increment of a transfer whose
source is not its own vault. -/
def State.dmaComplete (s : State) (ch : Nat) : State :=
  let ctl := s.reg (dmaReg Reg.DMA_CTL ch)
  let t := ((s.setReg (dmaReg Reg.DMA_STAT ch) 0).setDma ch DmaSt.reset).dmaDoneInt ch
  let own := ch < 256 && s.regionOf (s.reg64 (dmaReg Reg.DMA_SRC_LO ch)) == .vault (ch / 8)
  let u := if bitOf ctl 27 && !own && (s.reg (dmaReg Reg.DMA_CNT ch)).toNat != 0 then
      match s.regionOf (s.reg64 (dmaReg Reg.DMA_DST_LO ch)) with
      | .vault d => t.sendInc (dmaNode ch) d (bitsOf ctl 18 9) 1
      | _ => t
    else t
  if bitOf ctl 17 then
    u.sendInc (dmaNode ch) (if ch < 256 then ch / 8 else bitsOf ctl 3 5) (bitsOf ctl 8 9) 1
  else u

/-- Ends the transfer when its books allow: early once nothing is in flight (R275), or complete once every byte is acknowledged (R273). -/
def State.dmaSettle (s : State) (ch : Nat) : State :=
  let d := s.dmaSt ch
  let cnt := (s.reg (dmaReg Reg.DMA_CNT ch)).toNat
  let left := (s.reg (dmaReg Reg.DMA_LEFT ch)).toNat
  let done := (s.reg (dmaReg Reg.DMA_DONE ch)).toNat
  if !s.dmaBusy ch then s
  else match d.ending with
  | some r =>
    if left + done = cnt then ((s.setReg (dmaReg Reg.DMA_STAT ch) (w32 (r <<< 24))).setDma ch DmaSt.reset).dmaErrInt ch else s
  | none => if done = cnt then s.dmaComplete ch else s

/-- START of channel ch, by a register write or a DMA_START entry (R268 to R270). -/
def State.dmaStart (s : State) (ch : Nat) : State :=
  if s.dmaBusy ch then (s.err (dmaPage ch) 0xA0 (dmaUnit ch) 7).dmaErrInt ch
  else
    let r := s.dmaReason ch
    if r ≠ 0 then
      ((s.setReg (dmaReg Reg.DMA_STAT ch) (w32 (r <<< 24))).err (dmaPage ch) 0xA0 (dmaUnit ch) r).dmaErrInt ch
    else
      let cnt := s.reg (dmaReg Reg.DMA_CNT ch)
      let t := (((s.setReg (dmaReg Reg.DMA_LEFT ch) cnt).setReg (dmaReg Reg.DMA_DONE ch) 0).setReg (dmaReg Reg.DMA_STAT ch) (w32 (2 ^ 31))).setDma ch
        DmaSt.reset
      if cnt = 0 then t.dmaComplete ch else t

/-- STOP of channel ch (R275): a busy channel presents no new read and ends when nothing is in flight. -/
def State.dmaStop (s : State) (ch : Nat) : State :=
  if s.dmaBusy ch then
    let d := s.dmaSt ch
    (s.setDma ch { d with ending := some (d.ending.getD 6) }).dmaSettle ch
  else s

/-- A write of DMA_CTL with value v, whose RW fields lock or busy leave as they stand (R276, R14). -/
def State.dmaCtlWrite (s : State) (ch : Nat) (v : Word) (req : Nat) : State :=
  if s.dmaBusy ch then
    if !bitOf v 31 && !bitOf v 30 then
      s.err (dmaPage ch) 0x50 (dmaUnit ch) (dmaReg Reg.DMA_CTL ch % 0x1000) req
    else
      let t := if bitOf v 31 then s.dmaStart ch else s
      if bitOf v 30 then t.dmaStop ch else t
  else
    let t := s.setReg (dmaReg Reg.DMA_CTL ch) (v &&& 0x0FFFFFF8)
    if bitOf v 31 then t.dmaStart ch else t

/-- Acknowledged bytes of channel ch (R273, R275): DMA_DONE rises, a poisoned piece is counted and captured once. An acknowledgement that a reset
of the channel has overtaken changes nothing. -/
def State.dmaAck (s : State) (ch bytes blk : Nat) (pois : Bool) : State :=
  if !s.dmaBusy ch then s else
  let t := s.setReg (dmaReg Reg.DMA_DONE ch) (s.reg (dmaReg Reg.DMA_DONE ch) + w32 bytes)
  let d := t.dmaSt ch
  let u := if pois && !d.poisBlks.contains blk then
      ((t.setDma ch { d with poisBlks := blk :: d.poisBlks }).bump (dmaReg Reg.DMA_POISON ch)).err (dmaPage ch) 0xA2 (dmaUnit ch) (blk % 2 ^ 16)
    else t
  u.dmaSettle ch

/-- The tag of a DMA write. -/
def dmaTag (ch bytes blk : Nat) (pois : Bool) : Tag := .dma ⟨ch % 288, Nat.mod_lt _ (by decide)⟩ bytes blk pois

/-- The next piece of channel ch: its offset in the transfer and its bytes, cut at the 256-byte boundaries of the destination (R271). -/
def State.dmaPiece (s : State) (ch : Nat) : Nat × Nat :=
  let cnt := (s.reg (dmaReg Reg.DMA_CNT ch)).toNat
  let dst := s.reg64 (dmaReg Reg.DMA_DST_LO ch)
  let o := (s.dmaSt ch).next
  (o, Nat.min (cnt - o) (256 - (dst + o) % 256))

/-- Physical offset in vault n of the origin of the tile that holds offset o of the transfer of channel ch (R271). -/
def State.dmaTile (s : State) (ch n o : Nat) : Nat :=
  s.reg64 (dmaReg Reg.DMA_SRC_LO ch) - vaultAddr n 0 + o / 256 * (s.reg (dmaReg Reg.DMA_TSTEP ch)).toNat

/-- Bytes [q, q + len) of the transfer of channel ch, which lie in one tile, with the poisoned words they leave at address dst. -/
def State.dmaTileRead (s : State) (ch n q len dst : Nat) : Option (List Byte × List Nat × State) :=
  let shp := s.reg (dmaReg Reg.DMA_SHAPE ch)
  (s.shapedRead n (s.dmaTile ch n q) (bitsOf shp 24 3) (bitsOf shp 0 20) 4).map (fun (b, bad, t) =>
    ((b.drop (q % 256)).take len, poisMove (q % 256) dst len bad, t))

/-- The source bytes of the piece at offset o of a transfer out of the channel's own vault n, with the poisoned destination words. -/
def State.dmaOwnRead (s : State) (ch n o len dst : Nat) : Option (List Byte × List Nat × State) :=
  let src := s.reg64 (dmaReg Reg.DMA_SRC_LO ch) - vaultAddr n 0
  let shp := s.reg (dmaReg Reg.DMA_SHAPE ch)
  if bitsOf shp 24 3 = 0 then
    (s.vaultRead n (src + o) len 4).map (fun (b, bad, t) =>
      (b, poisMove (vaultAddr n (src + o)) dst len bad, t))
  else
    (cutBlocks o len).foldl (fun acc q => acc.bind (fun (b, bad, t) =>
      (t.dmaTileRead ch n q.1 q.2 (dst + (q.1 - o))).map (fun (b', bad', u) => (b ++ b', bad ++ bad', u)))) (some ([], [], s))

/-- The physical offset at which the source read of the piece of len bytes at offset o is refused (R275). -/
def State.dmaRefusedAt (s : State) (ch n o len : Nat) : Nat :=
  let src := s.reg64 (dmaReg Reg.DMA_SRC_LO ch) - vaultAddr n 0
  let shp := s.reg (dmaReg Reg.DMA_SHAPE ch)
  if bitsOf shp 24 3 = 0 then s.refusedAt n (src + o)
  else
    let q := ((cutBlocks o len).find? (fun q => (s.dmaTileRead ch n q.1 q.2 0).isNone)).elim o Prod.fst
    s.shapedRefusedAt n (s.dmaTile ch n q) (bitsOf shp 24 3) (bitsOf shp 0 20)

/-- The bytes of a piece leave DMA_LEFT and the channel moves on (R274). -/
def State.dmaAdvance (s : State) (ch len : Nat) : State :=
  let d := s.dmaSt ch
  (s.setReg (dmaReg Reg.DMA_LEFT ch) (s.reg (dmaReg Reg.DMA_LEFT ch) - w32 len)).setDma ch { d with next := d.next + len }

/-- A piece of a transfer out of the channel's own vault: read, then presented as a posted write, which for the channel's own vault crosses no link and is
granted later than the read (R174, R272, R273, R275, R277; log entry 97). -/
def State.dmaOwnPiece (s : State) (ch n o len : Nat) : State :=
  let dst := s.reg64 (dmaReg Reg.DMA_DST_LO ch) + o
  let ctl := s.reg (dmaReg Reg.DMA_CTL ch)
  match s.dmaOwnRead ch n o len dst with
  | none =>
    let src := s.dmaRefusedAt ch n o len
    let t := (s.offAccess n src 4 false).err (dmaPage ch) 0xA1 (dmaUnit ch) ((src / 256) % 2 ^ 16)
    (t.setDma ch { t.dmaSt ch with ending := some 5 }).dmaSettle ch
  | some (data, bad, t) =>
    let u := t.dmaAdvance ch len
    let arr : Option Ctr :=
      if bitOf ctl 27 && o + len = (s.reg (dmaReg Reg.DMA_CNT ch)).toNat then some ⟨bitsOf ctl 18 9 % 512, Nat.mod_lt _ (by decide)⟩ else none
    u.post n (s.nodeOf dst) (.pw (cellsAt dst data) bad arr false (dmaTag ch len (dst / 256) (!bad.isEmpty))) (s.regionOf dst != .vault n)

/-- A piece of any other transfer: one or two read requests, whose data the source sends to the destination (R271, R272, R300). -/
def State.dmaRemotePiece (s : State) (ch o len : Nat) : State :=
  let src := s.reg64 (dmaReg Reg.DMA_SRC_LO ch) + o
  let dst := s.reg64 (dmaReg Reg.DMA_DST_LO ch) + o
  let me := dmaNode ch
  let parts := cutBlocks src len
  let need := fun nd => (parts.filter (fun q => s.nodeOf q.1 == nd)).length
  if parts.all (fun q => s.credUsed me (s.nodeOf q.1) + need (s.nodeOf q.1) ≤ 2) then
    (parts.foldl (fun t q =>
      t.postRead me (s.nodeOf q.1) (.rreq q.1 q.2 (dst + (q.1 - src)) (dmaTag ch q.2 ((dst + (q.1 - src)) / 256) false))) s).dmaAdvance ch len
  else s

/-- DMA_PIECE_REQUEST (R271): a busy channel that is not ending presents its next piece. -/
def State.dmaRequest (s : State) (ch : Nat) : State :=
  let (o, len) := s.dmaPiece ch
  if !s.dmaBusy ch || (s.dmaSt ch).ending.isSome || len = 0 then s
  else if ch < 256 && s.regionOf (s.reg64 (dmaReg Reg.DMA_SRC_LO ch)) == .vault (ch / 8) then s.dmaOwnPiece ch (ch / 8) o len
  else s.dmaRemotePiece ch o len

end Sys2Proof.Machine
end

