-- ==== Sys2Proof/Machine/Tio.lean ====
section
/-! DEFINITION. The output side of the timed I/O unit (R332 to R339): fire records, channels, chains and fail-quiet. -/

namespace Sys2Proof.Machine

/-- Applies f to the timed I/O unit. -/
def State.modTio (s : State) (f : Tio → Tio) : State := { s with tio := f s.tio }

/-- Output channel c. -/
def State.chan (s : State) (c : Nat) : TioChan := Tab.get (fun _ => TioChan.reset) s.tio.chans c

/-- Sets output channel c. -/
def State.setChan (s : State) (c : Nat) (x : TioChan) : State :=
  s.modTio (fun t => { t with chans := Tab.set (fun _ => TioChan.reset) t.chans c x })

/-- A channel is held while its queue holds a record or its pulse is active (R338). -/
def TioChan.isHeld (x : TioChan) : Bool := !x.queue.isEmpty || x.active

/-- TIO_STAT.QANY: some channel is held (R338). -/
def State.qany (s : State) : Bool := s.tio.chans.any (fun e => e.2.isHeld)

/-- The conditions of fail-quiet (R339). -/
def State.quietCond (s : State) : Bool := s.chip == 5 || s.bit Reg.TIO_CTL 0 || !s.bit (hdr 0x040 8) 0

/-- TIO_STAT (R345). -/
def State.tioStat (s : State) : Word :=
  putBit (putBit (putBit 0 0 s.qany) 1 s.tio.quiet) 2 (s.tio.quiet && s.chip == 5)

/-- The level channel c drives at its ball (R336, R345). -/
def State.tioOut (s : State) (c : Nat) : Bool := ((s.chan c).active && s.bit (Reg.TIO_OCFG c) 0) != s.bit (Reg.TIO_OCFG c) 1

/-- The TIO becomes quiet (R339): queued records are discarded and counted, pulses end, QUIET is raised. -/
def State.tioEnter (s : State) : State :=
  let n := s.tio.chans.foldl (fun k e => k + e.2.queue.length) 0
  let cleared := s.tio.chans.map (fun e => (e.1, { e.2 with queue := [], active := false }))
  let kept := cleared.filter (fun e => e.2 != TioChan.reset)
  ((s.modTio (fun t => { t with quiet := true, chans := kept })).bump Reg.TIO_FLUSHED n).raise 0x040 4

/-- The TIO leaves quiet: LAST and END of every channel become 0 (R339). -/
def State.tioLeave (s : State) : State := s.modTio (fun t => { t with quiet := false, chans := [] })

/-- Quiet follows its conditions (R339). -/
def State.tioSettle (s : State) : State :=
  if s.quietCond && !s.tio.quiet then s.tioEnter
  else if !s.quietCond && s.tio.quiet then s.tioLeave
  else s

/-- The fields of a record (R332). -/
def FireRec.time (r : FireRec) : BitVec 64 := r.w1 ++ r.w0
def FireRec.chan (r : FireRec) : Nat := bitsOf r.w2 24 7
def FireRec.width (r : FireRec) : Nat := bitsOf r.w2 0 24
def FireRec.seq (r : FireRec) : Nat := bitsOf r.w3 0 16

/-- The reason of check 1 of R334, 0 when it passes; d is TIME minus the arrival time, signed. -/
def State.fireBad (s : State) (r : FireRec) (d : Int) : Nat :=
  if !r.whole then 1
  else if bitOf r.w2 31 || bitsOf r.w3 16 16 != 0 then 2
  else if 95 < r.chan then 3
  else if !s.bit (Reg.TIO_OCFG r.chan) 0 then 4
  else if r.width < 20 then 5
  else if 2 ^ 32 ≤ d then 6
  else 0

/-- A record that is not queued loads TIO_REJ (R334, R339). -/
def State.fireRej (s : State) (r : FireRec) (outcome detail : Nat) : State :=
  ((((s.setReg Reg.TIO_REJ_W0 r.w0).setReg Reg.TIO_REJ_W1 r.w1).setReg Reg.TIO_REJ_W2 r.w2).setReg Reg.TIO_REJ_W3 r.w3).setReg Reg.TIO_REJ_INFO
    (w32 (outcome * 2 ^ 16 + detail))

/-- An outcome of R334 other than queuing: counter a, capture and interrupt bit b. -/
def State.fireFail (s : State) (r : FireRec) (outcome detail a b : Nat) : State :=
  (((s.fireRej r outcome detail).bump a).err 0x040 outcome r.chan detail).raise 0x040 b

/-- A record that passes every check enters its channel's queue (R334, R337). -/
def State.fireQueue (s : State) (r : FireRec) : State :=
  let x := s.chan r.chan
  let join := decide (r.time.toNat < x.endT.toNat + 20)
  let e := r.time + BitVec.ofNat 64 r.width
  let t := s.setChan r.chan { x with
    queue := x.queue ++ [{ time := r.time, width := r.width, joined := join }]
    last := r.time
    endT := if join && e.toNat < x.endT.toNat then x.endT else e }
  if join then t.bump Reg.TIO_JOIN else t

/-- The arrival cycle of a record (R334, R339). -/
def State.fireArrive (s : State) (r : FireRec) : State :=
  let d := (r.time - s.tb.now).toInt
  if s.tio.quiet then (s.fireRej r 0xC7 r.seq).bump Reg.TIO_FLUSHED
  else if s.fireBad r d ≠ 0 then s.fireFail r 0xC3 (s.fireBad r d) Reg.TIO_BAD 3
  else if d < 100 then s.fireFail r 0xC0 r.seq Reg.TIO_LATE 0
  else if r.time.toNat < (s.chan r.chan).last.toNat then s.fireFail r 0xC1 r.seq Reg.TIO_ORDER 1
  else if 64 ≤ (s.chan r.chan).queue.length then s.fireFail r 0xC2 r.seq Reg.TIO_FULL 2
  else s.fireQueue r

/-- FIRE_RECORD: the oldest record that crosses into TCLK arrives (R333). -/
def State.fireRecord (s : State) : State :=
  match s.tio.inbox with
  | [] => s
  | r :: rest => (s.modTio (fun t => { t with inbox := rest })).fireArrive r

/-- A write of TIO_INJ_W3 submits W0 to W3 (R333). -/
def State.tioInj (s : State) (v : Word) : State :=
  let t := s.setReg Reg.TIO_INJ_W3 v
  t.fireArrive { w0 := t.reg Reg.TIO_INJ_W0, w1 := t.reg Reg.TIO_INJ_W1, w2 := t.reg Reg.TIO_INJ_W2, w3 := v, whole := true }

/-- ACTIVE_EDGE of channel c: its head record leaves the queue in the cycle of its TIME (R336, R337). -/
def State.activeEdge (s : State) (c : Nat) : State :=
  let x := s.chan c
  match x.queue with
  | [] => s
  | r :: rest =>
    if r.time.toNat ≤ s.tb.now.toNat then
      let e := r.time + BitVec.ofNat 64 r.width
      (s.setChan c { x with queue := rest, active := true, pulseEnd := if r.joined && e.toNat < x.pulseEnd.toNat then x.pulseEnd else e }).bump
        Reg.TIO_FIRED
    else s

/-- Where the running chain of a channel ends: the records at the head of the queue that joined it lengthen it (R337). -/
def TioChan.chainEnd (x : TioChan) : Nat :=
  (x.queue.takeWhile (·.joined)).foldl (fun m r => Nat.max m (r.time + BitVec.ofNat 64 r.width).toNat) x.pulseEnd.toNat

/-- INACTIVE_EDGE of channel c at the end of its chain (R336, R337). -/
def State.inactiveEdge (s : State) (c : Nat) : State :=
  let x := s.chan c
  if x.active && x.chainEnd ≤ s.tb.now.toNat then s.setChan c { x with active := false } else s

/-- A write of TIO_OCFGc (R338). -/
def State.ocfgWrite (s : State) (req c : Nat) (v : Word) : State :=
  if (s.chan c).isHeld then s.err 0x041 0x50 0 (Reg.TIO_OCFG c % 0x1000) req else s.setReg (Reg.TIO_OCFG c) (v &&& 3)

/-- TIO_OCFGc as read (R345). -/
def State.ocfgRead (s : State) (c : Nat) : Word :=
  let x := s.chan c
  putBit (putFld (s.reg (Reg.TIO_OCFG c)) 16 7 x.queue.length) 31 x.active

/-- A write of TIO_CTL, or of EN of page 0x040 (R339). -/
def State.tioCtl (s : State) (v : Word) : State := (s.setReg Reg.TIO_CTL (v &&& 1)).tioSettle

/-- Registers of pages lo to hi take their reset values. -/
def State.resetPages (s : State) (lo hi : Nat) : State := { s with regs := s.regs.filter (fun e => e.1 / 0x1000 < lo || hi < e.1 / 0x1000) }

/-- The state beside the registers after a reset (R345): quiet, with the accepted levels of the inputs and the records still crossing. -/
def Tio.quieted (t : Tio) : Tio := { Tio.reset with encLvl := t.encLvl, inLvl := t.inLvl, encZ := t.encZ, inbox := t.inbox }

/-- A warm reset of the TIO (R345): all four pages return to their reset values and the TIO is quiet. -/
def State.tioReset (s : State) : State :=
  (s.resetPages 0x040 0x043).modTio Tio.quieted

/-- In the tick start cycle POS of each encoder is copied into TPOS (R344). -/
def State.tioTick (s : State) : State :=
  (List.range 8).foldl (fun t e => t.setReg (Reg.TIO_ENC_TPOS e) (t.reg (Reg.TIO_ENC_POS e))) s

end Sys2Proof.Machine
end

