-- ==== Sys2Proof/Machine/Timebase.lean ====
section
/-! DEFINITION. Device time, tick sources, TIME_SYNC and the slew (R31 to R51). The tick boundary stands in Belfry. -/

namespace Sys2Proof.Machine

/-- Applies f to the timebase. -/
def State.modTb (s : State) (f : Timebase → Timebase) : State := { s with tb := f s.tb }

/-- A schedule runs (SEQ_STATE.RUN). -/
def State.seqRun (s : State) : Bool := s.bit Reg.SEQ_STATE 3

/-- A new TCLK cycle: after a dispatch in the cycle before it, the walk reaches its next entry in this one (R64). -/
def State.newCycle (s : State) : State :=
  if s.bel.sent then { s with bel := { s.bel with sent := false, reach := s.tb.now.toNat } } else s

/-- One slew step (R48): device time advances by 2 or 0, the correction moves 1 ns towards 0, and ADJ_DONE is raised when it reaches 0. -/
def State.slewStep (s : State) : State :=
  let adj := sgn (s.reg Reg.TIME_ADJ)
  let step : BitVec 64 := if 0 < adj then 2 else 0
  let adj' : Int := if 0 < adj then adj - 1 else adj + 1
  let t := (s.setReg Reg.TIME_ADJ (BitVec.ofInt 32 adj')).modTb (fun b => { b with now := b.now + step, slewPhase := 0 })
  let t := t.newCycle
  if adj' = 0 then t.raise 0x010 9 else t

/-- The next TCLK cycle is a slew step: a correction is pending and 999 cycles of its phase have passed (R48). -/
def State.slewDue (s : State) : Bool := s.reg Reg.TIME_ADJ != 0 && 999 ≤ s.tb.slewPhase

/-- One TCLK cycle (R31, R48): device time advances by 1, or makes the slew step that is due. Nothing counts before the time PLL locks. -/
def State.tclk (s : State) : State :=
  if !s.tb.running then s
  else if s.slewDue then s.slewStep
  else (s.modTb (fun b => { b with now := b.now + 1, slewPhase := Nat.min 1000 (b.slewPhase + 1) })).newCycle

/-- Device time in the next TCLK cycle, as the correction pending now makes it (R32, R48). -/
def State.nextNow (s : State) : Nat :=
  if s.slewDue then s.tb.now.toNat + (if 0 < sgn (s.reg Reg.TIME_ADJ) then 2 else 0) else s.tb.now.toNat + 1

/-- SLEW_STEP (R48). -/
def State.slewEvent (s : State) : State := if s.tb.running && s.slewDue then s.slewStep else s

/-- Loads a correction (R48): it replaces any pending one and the phase restarts. -/
def State.loadAdj (s : State) (v : Word) : State := (s.setReg Reg.TIME_ADJ v).modTb (fun b => { b with slewPhase := 0 })

/-- A write of TIME_ADJ (R48, R49). -/
def State.timeAdj (s : State) (req : Nat) (v : Word) : State :=
  if s.bit Reg.TIME_LINK 6 then s.err 0x010 0x03 0 0xA8 req else s.loadAdj v

/-- A commit of TIME_SET by a write of its high word (R41, R49, R51). -/
def State.timeSet (s : State) (req : Nat) (hi : Word) : State :=
  if s.bit Reg.TIME_LINK 6 then s.err 0x010 0x03 0 0xB0 req
  else if s.seqRun || s.qany then
    s.err 0x010 0x02 0 ((if s.seqRun then 1 else 0) + (if s.qany then 2 else 0)) req
  else s.modTb (fun b => { b with now := hi ++ b.setLo })

/-- A commit of TICK_SET by a write of its high word (R41, R51). -/
def State.tickSet (s : State) (req : Nat) (hi : Word) : State :=
  if s.seqRun then s.err 0x010 0x02 1 1 req
  else s.modTb (fun b => { b with tickCnt := hi.extractLsb' 0 16 ++ b.tickSetLo })

/-- A write of TIME_SRC or, with encN, TIME_ENC_N (R41). -/
def State.timeSrcWrite (s : State) (req : Nat) (encN : Bool) (v : Word) : State :=
  if s.seqRun then s.err 0x010 0x01 0 (if encN then 0x68 else 0x64) req
  else if encN then s.setReg Reg.TIME_ENC_N (if v &&& 0xFFFFFF = 0 then 1 else v &&& 0xFFFFFF)
  else s.setReg Reg.TIME_SRC (v &&& 0xFFFF)

/-- A write of EN of the timebase's BLK_CTL (R36). -/
def State.timebaseEn (s : State) (en : Bool) : State :=
  let old := s.bit (hdr 0x010 8) 0
  let t := s.setBit (hdr 0x010 8) 0 en
  if en && !old then t.modTb (fun b => { b with enAt := some b.now }) else t

/-- A source event at time tm (R38): discarded when no schedule runs (R72); merged into a pending one, which keeps its
time and count (log entry 83) and takes over a late message's mark (R40); else pending. -/
def State.sourceEvent (s : State) (e : SourceEvent) : State :=
  if !s.seqRun then s
  else match s.tb.pend with
  | none => s.modTb (fun b => { b with pend := some e })
  | some p =>
    ((s.modTb (fun b => { b with pend := some { p with merged := p.merged + 1, late := p.late || e.late } })).bump Reg.TIME_MERGE_CNT).raise 0x010 1

/-- TIME_SRC.SRC. -/
def State.tickSrc (s : State) : Nat := s.fld Reg.TIME_SRC 0 2

/-- Time of the next grid point of the internal source (R39, R40, R70). -/
def State.gridTime (s : State) : Nat := s.bel.startTime + s.tb.gridK * (s.reg Reg.TIME_PERIOD).toNat

/-- INTERNAL_GRID_POINT (R39). -/
def State.gridPoint (s : State) : State :=
  if s.seqRun && s.tickSrc = 0 && s.gridTime ≤ s.tb.now.toNat then
    (s.modTb (fun b => { b with gridK := b.gridK + 1 })).sourceEvent
      { time := BitVec.ofNat 64 s.gridTime, merged := 0, link := none, late := false }
  else s

/-- A count of encoder e at resolved time tm (R40): the accumulator of the encoder source moves, and each N forward counts make a source
event. -/
def State.encoderTick (s : State) (e : Nat) (forward : Bool) (tm : BitVec 64) : State :=
  if s.tickSrc = 1 && s.fld Reg.TIME_SRC 2 3 = e then
    let a := s.tb.encAcc + (if forward then 1 else -1)
    let n : Int := ((s.reg Reg.TIME_ENC_N).toNat : Int)
    if n ≤ a then
      (s.modTb (fun b => { b with encAcc := a - n })).sourceEvent { time := tm, merged := 0, link := none, late := false }
    else s.modTb (fun b => { b with encAcc := a })
  else s

/-- An edge of timed input i at time tm (R39). -/
def State.triggerTick (s : State) (i : Nat) (rising : Bool) (tm : BitVec 64) : State :=
  let edge := s.fld Reg.TIME_SRC 10 2
  if s.tickSrc = 2 && s.fld Reg.TIME_SRC 5 5 = i && ((edge = 0 && rising) || (edge = 1 && !rising) || edge = 2) then
    s.sourceEvent { time := tm, merged := 0, link := none, late := false }
  else s

/-- TICK_STALL (R42): GAP ns have passed since the later of the last tick start and the schedule's start, once per gap. -/
def State.tickStall (s : State) : State :=
  let gap := (s.reg Reg.TIME_MAX_GAP).toNat
  let from' := if s.bel.first then s.bel.startTime else s.tb.tickStart.toNat
  if gap ≠ 0 && s.seqRun && !s.tb.stalled && from' + gap ≤ s.tb.now.toNat then
    (s.modTb (fun b => { b with stalled := true })).raise 0x010 4
  else s

/-- TIME_SYNC_CAPTURE (R47). -/
def State.timeSync (s : State) : State :=
  let q := s.reg Reg.TIME_SYNC_SEQ
  let q' := putFld (if s.tb.syncUnread then putBit q 16 true else q) 0 16 (bitsOf q 0 16 + 1)
  (((s.setReg64 Reg.TIME_SYNC_LO s.tb.now).setReg Reg.TIME_SYNC_SEQ q').modTb (fun b => { b with syncUnread := true })).raise 0x010 5

/-- Time-follow lock is lost (R49). -/
def State.loseLock (s : State) : State :=
  if s.bit Reg.TIME_LINK 7 then (s.setBit Reg.TIME_LINK 7 false).raise 0x010 7 else s

end Sys2Proof.Machine
end

