-- ==== Sys2Proof/Machine/Axsin.lean ====
section
/-! DEFINITION. The Axsin links (R362 to R383): flits, retry, credits, training, windows, remote DMA, ticks and time between chips. -/

namespace Sys2Proof.Machine

/-- Page and mesh node of link a (R295, R383). -/
def axlPage (a : Nat) : Nat := 0x0A0 + a
def axlNode (a : Nat) : Nat := 44 + a

/-- Link a beside its registers. -/
def State.lnk (s : State) (a : Nat) : Link := Tab.get (fun _ => Link.reset) s.links a

/-- Applies f to link a. -/
def State.modLnk (s : State) (a : Nat) (f : Link → Link) : State :=
  { s with links := Tab.set (fun _ => Link.reset) s.links a (f (s.lnk a)) }

/-- STATE of link a (AXL_STAT): 7 is ACTIVE. -/
def State.axlState (s : State) (a : Nat) : Nat := s.fld (Reg.AXL_STAT a) 12 4
def State.axlActive (s : State) (a : Nat) : Bool := s.axlState a == 7

/-! ### Flits (R362, R363) -/

/-- Field [lo + len - 1:lo] of a flit. -/
def ffld (f : BitVec 256) (lo len : Nat) : Nat := f.toNat / 2 ^ lo % 2 ^ len

/-- CRC-16 of bits [255:16], most significant bit first (R362). -/
def crc16 (f : BitVec 256) : Nat :=
  (List.range 240).foldl (fun c i =>
    let c2 := c * 2 % 65536
    if (c / 32768 % 2 == 1) != f.getLsbD (255 - i) then c2 ^^^ 0x1021 else c2) 0xFFFF

/-- A flit of type ft with sequence number seq; payload in its place (bits [239:16]). -/
def mkFlit (ft seq payload : Nat) : BitVec 256 :=
  let b := BitVec.ofNat 256 (ft % 16 * 2 ^ 252 + seq % 256 * 2 ^ 244 + payload % 2 ^ 240)
  BitVec.ofNat 256 (b.toNat + crc16 b)

/-- One bit of the scrambler of a lane, polynomial x^23 + x^18 + 1 (R362): its output bit and its next state (log entry 92). -/
def scramble (x : BitVec 23) : Bool × BitVec 23 :=
  let b := x.getLsbD 22 != x.getLsbD 17
  (b, (x <<< 1) ||| (if b then 1 else 0))

/-- The scrambled bits of a lane, from scrambler state x. -/
def scrambled : BitVec 23 → List Bool → List Bool
  | _, [] => []
  | x, b :: l => (b != (scramble x).1) :: scrambled (scramble x).2 l

/-- Lane j of a group of w lanes carries these bits of a flit, the least significant first (R362). -/
def laneBits (w j : Nat) (f : BitVec 256) : List Bool := (List.range (256 / w)).map (fun i => f.getLsbD (256 * j / w + i))

/-- What lane j of a group of w lanes drives for the flits fs, the first after training and those that follow it, IDLE flits among them (R362). -/
def laneWire (w j : Nat) (fs : List (BitVec 256)) : List Bool := scrambled 0x7FFFFF (fs.flatMap (laneBits w j))

/-- A flit passes its CRC and has a defined type (R363). -/
def flitOk (f : BitVec 256) : Bool := crc16 f == ffld f 0 16 && ffld f 252 4 < 5

/-! ### Transmission (R363 to R366) -/

/-- Transmits a flit. -/
def State.emit (s : State) (a : Nat) (f : Flit) : State := s.modLnk a (fun l => { l with sent := l.sent ++ [f] })

/-- Sends the flits of one message: each takes the next SEQ and is held in the replay buffer (R365). -/
def State.sendMsg (s : State) (a : Nat) (fs : List Flit) : State :=
  fs.foldl (fun t f =>
    let l := t.lnk a
    let g : Flit := { f with bits := mkFlit (ffld f.bits 252 4) l.seqTx (ffld f.bits 16 224 * 2 ^ 16) }
    (t.modLnk a (fun l => { l with
      seqTx := (l.seqTx + 1) % 256, replay := l.replay ++ [(l.seqTx, g)], sent := l.sent ++ [g]
      lctlAt := if l.replay.isEmpty then t.tb.now.toNat else l.lctlAt })).count (Reg.AXL_TX_FLITS a)) s

/-- The next message that may be sent: SYNC before RESP before WRITE, against credits and replay room (R365, R366). -/
def Link.pick (l : Link) : Option (List Flit × Link) :=
  let fits := fun (m : List Flit) (c : Nat) => m.length ≤ c && l.replay.length + m.length ≤ 64
  let w := match l.txWrite with
    | m :: r => if fits m l.credW then some (m, { l with txWrite := r, credW := l.credW - m.length }) else none
    | [] => none
  let r := match l.txResp with
    | m :: r => if fits m l.credR then some (m, { l with txResp := r, credR := l.credR - m.length }) else w
    | [] => w
  match l.txSync with
  | m :: q => if fits m l.credS then some (m, { l with txSync := q, credS := l.credS - m.length }) else r
  | [] => r

/-- Sends what may be sent, at most k messages. -/
def State.pump (s : State) (a : Nat) : Nat → State
  | 0 => s
  | k + 1 =>
    if s.axlActive a then
      match (s.lnk a).pick with
      | some (m, l) => ((s.modLnk a (fun _ => l)).sendMsg a m).pump a k
      | none => s
    else s

/-- Sends every message that may be sent. -/
def State.pumpAll (s : State) (a : Nat) : State :=
  let l := s.lnk a
  s.pump a (l.txSync.length + l.txResp.length + l.txWrite.length)

/-- Sends an LCTL with the credits freed since the last one (R364, R366). -/
def State.sendLctl (s : State) (a : Nat) (nak : Bool) : State :=
  if s.axlActive a then
    let l := s.lnk a
    let p := (l.seqRx + 255) % 256 * 2 ^ 232 + (if nak then 2 ^ 231 else 0) + l.freeW % 256 * 2 ^ 223 + l.freeR % 256 * 2 ^ 215 + l.freeS % 256 * 2 ^ 207
    (s.modLnk a (fun l => { l with freeW := 0, freeR := 0, freeS := 0 })).emit a { bits := mkFlit 3 0 p, pois := 0 }
  else s

/-- Places of the receive buffers are freed; their credits go out in an LCTL. -/
def State.freed (s : State) (a w r y : Nat) : State :=
  (s.modLnk a (fun l => { l with freeW := l.freeW + w, freeR := l.freeR + r, freeS := l.freeS + y })).sendLctl a false

/-! ### Remote DMA ends (R379) -/

/-- Remote DMA channel c of link a beside its registers. -/
def State.rd (s : State) (a c : Nat) : Rdma := Tab.get (fun _ => Rdma.reset) (s.lnk a).rdma c

/-- Sets it. -/
def State.setRd (s : State) (a c : Nat) (r : Rdma) : State :=
  s.modLnk a (fun l => { l with rdma := Tab.set (fun _ => Rdma.reset) l.rdma c r })

/-- BUSY of remote DMA channel c. -/
def State.rdBusy (s : State) (a c : Nat) : Bool := s.bit (Reg.AXL_RD_STAT a c) 31

/-- A capture of CODE 0xD4. -/
def State.rdErr (s : State) (a c detail : Nat) (req : Nat := 41) : State := s.err (axlPage a) 0xD4 c detail req

/-- The transfer ends with RESULT r (R379). -/
def State.rdEnd (s : State) (a c r : Nat) : State :=
  let t := (s.setReg (Reg.AXL_RD_STAT a c) (w32 (r <<< 24))).setRd a c { Rdma.reset with run := (s.rd a c).run }
  if r = 0 then
    let e := t.reg (Reg.AXL_RD_EVT a c)
    let u := if bitOf e 14 then t.sendInc (axlNode a) (bitsOf e 9 5) (bitsOf e 0 9) 1 else t
    u.raise (axlPage a) (8 + c)
  else t.raise (axlPage a) (12 + c)

/-- Ends the transfer when its books allow: early once every RWR sent has its WACK, or complete once DONE reaches CNT. -/
def State.rdSettle (s : State) (a c : Nat) : State :=
  let r := s.rd a c
  if !s.rdBusy a c then s
  else match r.ending with
  | some k => if r.pieces.any (·.sent) then s else s.rdEnd a c k
  | none => if s.reg (Reg.AXL_RD_DONE a c) = s.reg (Reg.AXL_RD_CNT a c) then s.rdEnd a c 0 else s

/-- Bytes that are neither in flight nor done any more are again not yet requested, so that LEFT, the bytes in flight and DONE make up CNT (R378). -/
def State.rdBack (s : State) (a c n : Nat) : State := s.setReg (Reg.AXL_RD_LEFT a c) (s.reg (Reg.AXL_RD_LEFT a c) + w32 n)

/-- An early end with RESULT k: no new RWR, and the pieces not sent are given up; the first end stands. -/
def State.rdEarly (s : State) (a c k : Nat) : State :=
  let r := s.rd a c
  let lost := (r.pieces.filter (fun p => !p.sent)).foldl (fun n p => n + p.len) 0
  ((s.rdBack a c lost).setRd a c { r with ending := some (r.ending.getD k), pieces := r.pieces.filter (·.sent) }).rdSettle a c

/-! ### Training and DOWN (R370 to R373) -/

/-- The link leaves ACTIVE or DOWN for training state k. -/
def State.trainAt (s : State) (a k : Nat) : State :=
  s.setReg (Reg.AXL_STAT a) (putFld (putFld (putFld (s.reg (Reg.AXL_STAT a)) 12 4 k) 8 4 0) 7 1 0)

/-- The link goes DOWN (R372); EN = 0 takes it there without a capture (R383). -/
def State.linkDown (s : State) (a good : Nat) (capture : Bool) : State :=
  let t := s.setReg (Reg.AXL_STAT a) (w32 ((good % 256) <<< 20))
  let t := (if capture then t.err (axlPage a) 0xD0 0 good else t).raise (axlPage a) 1
  let t := (List.range 64).foldl (fun t w => t.setBit (Reg.AXL_WIN_CTL a w) 31 false) t
  let t := t.modLnk a (fun l => { Link.reset with
    seqTx := l.seqTx, seqRx := l.seqRx, sent := l.sent, rdma := l.rdma, key := l.key, acks := l.acks, probeAt := l.probeAt })
  let t := (List.range 4).foldl (fun t c => if t.rdBusy a c then (t.rdErr a c 0x12).rdEnd a c 8 else t) t
  if t.fld Reg.TIME_LINK 6 1 = 1 && t.fld Reg.TIME_LINK 4 2 = a then t.loseLock else t

/-- What a training flit of link a carries on a lane: the lane number, the state and this end's good-lane bitmap (R370). The rules give no places for
them in the flit (log entry 92). -/
structure TrainFlit where
  lane : Nat
  state : Nat
  good : Byte
  deriving DecidableEq, Repr

/-- The training flits that link a sends on its lanes now, none outside training (R370). -/
def State.trainFlits (s : State) (a : Nat) : List TrainFlit :=
  if 1 ≤ s.axlState a && s.axlState a < 7 then (List.range 8).map (fun i => { lane := i, state := s.axlState a, good := (s.lnk a).good }) else []

/-- What the receiver makes of the bits of lane i: a lane found inverted in LOCK is inverted back (R370). -/
def Link.laneIn (l : Link) (i : Nat) (bits : List Bool) : List Bool := bits.map (fun b => b != l.inverted.getLsbD i)

/-- A training starts in state k with every lane taken for good and of straight polarity (R370). -/
def State.trainFrom (s : State) (a k : Nat) : State := (s.trainAt a k).modLnk a (fun l => { l with good := 0xFF, inverted := 0 })

/-- A retraining from ACTIVE keeps buffers and windows (R373). -/
def State.retrain (s : State) (a : Nat) : State := (s.trainFrom a 2).modLnk a (fun l => { l with nak := false })

/-- RETRAIN written, or EN set to 1 (R370, R373). -/
def State.startTrain (s : State) (a : Nat) : State :=
  if !s.bit (hdr (axlPage a) 8) 0 then s
  else if s.axlState a = 0 then s.trainFrom a 1
  else if s.axlActive a then s.retrain a
  else s

/-- A write of AXL_CTL (R370, R380). -/
def State.axlCtl (s : State) (a : Nat) (v : Word) : State :=
  let t := s.setReg (Reg.AXL_CTL a) (v &&& 0x98)
  if bitOf v 31 then t.startTrain a else t

/-- A write of EN of link a (R370, R383). -/
def State.axlEn (s : State) (a : Nat) (en : Bool) : State :=
  let old := s.bit (hdr (axlPage a) 8) 0
  let t := s.setBit (hdr (axlPage a) 8) 0 en
  if en then (if old then t else t.startTrain a)
  else if t.axlState a = 0 then t else t.linkDown a (t.fld (Reg.AXL_STAT a) 20 8) false

/-- The groups of R371, in order: mask, width, first lane 4. -/
def groups : List (Nat × Nat × Bool) :=
  [(0xFF, 8, false), (0x0F, 4, false), (0xF0, 4, true), (0x03, 2, false), (0x30, 2, true), (0x01, 1, false), (0x10, 1, true)]

/-- The group that both ends choose (R371). -/
def chooseGroup (good wmax : Nat) : Option (Nat × Nat × Bool) :=
  groups.find? (fun g => g.1 &&& good == g.1 && g.2.1 ≤ 8 / 2 ^ wmax)

/-- A replay of every held flit begins (R365): eight in a row at one SEQ make the link retrain. -/
def State.replayAll (s : State) (a : Nat) : State :=
  match (s.lnk a).replay with
  | [] => s
  | (q, _) :: _ =>
    let l := s.lnk a
    let run := if l.repRun ≠ 0 && l.repSeq = q then l.repRun + 1 else 1
    let t := ((s.bump (Reg.AXL_REPLAY a)).corrected).modLnk a (fun l => { l with
      sent := l.sent ++ l.replay.map (·.2), repSeq := q, repRun := run, lctlAt := s.tb.now.toNat })
    if run = 8 then
      (((t.err (axlPage a) 0xD2 0 q).raise (axlPage a) 4).modLnk a (fun l => { l with repRun := 0 })).retrain a
    else t

/-- Drops the held flits up to and including SEQ q, when q is held (R365). -/
def dropTo (held : List (Nat × Flit)) (q : Nat) : List (Nat × Flit) :=
  if held.any (fun e => e.1 == q) then (held.dropWhile (fun e => e.1 != q)).drop 1 else held

/-- TRAINING_COMPLETE (R370, R371, R373) after CONFIG, with the good-lane bitmap of the far end: the group of the lanes that both ends find good, the
roles, the credits, and a replay from the SEQ that the far end expects. -/
def State.trained (s : State) (a : Nat) (far : Byte) (p : LinkPeer) : State :=
  let good := ((s.lnk a).good &&& far).toNat
  if s.axlState a ≠ 6 then s
  else match chooseGroup good (Nat.max (s.fld (Reg.AXL_CTL a) 3 2) p.wmax.val) with
  | none => s.linkDown a good true
  | some (_, w, four) =>
    let t := (s.setReg (Reg.AXL_STAT a) (w32 ((good % 256) <<< 20 + 7 * 2 ^ 12 + w * 2 ^ 8 + (if four then 128 else 0)))).setReg (Reg.AXL_PEER a)
      (w32 ((if p.follow then 512 else 0) + (if p.tick then 256 else 0) + p.link.val))
    let t := if w < 8 then (t.err (axlPage a) 0xD1 w good).raise (axlPage a) 2 else t
    let q := p.seq.toNat
    let t := t.modLnk a (fun l =>
      let held := if l.replay.any (fun e => e.1 == q) then l.replay.dropWhile (fun e => e.1 != q) else []
      { l with replay := held, seqTx := if held.isEmpty then q else l.seqTx, credW := p.write.val, credR := p.resp.val, credS := p.sync.val
               freeW := 0, freeR := 0, freeS := 0, lctlAt := s.tb.now.toNat })
    (((t.bump (Reg.AXL_RETRAIN_CNT a)).raise (axlPage a) 0).replayAll a).pumpAll a

/-- A link in training reaches the next state k (R370): EQ 2, LOCK 3, DESKEW 4, WIDTH 5, CONFIG 6. The lanes that EQ or LOCK finds bad leave the
bitmap, and LOCK finds the lanes with inverted polarity. -/
def State.trainStep (s : State) (a k : Nat) (good inverted : Byte) : State :=
  if 2 ≤ k && k < 7 && s.axlState a + 1 = k then
    (s.setFld (Reg.AXL_STAT a) 12 4 k).modLnk a (fun l =>
      { l with good := if k = 3 || k = 4 then l.good &&& good else l.good, inverted := if k = 4 then inverted else l.inverted })
  else s

/-- LINK_DOWN: a training fails or times out (R372). -/
def State.trainFail (s : State) (a good : Nat) : State := if s.axlState a = 0 || s.axlActive a then s else s.linkDown a good true

/-! ### Reception (R364, R366 to R368) -/

/-- DATA flits of an RWR of len bytes (R368). -/
def dataFlits (len : Nat) : Nat := (len + 27) / 28

/-- A message is dropped (R368). -/
def State.badMsg (s : State) (a mt : Nat) : State := (s.bump (Reg.AXL_BAD_MSG a)).err (axlPage a) 0xD6 0 mt

/-- All DATA flits of a remote write have come. -/
def RwrMsg.whole (m : RwrMsg) : Bool := m.len ≤ m.data.length

/-- Places that the flits received of a remote write hold. -/
def RwrMsg.places (m : RwrMsg) : Nat := 1 + dataFlits m.data.length

/-- The remote write that still lacks DATA flits, if any. -/
def Link.open' (l : Link) : Option RwrMsg := l.rxWrite.getLast?.filter (fun m => !m.whole)

/-- Flits of an unfinished message give their places back. -/
def State.dropPart (s : State) (a : Nat) : State :=
  match (s.lnk a).open' with
  | none => s.modLnk a (fun l => { l with skip := 0 })
  | some m => s.modLnk a (fun l => { l with skip := 0, rxWrite := l.rxWrite.dropLast, freeW := l.freeW + m.places })

/-- An accepted HDR flit (R368). -/
def State.takeHdr (s : State) (a : Nat) (f : BitVec 256) : State :=
  let mt := ffld f 236 4
  let s := s.dropPart a
  if mt = 1 then
    let bad := ffld f 16 152 ≠ 0
    let m : RwrMsg := { win := ffld f 230 6, off := ffld f 194 36, len := ffld f 186 8 + 1, arr := ffld f 185 1 == 1, actr := ffld f 176 9
                        tag := ffld f 168 8, data := [], pois := [], target := none }
    if bad then (s.modLnk a (fun l => { l with skip := dataFlits m.len, freeW := l.freeW + 1 })).badMsg a mt
    else s.modLnk a (fun l => { l with rxWrite := l.rxWrite ++ [m] })
  else if mt = 2 then
    if ffld f 16 208 ≠ 0 || 1 < ffld f 224 4 then (s.badMsg a mt).modLnk a (fun l => { l with freeR := l.freeR + 1 })
    else s.modLnk a (fun l => { l with rxResp := l.rxResp ++ [(ffld f 228 8, ffld f 224 4)] })
  else if mt = 3 then
    if ffld f 16 108 ≠ 0 then (s.badMsg a mt).modLnk a (fun l => { l with freeS := l.freeS + 1 })
    else s.modLnk a (fun l => { l with rxSync := l.rxSync ++ [(BitVec.ofNat 48 (ffld f 188 48), BitVec.ofNat 64 (ffld f 124 64))] })
  else (s.badMsg a mt).modLnk a (fun l => { l with freeW := l.freeW + 1 })

/-- An accepted DATA flit: it joins the remote write that lacks flits, or is discarded with the rest of one that is dropped or rejected. -/
def State.takeData (s : State) (a : Nat) (f : BitVec 256) (pois : BitVec 28) : State :=
  match (s.lnk a).open' with
  | none => s.modLnk a (fun l => { l with skip := l.skip - 1, freeW := l.freeW + 1 })
  | some m =>
    let base := m.data.length
    let n := Nat.min 28 (m.len - base)
    let m' := { m with data := m.data ++ leBytes (ffld f 16 224) n
                       pois := m.pois ++ ((List.range n).filter (fun i => pois.getLsbD i)).map (base + ·) }
    s.modLnk a (fun l => { l with rxWrite := l.rxWrite.dropLast ++ [m'] })

/-- A sequenced flit is discarded: the first since the last accepted one makes a NAK (R364). -/
def State.nakFlit (s : State) (a : Nat) : State :=
  if (s.lnk a).nak then s else (s.sendLctl a true).modLnk a (fun l => { l with nak := true })

/-- SEQUENCED_FLIT (R363, R364): a flit that arrives at an ACTIVE link. -/
def State.seqFlit (s : State) (a : Nat) (f : BitVec 256) (pois : BitVec 28) : State :=
  let ft := ffld f 252 4
  if !s.axlActive a then s
  else if !flitOk f then
    let t := s.bump (Reg.AXL_CRC_ERR a)
    if ft = 1 || ft = 2 then t.nakFlit a else t
  else if ft ≠ 1 && ft ≠ 2 then s
  else if ffld f 244 8 ≠ (s.lnk a).seqRx then s.nakFlit a
  else
    let t := (s.modLnk a (fun l => { l with seqRx := (l.seqRx + 1) % 256, nak := false })).count (Reg.AXL_RX_FLITS a)
    let u := if ft = 1 then t.takeHdr a f else t.takeData a f pois
    u.sendLctl a false

/-- LCTL (R365, R366): frees replay places, adds credits, and a NAK starts a replay. -/
def State.lctl (s : State) (a : Nat) (f : BitVec 256) : State :=
  if !s.axlActive a then s
  else if !flitOk f then s.bump (Reg.AXL_CRC_ERR a)
  else if ffld f 252 4 ≠ 3 then s
  else
    let t := s.modLnk a (fun l => { l with
      replay := dropTo l.replay (ffld f 232 8), lctlAt := s.tb.now.toNat
      credW := l.credW + ffld f 223 8, credR := l.credR + ffld f 215 8, credS := l.credS + ffld f 207 8 })
    (if ffld f 231 1 = 1 then t.replayAll a else t).pumpAll a

/-- REPLAY_TIMEOUT (R365). -/
def State.replayTimeout (s : State) (a : Nat) : State :=
  if s.axlActive a && (s.lnk a).lctlAt + 1000 ≤ s.tb.now.toNat then s.replayAll a else s

/-! ### Windows and remote writes (R374 to R376) -/

/-- BASE and SIZE of window w in bytes. -/
def State.winBase (s : State) (a w : Nat) : Nat := s.reg64 (Reg.AXL_WIN_BASE_LO a w)
def State.winSize (s : State) (a w : Nat) : Nat := s.fld (Reg.AXL_WIN_SIZE a w) 0 24 * 4096

/-- The open check of R374. -/
def State.winOk (s : State) (a w : Nat) (arr : Bool) : Bool :=
  0 < s.winSize a w && (match s.rangeHome (s.winBase a w) (s.winSize a w) with
    | some .dram => !arr
    | some _ => true
    | none => false)

/-- A write of AXL_WINw_CTL (R374): while the window is open it can only be closed, and a W or A that differs is captured. -/
def State.winCtl (s : State) (req a w : Nat) (v : Word) : State :=
  let r := Reg.AXL_WIN_CTL a w
  if s.bit r 31 then
    let t := if v &&& 6 = s.reg r &&& 6 then s else s.err (axlPage a) 0x50 0 (r % 0x1000) req
    t.setBit r 31 (bitOf v 31)
  else
    let t := s.setReg r (v &&& 6)
    if !bitOf v 31 then t
    else if t.winOk a w (bitOf v 2) then t.setBit r 31 true
    else (t.err (axlPage a) 0xD7 w 0 req).raise (axlPage a) 5

/-- A write of BASE or SIZE of window w (register r) (R374). -/
def State.winField (s : State) (req a w r : Nat) (v : Word) : State :=
  if s.bit (Reg.AXL_WIN_CTL a w) 31 then s.err (axlPage a) 0x50 0 (r % 0x1000) req else s.setReg r v

/-- The reason an RWR is rejected, 0 when it passes (R375). -/
def State.rwrReason (s : State) (a : Nat) (m : RwrMsg) : Nat :=
  let c := s.reg (Reg.AXL_WIN_CTL a m.win)
  if !bitOf c 31 then 1
  else if !bitOf c 1 then 2
  else if s.winSize a m.win < m.off + m.len then 3
  else if m.arr && !bitOf c 2 then 4
  else 0

/-- Queues a WACK. -/
def State.sendWack (s : State) (a tag status : Nat) : State :=
  (s.modLnk a (fun l => { l with txResp := l.txResp ++
    [[{ bits := mkFlit 1 0 (2 * 2 ^ 236 + tag % 256 * 2 ^ 228 + status % 16 * 2 ^ 224), pois := 0 }]] })).pumpAll a

/-- The mesh writes of remote write m to address dst, where it has passed its check (R367, R375, R376). -/
def State.rwrCut (s : State) (a : Nat) (m : RwrMsg) (dst : Nat) : State :=
  let parts := cutBlocks dst m.len
  let key := (s.lnk a).key
  let t := s.modLnk a (fun l => { l with key := key + 1, acks := l.acks ++ [(key, m.tag, parts.length)] })
  parts.foldl (fun t q =>
    let cells := (cellsAt dst m.data).filter (fun c => q.1 ≤ c.1 && c.1 < q.1 + q.2)
    let bad := (cellWords cells).filter (fun w => m.pois.any (fun i => (dst + i) / 8 == w))
    let arr : Option Ctr := if m.arr && q.1 + q.2 = dst + m.len then some ⟨m.actr % 512, Nat.mod_lt _ (by decide)⟩ else none
    t.post (axlNode a) (t.nodeOf q.1) (.pw cells bad arr false (.rwr ⟨a % 4, Nat.mod_lt _ (by decide)⟩ key))) t

/-- Remote write m at the head, whose rest is rest, is rejected for reason r (R363, R375): the places it holds go back before its WACK goes out, and
the DATA flits still to come are discarded. -/
def State.rwrReject (s : State) (a : Nat) (m : RwrMsg) (rest : List RwrMsg) (r : Nat) : State :=
  let t := s.modLnk a (fun l => { l with rxWrite := rest, skip := if m.whole then l.skip else dataFlits m.len - dataFlits m.data.length })
  ((((t.bump (Reg.AXL_WIN_REJ a)).err (axlPage a) 0xD3 m.win r).raise (axlPage a) 3).freed a m.places 0 0).sendWack a m.tag 1

/-- RWR: the remote write at the head of the WRITE buffer is checked once its HDR is there, and cut into mesh writes when all of its DATA flits
have come (R375). -/
def State.rwr (s : State) (a : Nat) : State :=
  match (s.lnk a).rxWrite with
  | [] => s
  | m :: rest =>
    let r := if m.target.isSome then 0 else s.rwrReason a m
    let dst := m.target.getD (s.winBase a m.win + m.off)
    if r ≠ 0 then s.rwrReject a m rest r
    else if m.whole then ((s.modLnk a (fun l => { l with rxWrite := rest })).rwrCut a m dst).freed a m.places 0 0
    else s.modLnk a (fun l => { l with rxWrite := { m with target := some dst } :: rest })

/-- A mesh write of remote write key is acknowledged; after the last one the WACK goes out (R375). -/
def State.rwrAck (s : State) (a key : Nat) : State :=
  match (s.lnk a).acks.find? (fun e => e.1 == key) with
  | none => s
  | some (k, tag, n) =>
    if 1 < n then s.modLnk a (fun l => { l with acks := l.acks.map (fun e => if e.1 == k then (k, tag, n - 1) else e) })
    else (s.modLnk a (fun l => { l with acks := l.acks.filter (fun e => e.1 != k) })).sendWack a tag 0

/-! ### Remote DMA (R377 to R379) -/

/-- Registers of a transfer. -/
def State.rdCnt (s : State) (a c : Nat) : Nat := (s.reg (Reg.AXL_RD_CNT a c)).toNat
def State.rdSrc (s : State) (a c : Nat) : Nat := s.reg64 (Reg.AXL_RD_SRC_LO a c)
def State.rdWoff (s : State) (a c : Nat) : Nat := s.reg64 (Reg.AXL_RD_WOFF_LO a c)

/-- A refused START (R377). -/
def State.rdRefuse (s : State) (req a c r : Nat) : State :=
  ((s.setFld (Reg.AXL_RD_STAT a c) 24 4 r).rdErr a c r req).raise (axlPage a) (12 + c)

/-- A START of channel c with value v written (R377). -/
def State.rdStart (s : State) (req a c : Nat) (v : Word) : State :=
  let cnt := s.rdCnt a c
  if bitsOf v 0 14 ≠ 0 then s.rdRefuse req a c 4
  else if cnt ≠ 0 && (s.rangeHome (s.rdSrc a c) cnt).isNone then s.rdRefuse req a c 2
  else if !s.axlActive a then s.rdRefuse req a c 9
  else
    let t := (((s.setReg (Reg.AXL_RD_STAT a c) 0x80000000).setReg (Reg.AXL_RD_LEFT a c) (w32 cnt)).setReg (Reg.AXL_RD_DONE a c) 0).setRd a c
      { Rdma.reset with run := (s.rd a c).run + 1 }
    t.rdSettle a c

/-- A write of AXL_RDc_CTL (R377, R379, R383). -/
def State.rdCtl (s : State) (req a c : Nat) (v : Word) : State :=
  if s.rdBusy a c then
    if !bitOf v 31 && !bitOf v 30 then s.err (axlPage a) 0x50 0 (Reg.AXL_RD_CTL a c % 0x1000) req
    else
      let t := if bitOf v 31 then s.rdRefuse req a c 7 else s
      if bitOf v 30 then t.rdEarly a c 6 else t
  else
    let t := s.setReg (Reg.AXL_RD_CTL a c) (v &&& 0x3FFFC000)
    if bitOf v 31 then t.rdStart req a c v else t

/-- A write of another register r of channel c (R383). -/
def State.rdField (s : State) (req a c r : Nat) (v : Word) : State :=
  if s.rdBusy a c then s.err (axlPage a) 0x50 0 (r % 0x1000) req else s.setReg r v

/-- The flits of the RWR of a piece (R368, R378). -/
def State.rwrFlits (s : State) (a c : Nat) (p : Piece) : List Flit :=
  let ctl := s.reg (Reg.AXL_RD_CTL a c)
  let last := p.start + p.len = s.rdCnt a c
  let hdr : Flit := { bits := mkFlit 1 0 (2 ^ 236 + bitsOf ctl 24 6 * 2 ^ 230 + (s.rdWoff a c + p.start) % 2 ^ 36 * 2 ^ 194 + (p.len - 1) * 2 ^ 186
      + (if last && bitOf ctl 23 then 2 ^ 185 else 0) + bitsOf ctl 14 9 * 2 ^ 176 + (c * 64 + p.num % 64) * 2 ^ 168), pois := 0 }
  let byte := fun i => Tab.get (fun _ => (0 : Byte)) p.got i
  hdr :: (List.range (dataFlits p.len)).map (fun k =>
    { bits := mkFlit 2 0 (leNum ((List.range (Nat.min 28 (p.len - 28 * k))).map (fun i => byte (28 * k + i))) * 2 ^ 16)
      pois := BitVec.ofNat 28 ((List.range 28).foldl (fun n i => if p.bad.contains (28 * k + i) then n + 2 ^ i else n) 0) })

/-- All bytes of a piece have been read. -/
def Piece.whole (p : Piece) : Bool := p.cnt == p.len || p.off

/-- The next piece of channel c: its offset in the transfer and its bytes (R378). -/
def State.rdNext (s : State) (a c : Nat) : Nat × Nat :=
  let o := (s.rd a c).next
  (o, Nat.min (s.rdCnt a c - o) (256 - (s.rdWoff a c + o) % 256))

/-- Channel c can request its next piece now (R300, R378). -/
def State.rdCan (s : State) (a c : Nat) : Bool :=
  let r := s.rd a c
  let (o, len) := s.rdNext a c
  let parts := cutBlocks (s.rdSrc a c + o) len
  s.rdBusy a c && s.axlActive a && r.ending.isNone && r.pieces.all (·.sent) && len != 0 && r.pieces.length < 64 &&
    parts.all (fun q => s.credUsed (axlNode a) (s.nodeOf q.1) + (parts.filter (fun x => s.nodeOf x.1 == s.nodeOf q.1)).length ≤ 2)

/-- It is the turn of channel c: no channel from the one whose turn is next up to it can request a piece (R378). -/
def State.rdTurn (s : State) (a c : Nat) : Bool :=
  (List.range ((c + 4 - (s.lnk a).turn % 4) % 4)).all (fun k => !s.rdCan a (((s.lnk a).turn + k) % 4))

/-- RDMA_PIECE of channel c (R378, R379): sends the oldest piece whose data has come, else requests the next one in its turn. -/
def State.rdPiece (s : State) (a c : Nat) : State :=
  let r := s.rd a c
  if !s.rdBusy a c || !s.axlActive a || r.ending.isSome then s
  else match r.pieces.find? (fun p => !p.sent) with
  | some p =>
    if p.whole then
      if p.off then (s.rdErr a c 0x11).rdEarly a c 5
      else
        ((s.setRd a c { r with pieces := r.pieces.map (fun q => if q == p then { q with sent := true } else q) }).modLnk a
          (fun l => { l with txWrite := l.txWrite ++ [s.rwrFlits a c p] })).pumpAll a
    else s
  | none =>
    let (o, len) := s.rdNext a c
    let src := s.rdSrc a c + o
    let parts := cutBlocks src len
    if !s.rdCan a c || !s.rdTurn a c then s
    else
      let t := (s.modLnk a (fun l => { l with turn := (c + 1) % 4 })).setRd a c { r with
        next := o + len, num := r.num + 1
        pieces := r.pieces ++ [{ num := r.num % 64, start := o, len := len, got := [], cnt := 0, bad := [], off := false, sent := false }] }
      let t := t.setReg (Reg.AXL_RD_LEFT a c) (w32 (s.rdCnt a c - (o + len)))
      parts.foldl (fun t q => t.postRead (axlNode a) (t.nodeOf q.1) (.rd q.1 q.2 (.rdma ⟨a % 4, Nat.mod_lt _ (by decide)⟩ ⟨c % 4, Nat.mod_lt _ (by decide)⟩
        (r.run <<< 40 + o + (q.1 - src)) q.2))) t

/-- Data of a piece has returned: key is the run and the offset within the transfer (R378). -/
def State.rdData (s : State) (a c key : Nat) (addr : Nat) (data : List Byte) (pois : List Nat) (off : Bool) : State :=
  let r := s.rd a c
  let o := key % 2 ^ 40
  if key / 2 ^ 40 ≠ r.run then s
  else s.setRd a c { r with pieces := r.pieces.map (fun p =>
    if p.start ≤ o && o < p.start + p.len && !p.sent then
      { p with
        got := (cellsAt (o - p.start) data).foldl (fun t e => Tab.set (fun _ => (0 : Byte)) t e.1 e.2) p.got
        cnt := p.cnt + data.length
        bad := p.bad ++ ((List.range data.length).filter (fun i => pois.contains ((addr + i) / 8))).map (o - p.start + ·)
        off := p.off || off }
    else p) }

/-- WACK at the head of the RESP buffer (R378, R379). -/
def State.wack (s : State) (a : Nat) : State :=
  match (s.lnk a).rxResp with
  | [] => s
  | (tag, status) :: rest =>
    let t := s.modLnk a (fun l => { l with rxResp := rest })
    let c := tag / 64
    let r := t.rd a c
    let u := match r.pieces.find? (fun p => p.sent && p.num % 64 == tag % 64) with
      | none => t
      | some p =>
        let t := t.setRd a c { r with pieces := r.pieces.erase p }
        if status = 0 then (t.count (Reg.AXL_RD_DONE a c) p.len).rdSettle a c
        else ((if r.ending = some 7 then t else t.rdErr a c 0x10).rdBack a c p.len).rdEarly a c 7
    u.freed a 0 1 0

/-! ### Ticks and time (R380 to R382) -/

/-- TICK messages at a tick start (R380). -/
def State.linkTicks (s : State) : State :=
  (List.range 4).foldl (fun t a =>
    if t.bit (Reg.AXL_CTL a) 7 && t.axlActive a then
      (t.modLnk a (fun l => { l with txSync := l.txSync ++
        [[{ bits := mkFlit 1 0 (3 * 2 ^ 236 + t.tb.tickCnt.toNat * 2 ^ 188 + t.tb.tickStart.toNat * 2 ^ 124), pois := 0 }]] })).pumpAll a
    else t) s

/-- TICK_MESSAGE: the TICK at the head of the SYNC buffer is the slave's source event when TIME_SRC names the link (R39, R40, R380). -/
def State.tickMessage (s : State) (a : Nat) : State :=
  match (s.lnk a).rxSync with
  | [] => s
  | (cnt, start) :: rest =>
    let t := s.modLnk a (fun l => { l with rxSync := rest })
    let tm := start + BitVec.ofNat 64 (s.fld Reg.TIME_LINK_DELAY 0 16)
    let u := if t.tickSrc = 3 && t.fld Reg.TIME_SRC 12 4 = a then
        t.sourceEvent { time := tm, merged := 0, link := some cnt, late := decide (tm.toNat + 8 < s.tb.now.toNat) }
      else t
    u.freed a 0 0 1

/-- The chip follows time on link a (R49, R381). -/
def State.follows (s : State) (a : Nat) : Bool := s.bit Reg.TIME_LINK 6 && s.fld Reg.TIME_LINK 4 2 == a

/-- TIME_PROBE (R381): every PINT microseconds. -/
def State.timeProbe (s : State) (a : Nat) : State :=
  let now := s.tb.now.toNat
  if s.follows a && s.axlActive a && (s.lnk a).probeAt ≤ now then
    (s.modLnk a (fun l => { l with probeAt := now + 1000 * Nat.max 1 (s.fld (Reg.AXL_TPRB a) 0 16) })).emit a { bits := mkFlit 4 0 (now * 2 ^ 168), pois := 0 }
  else s

/-- PROBE_ANSWER (R381): a probe arrives and is answered. -/
def State.probeAnswer (s : State) (a : Nat) (f : BitVec 256) : State :=
  let now := s.tb.now.toNat
  if !s.axlActive a then s
  else if !flitOk f then s.bump (Reg.AXL_CRC_ERR a)
  else if ffld f 252 4 = 4 && ffld f 236 4 = 0 then
    s.emit a { bits := mkFlit 4 0 (2 ^ 236 + (if s.follows a then 2 ^ 235 else 0) + ffld f 168 64 * 2 ^ 168 + now * 2 ^ 104 + now * 2 ^ 40), pois := 0 }
  else s

/-- ANSWER (R381, R382): the prober takes θ and d from an answer. One with FOL = 1 applies no correction; the count of probes within 8 ns goes on. -/
def State.answer (s : State) (a : Nat) (f : BitVec 256) : State :=
  if !s.axlActive a then s
  else if !flitOk f then s.bump (Reg.AXL_CRC_ERR a)
  else if !(ffld f 252 4 = 4 && ffld f 236 4 = 1) || !s.follows a then s
  else
    let tm := fun (lo : Nat) => BitVec.ofNat 64 (ffld f lo 64)
    let up : Int := (tm 104 - tm 168).toInt
    let dn : Int := (s.tb.now - tm 40).toInt
    let th : Int := (dn - up).tdiv 2
    let d : Nat := ((up + dn) / 2).toNat
    let t := (s.setReg (Reg.AXL_TOFS a) (BitVec.ofInt 32 th)).setReg (Reg.AXL_TDLY a) (w32 (Nat.min 0xFFFF d))
    let t := if ffld f 235 1 = 1 then (t.err (axlPage a) 0xD5 0 0).raise (axlPage a) 6 else t.loadAdj (BitVec.ofInt 32 (-th))
    if th.natAbs ≤ 8 then
      let k := Nat.min 16 ((t.lnk a).probes + 1)
      let u := t.modLnk a (fun l => { l with probes := k })
      if k = 16 then u.setBit Reg.TIME_LINK 7 true else u
    else (t.modLnk a (fun l => { l with probes := 0 })).loseLock

/-- Link a at the end of MAP (R393, R398): its training or its traffic goes on, and its remote DMA channels are as at reset. -/
def State.axlMap (s : State) (a : Nat) : State :=
  s.modLnk a (fun l => { l with rdma := l.rdma.map (fun e => (e.1, { Rdma.reset with run := e.2.run })) })

/-- A warm reset of link a (R383): an ACTIVE link stays ACTIVE with its windows and AXL_TPRB; every other register returns to its reset value. -/
def State.axlWarm (s : State) (a : Nat) : State :=
  let p := axlPage a
  let keep := fun (x : Nat) => x / 0x1000 != p || (s.axlActive a && (x == hdr p 8 || x == Reg.AXL_STAT a || x == Reg.AXL_TPRB a || 0x400 ≤ x % 0x1000))
  let t := { s with regs := s.regs.filter (fun e => keep e.1) }
  t.modLnk a (fun l => if s.axlActive a then { l with rdma := l.rdma.map (fun e => (e.1, { Rdma.reset with run := e.2.run })) } else
    { Link.reset with seqTx := l.seqTx, seqRx := l.seqRx, sent := l.sent, rdma := l.rdma.map (fun e => (e.1, { Rdma.reset with run := e.2.run })), key := l.key })

end Sys2Proof.Machine
end

