-- ==== Sys2Proof/Machine/Bundle.lean ====
section
/-! DEFINITION. Operation words and the bundle rules (R105 to R109, R115 to R134, R140, R144 to R164, R201, R284). -/

namespace Sys2Proof

open Sys2Proof.Machine

/-- Fields of an operation word (R105). -/
def CpWord.stop (w : CpWord) : Bool := bitOf w.word 31
def CpWord.pred (w : CpWord) : Nat := bitsOf w.word 27 3
def CpWord.pneg (w : CpWord) : Bool := bitOf w.word 26
def CpWord.slot (w : CpWord) : Nat := bitsOf w.word 23 3
def CpWord.opc (w : CpWord) : Nat := bitsOf w.word 16 7
def CpWord.opnd (w : CpWord) : Nat := bitsOf w.word 0 16

/-- VD and VA of a vector operation (R144). -/
def CpWord.vd (w : CpWord) : Nat := w.opnd / 2 ^ 11 % 2 ^ 5
def CpWord.va (w : CpWord) : Nat := w.opnd / 2 ^ 6 % 2 ^ 5

/-- Words an operation takes (R106). -/
def CpWord.len (w : CpWord) : Nat := if w.ext.isSome then 2 else 1

/-- Words of a list of operations. -/
def bundleLen (l : List CpWord) : Nat := l.foldl (fun n w => n + w.len) 0

/-- A field of OPND. -/
def ofld (o lo len : Nat) : Nat := o / 2 ^ lo % 2 ^ len

/-- The word of operation o with slot code slot and opcode opc (R105). -/
def CpOp.cw (o : CpOp) (slot opc : Nat) : CpWord :=
  { word := w32 ((if o.after.isEmpty then 2 ^ 31 else 0) + (if o.ext.isSome then 2 ^ 30 else 0) + o.pred.val * 2 ^ 27
      + (if o.pneg then 2 ^ 26 else 0) + slot % 8 * 2 ^ 23 + opc % 128 * 2 ^ 16 + o.opnd.toNat)
    ext := o.ext }

/-- The bundle of operation o (R105). -/
def CpOp.bundle (o : CpOp) (slot opc : Nat) : List CpWord := o.before ++ o.cw slot opc :: o.after

/-- REG codes 5 and 6 are reserved (R110). -/
def regOk (r : Nat) : Bool := r != 5 && r != 6

/-- The extension word is absent, or present with the base field z equal to 0. -/
def extZ (x : Option Word) (z : Nat) : Bool := x.isNone || z == 0

/-- S-slot operand rules (R115, R117, R118, R120, R123, R124, R127). -/
def sOk (opc o : Nat) (x : Option Word) : Bool :=
  let r1 := regOk (ofld o 13 3)
  let r2 := regOk (ofld o 10 3)
  if opc < 0x40 then
    (match opc % 4 with
     | 0 => r1 && r2 && ofld o 0 10 == 0 && x.isNone
     | 1 => r1 && extZ x (ofld o 0 13)
     | _ => r1 && ofld o 12 1 == 0 && extZ x (ofld o 0 12))
  else if opc < 0x48 then r1 && regOk (ofld o 7 3) && ofld o 0 7 == 0 && x.isNone
  else if opc < 0x50 then r1 && extZ x (ofld o 0 10)
  else if opc = 0x50 then ofld o 4 3 == 0 && x.isNone
  else if opc = 0x51 || opc = 0x52 then r1 && ofld o 9 4 ≤ 4 && ofld o 0 9 == 0 && x.isNone
  else if 0x60 ≤ opc && opc ≤ 0x63 then extZ x o
  else if opc = 0x64 || opc = 0x65 then r1 && ofld o 0 13 == 0 && x.isNone
  else if opc = 0x66 || opc = 0x67 || opc = 0x6D || opc = 0x6E then o == 0 && x.isNone
  else if opc = 0x68 then ofld o 1 15 == 0 && x.isNone
  else if opc = 0x69 then x.isNone
  else if opc = 0x6A then
    (match x with
     | some e => bitsOf e 16 16 == 0 && o != 0
     | none => false)
  else if opc = 0x6B then o != 0 && x.isNone
  else if opc = 0x6C then ofld o 0 13 == 0 && x.isNone
  else if 0x70 ≤ opc && opc ≤ 0x74 then r1 && r2 && ofld o 0 10 == 0 && x.isNone
  else false

/-- M-slot operand rules (R119, R127). -/
def mOk (opc o : Nat) (x : Option Word) : Bool :=
  let size := opc / 4 % 4
  match opc / 16 with
  | 0 => size != 3 && regOk (ofld o 13 3) && extZ x (ofld o 0 12)
  | 1 => size != 3 && opc / 2 % 2 == 0 && regOk (ofld o 13 3) && extZ x (ofld o 0 12)
  | 2 => opc % 16 == 0 && regOk (ofld o 13 3) && extZ x (ofld o 0 12)
  | 3 => size != 3 && ofld o 0 15 == 0 && (ofld o 15 1 == 0 || opc % 4 == 2) && x.isNone
  | _ => false

/-- Registers of a structure operation's group (R150, R153). -/
def vGroup (opc : Nat) : Nat :=
  if opc = 0x64 || opc = 0x68 then 2 else if opc = 0x65 || opc = 0x69 then 3 else if opc = 0x66 || opc = 0x6A then 4 else 1

/-- Vector operand rules (R140, R144 to R150). -/
def vOk (v1 : Bool) (opc o : Nat) (x : Option Word) : Bool :=
  let vd := ofld o 11 5
  let va := ofld o 6 5
  let three := extZ x (ofld o 0 6)
  if v1 && 0x41 ≤ opc then false
  else if opc ≤ 0x14 || (0x18 ≤ opc && opc ≤ 0x1C) || (0x24 ≤ opc && opc ≤ 0x26) || (0x30 ≤ opc && opc ≤ 0x35) then three
  else if 0x20 ≤ opc && opc ≤ 0x23 then three && vd % 2 == 0
  else if opc = 0x28 then x.isNone && va % 2 == 0
  else if opc = 0x36 || opc = 0x37 then x.isNone && ofld o 0 6 == 0
  else if opc = 0x40 then va == 0 && three
  else if opc = 0x41 || opc = 0x42 then regOk (ofld o 8 3) && ofld o 0 8 == 0 && x.isNone
  else if opc = 0x48 then regOk (ofld o 13 3) && regOk (ofld o 10 3) && ofld o 8 2 != 3 && ofld o 0 8 == 0 && extZ x (ofld o 10 3)
  else if opc = 0x49 || opc = 0x4A then regOk (ofld o 13 3) && ofld o 10 3 ≤ 3 && ofld o 0 10 == 0 && x.isNone
  else if 0x50 ≤ opc && opc ≤ 0x57 then ofld o 0 6 == 0 && x.isNone
  else if opc = 0x60 || opc = 0x61 || (0x64 ≤ opc && opc ≤ 0x66) || (0x68 ≤ opc && opc ≤ 0x6A) then
    ofld o 0 10 == 0 && vd + vGroup opc ≤ 32
  else if opc = 0x6C || opc = 0x6D then ofld o 0 5 == 0
  else false

/-- X-slot operand rules (R160, R161, R163). -/
def xOk (opc o : Nat) (x : Option Word) : Bool :=
  if opc ≤ 2 then ofld o 0 4 == 0 && ofld o 4 2 != 3 && x.isNone
  else if opc = 3 then ofld o 4 12 == 0 && x.isNone
  else if opc = 8 then regOk (ofld o 13 3) && ofld o 0 5 == 0 && x.isNone
  else if opc = 9 || opc = 0xA then regOk (ofld o 13 3) && ofld o 0 11 == 0 && x.isNone
  else if opc = 0xB then
    regOk (ofld o 13 3) && ofld o 0 11 == 0 &&
      (match x with
       | some e => bitsOf e 8 24 == 0
       | none => true)
  else if opc = 0x10 then regOk (ofld o 13 3) && ofld o 0 8 == 0 && ofld o 8 5 ≤ 0x12 && x.isNone
  else if opc = 0x11 then regOk (ofld o 13 3) && ofld o 0 8 == 0 && ofld o 8 5 ≤ 0x16 && x.isNone
  else if opc = 0x18 then
    ofld o 14 2 != 3 && ofld o 0 14 == 0 &&
      (match x with
       | some e => bitsOf e 0 16 != 0
       | none => false)
  else false

/-- AMT of EVSEND and EVSENDI with its extension word (R130). -/
def amtOk (amt : Nat) (x : Option Word) : Bool :=
  match amt, x with
  | 0, none => true
  | 1, none => true
  | 2, some e => bitsOf e 16 16 == 0
  | _, _ => false

/-- E-slot operand rules (R130, R201, R284). -/
def eOk (opc o : Nat) (x : Option Word) : Bool :=
  if opc = 0 then amtOk (ofld o 0 2) x
  else if opc = 1 then ofld o 2 14 == 0 && amtOk (ofld o 0 2) x
  else if opc = 2 then ofld o 0 5 == 0 && ofld o 5 2 != 3 && ((ofld o 5 2 == 0) == x.isSome)
  else if opc = 3 then ofld o 2 14 == 0 && ofld o 0 2 ≤ 1 && ((ofld o 0 2 == 0) == x.isSome)
  else if opc = 4 then o == 0 && x.isNone
  else if opc = 5 || opc = 0x40 then ofld o 13 3 == 0 && extZ x (ofld o 0 12)
  else if 0x20 ≤ opc && opc ≤ 0x22 then ofld o 0 14 == 0 && x.isNone
  else if opc = 0x41 then o == 0 && x.isNone
  else false

/-- An operation keeps the rules on reserved values and, on the Keep's processor, names no absent unit (R107, R384). -/
def CpWord.ok (keep : Bool) (w : CpWord) : Bool :=
  match w.slot with
  | 0 => sOk w.opc w.opnd w.ext
  | 1 => mOk w.opc w.opnd w.ext
  | 2 => !keep && vOk false w.opc w.opnd w.ext
  | 3 => !keep && vOk true w.opc w.opnd w.ext
  | 4 => !keep && xOk w.opc w.opnd w.ext
  | 5 => (!keep || w.opc < 0x20) && eOk w.opc w.opnd w.ext
  | _ => false

/-- A narrow access (R107). -/
def CpWord.narrow (w : CpWord) : Bool :=
  (w.slot == 0 && w.opc < 0x40 && 2 ≤ w.opc % 4) || (w.slot == 1 && w.opc / 16 != 2) || (w.slot == 5 && w.opc == 5)

/-- A narrow store. -/
def CpWord.isNstore (w : CpWord) : Bool := w.slot == 1 && w.opc / 16 == 1

/-- Kinds of operations that further rules name. -/
def CpWord.isBranch (w : CpWord) : Bool := w.slot == 0 && 0x60 ≤ w.opc && w.opc ≤ 0x65
def CpWord.isDelayed (w : CpWord) : Bool := w.slot == 0 && (w.opc == 0x61 || w.opc == 0x63 || w.opc == 0x65)
def CpWord.isRet (w : CpWord) : Bool := w.slot == 0 && (w.opc == 0x66 || w.opc == 0x67)
def CpWord.isEnd (w : CpWord) : Bool := w.slot == 0 && w.opc == 0x68
def CpWord.isRpt (w : CpWord) : Bool := w.slot == 0 && (w.opc == 0x69 || w.opc == 0x6E)
def CpWord.isLoop (w : CpWord) : Bool := w.slot == 0 && (w.opc == 0x6A || w.opc == 0x6B)
def CpWord.isReps (w : CpWord) : Bool := w.slot == 0 && w.opc == 0x6C
def CpWord.isString (w : CpWord) : Bool := w.slot == 1 && w.opc / 16 == 3
def CpWord.isWait (w : CpWord) : Bool := w.slot == 5 && 2 ≤ w.opc && w.opc ≤ 4
def CpWord.isDome (w : CpWord) : Bool := w.slot == 5 && (w.opc == 0x40 || w.opc == 0x41)
def CpWord.isFire (w : CpWord) : Bool := w.slot == 5 && w.opc == 5
def CpWord.isMrep (w : CpWord) : Bool := w.slot == 4 && w.opc == 0x18
def CpWord.isV (w : CpWord) : Bool := w.slot == 2 || w.slot == 3
def CpWord.isVmem (w : CpWord) : Bool := w.slot == 2 && 0x60 ≤ w.opc
/-- Indexed or structure memory operations (R140). -/
def CpWord.isVgroupMem (w : CpWord) : Bool := w.slot == 2 && 0x64 ≤ w.opc
/-- Long vector operations (R141). -/
def CpWord.vLong (w : CpWord) : Bool := w.slot == 2 && (w.opc == 0x48 || (0x50 ≤ w.opc && w.opc ≤ 0x57) || 0x64 ≤ w.opc)
/-- Long operations, those of R118 counted. -/
def CpWord.long (w : CpWord) : Bool := w.vLong || (w.slot == 0 && 0x70 ≤ w.opc)

/-- Vector registers an operation writes; vl is VL (R140, R145, R148 to R154). -/
def CpWord.vWrites (w : CpWord) : List Nat :=
  let vd := ofld w.opnd 11 5
  if !w.isV then []
  else if 0x20 ≤ w.opc && w.opc ≤ 0x23 then [vd, vd + 1]
  else if w.opc ≤ 0x41 then [vd]
  else if 0x50 ≤ w.opc && w.opc ≤ 0x57 then [vd]
  else if w.opc = 0x60 || w.opc = 0x6C || (0x64 ≤ w.opc && w.opc ≤ 0x66) then (List.range (vGroup w.opc)).map (vd + ·)
  else []

/-- Vector registers an operation reads. -/
def CpWord.vReads (w : CpWord) (vl : Nat) : List Nat :=
  let vd := ofld w.opnd 11 5
  let va := ofld w.opnd 6 5
  let vb := if w.ext.isSome then [] else [ofld w.opnd 1 5]
  if !w.isV then []
  else if w.opc = 0x28 then [va, va + 1]
  else if w.opc = 0x36 || w.opc = 0x37 then [va]
  else if w.opc = 0x40 then vb
  else if w.opc = 0x22 || w.opc = 0x23 then [vd, vd + 1, va] ++ vb
  else if w.opc = 0x1B || w.opc = 0x1C || w.opc = 0x33 || (0x24 ≤ w.opc && w.opc ≤ 0x26) then [vd, va] ++ vb
  else if w.opc < 0x40 then va :: vb
  else if w.opc = 0x42 then [vd]
  else if 0x50 ≤ w.opc && w.opc ≤ 0x57 then [va]
  else if w.opc = 0x61 || (0x68 ≤ w.opc && w.opc ≤ 0x6A) then (List.range (vGroup w.opc)).map (vd + ·)
  else if w.opc = 0x6C || w.opc = 0x6D then
    (if w.opc = 0x6D then [vd] else []) ++ (List.range ((vl + 63) / 64)).map (ofld w.opnd 5 5 + ·)
  else []

/-- V0 and V1 operations write one register, or one reads a register the other writes (R140). -/
def vClash (a b : CpWord) (vl : Nat) : Bool :=
  a.vWrites.any (fun r => b.vWrites.contains r || (b.vReads vl).contains r) || b.vWrites.any (fun r => (a.vReads vl).contains r)

/-- The element width of SEW code c, in bits (R138). -/
def sewBits (c : Nat) : Nat := if c = 0 then 8 else if c = 1 then 16 else 32

/-- The rules of R140 and R145 on SEW. -/
def CpWord.sewOk (w : CpWord) (sew : Nat) : Bool :=
  if !w.isV then true
  else if (0x30 ≤ w.opc && w.opc ≤ 0x37) || (0x24 ≤ w.opc && w.opc ≤ 0x26) || w.opc = 0x56 || w.opc = 0x57 then sew == 2
  else if (0x20 ≤ w.opc && w.opc ≤ 0x23) || w.opc = 0x28 then sew != 2
  else true

/-- The index group of an indexed operation runs past V31 (R140, R154). -/
def CpWord.idxOk (w : CpWord) (vl : Nat) : Bool :=
  !(w.slot == 2 && (w.opc == 0x6C || w.opc == 0x6D)) || ofld w.opnd 5 5 + (vl + 63) / 64 ≤ 32

/-- The first operation of a list that breaks a rule taking the operations before it, for the rules of R107, R123, R127, R140 and R201. -/
def firstBad (keep : Bool) (vl : Nat) (all : List CpWord) : List CpWord → List CpWord → Option CpWord
  | _, [] => none
  | seen, w :: t =>
    if !w.ok keep
      || seen.any (fun v => w.slot ≤ v.slot)
      || (w.narrow && seen.any CpWord.narrow)
      || (w.isV && seen.any (fun v => v.isV && vClash v w vl))
      || (w.long && seen.any CpWord.long)
      || (all.any CpWord.isVgroupMem && 1 < all.length && w.isVgroupMem)
      || (w.isReps && !(all.length == 2 && all.any CpWord.isString))
      || (w.isString && !all.any CpWord.isReps)
      || (all.any CpWord.isRpt && (w.isString || w.isWait || w.isFire || w.vLong || w.isMrep || w.isDome))
      || (w.slot == 5 && w.opc == 0x40 && all.any CpWord.isVmem)
      || !w.idxOk vl
    then some w
    else firstBad keep vl all (seen ++ [w]) t

/-- The word at place k of a bundle's words. -/
def wordAt : List CpWord → Nat → Word
  | [], _ => 0
  | w :: t, k =>
    if k = 0 then w.word
    else match w.ext with
      | some e => if k = 1 then e else wordAt t (k - 2)
      | none => wordAt t (k - 1)

/-- A delay slot may not hold this operation (R92, R122, R164, R201). -/
def CpWord.badInSlot (w : CpWord) : Bool :=
  w.isBranch || w.isRet || w.isRpt || w.isLoop || w.isReps || w.isEnd || w.isWait || w.isMrep || w.isDome

/-- The last bundle of a LOOP or MREP body may not hold this operation (R126, R164). -/
def CpWord.badAtEnd (w : CpWord) : Bool := w.isBranch || w.isRet || w.isEnd || w.isLoop || w.isRpt || w.isReps

/-- Operation w writes memory (R150). -/
def CpWord.isVstore (w : CpWord) : Bool :=
  w.slot == 2 && (w.opc == 0x61 || w.opc == 0x68 || w.opc == 0x69 || w.opc == 0x6A || w.opc == 0x6D)

/-- Operation w issues only when no store waits in the store buffer (R131, R128, R151, R201). -/
def CpWord.drains (w : CpWord) : Bool := w.isVmem || w.isString || (w.slot == 5 && (w.opc ≤ 1 || w.opc == 0x40))

/-- Vector operations that read and write beat by beat in the cycles after their issue (R142). -/
def CpWord.beats (w : CpWord) : Bool := w.isV && (w.opc < 0x38 || w.opc == 0x40)

/-- Vector operations whose completion sets VSTART to 0 (R138): those that act on elements. -/
def CpWord.onElements (w : CpWord) : Bool := w.isV && !(0x41 ≤ w.opc && w.opc ≤ 0x4A)

end Sys2Proof
end

