-- ==== Sys2Proof/Machine/Float.lean ====
section
/-! DEFINITION. Binary floating point (R147, R192, R195, R198): exact values, one rounding to binary32 to nearest with ties to even, and the
8-bit and 12-bit formats of the dome. -/

namespace Sys2Proof.Machine

/-- An exact value: NaN, an infinity, or (-1)^neg × m × 2^e (m = 0 is a signed zero). -/
inductive FVal
  | nan
  | inf (neg : Bool)
  | fin (neg : Bool) (m : Nat) (e : Int)
  deriving DecidableEq, Repr

/-- Positions of the leading bit of m plus one, 0 for 0. -/
def bitLen (m : Nat) : Nat := if m = 0 then 0 else Nat.log2 m + 1

/-- m × 2^-sh rounded to nearest, ties to even. -/
def rneShift (m sh : Nat) : Nat :=
  let q := m / 2 ^ sh
  let r := m % 2 ^ sh
  if 2 * r < 2 ^ sh then q else if 2 ^ sh < 2 * r then q + 1 else if q % 2 = 0 then q else q + 1

/-- Rounds m × 2^e to a multiple of 2^q, ties to even: the multiple. -/
def roundAt (m : Nat) (e q : Int) : Nat :=
  if q ≤ e then m * 2 ^ (e - q).toNat else rneShift m (q - e).toNat

/-- The value of a binary32 word. -/
def f32 (w : Word) : FVal :=
  let s := w.getLsbD 31
  let x : Nat := w.toNat / 2 ^ 23 % 256
  let f : Nat := w.toNat % 2 ^ 23
  if x = 255 then (if f = 0 then .inf s else .nan)
  else if x = 0 then .fin s f (-149)
  else .fin s (2 ^ 23 + f) ((x : Int) - 150)

/-- The quiet NaN that every operation gives (R147, R195). -/
def qnan : Word := 0x7FC00000

/-- The exceptions of one rounding: overflow, and underflow with none where tininess before and after rounding differ (R147, log entry 3). -/
structure RFlags where
  ovf : Bool
  unf : Option Bool
  deriving DecidableEq, Repr

/-- m × 2^e with sign neg rounded to binary32, with its exceptions. -/
def round32 (neg : Bool) (m : Nat) (e : Int) : Word × RFlags :=
  let sb : Nat := if neg then 2 ^ 31 else 0
  if m = 0 then (BitVec.ofNat 32 sb, ⟨false, some false⟩)
  else
    let top : Int := e + (bitLen m : Int) - 1
    let q : Int := max (top - 23) (-149)
    let n := roundAt m e q
    let exact := decide (q ≤ e) || m % 2 ^ (q - e).toNat == 0
    let tinyBefore := decide (top < -126)
    let tinyAfter := tinyBefore && !(top == -127 && roundAt m e (top - 23) == 2 ^ 24)
    let unf : Option Bool := if exact then some false else if tinyBefore == tinyAfter then some tinyAfter else none
    let (n, q) := if n = 2 ^ 24 then (2 ^ 23, q + 1) else (n, q)
    if n < 2 ^ 23 then (BitVec.ofNat 32 (sb + n), ⟨false, unf⟩)
    else
      let x := q + 150
      if 255 ≤ x then (BitVec.ofNat 32 (sb + 0x7F800000), ⟨true, some false⟩)
      else (BitVec.ofNat 32 (sb + x.toNat * 2 ^ 23 + (n - 2 ^ 23)), ⟨false, unf⟩)

/-- A value rounded to binary32. -/
def toF32 (v : FVal) : Word × RFlags :=
  match v with
  | .nan => (qnan, ⟨false, some false⟩)
  | .inf s => (if s then 0xFF800000 else 0x7F800000, ⟨false, some false⟩)
  | .fin s m e => round32 s m e

/-- A value rounded to binary32, exceptions left out. -/
def rnd (v : FVal) : Word := (toF32 v).1

/-- The negated value. -/
def FVal.neg : FVal → FVal
  | .nan => .nan
  | .inf s => .inf !s
  | .fin s m e => .fin (!s) m e

/-- Signed integer mantissa. -/
def sInt (s : Bool) (m : Nat) : Int := if s then -(m : Int) else (m : Int)

/-- The exact sum; an exact cancellation is +0 and the sum of two negative zeros −0 (R195). -/
def FVal.add (a b : FVal) : FVal :=
  match a, b with
  | .nan, _ => .nan
  | _, .nan => .nan
  | .inf s, .inf t => if s == t then .inf s else .nan
  | .inf s, _ => .inf s
  | _, .inf t => .inf t
  | .fin s m e, .fin t n d =>
    let q := min e d
    let v := sInt s (m * 2 ^ (e - q).toNat) + sInt t (n * 2 ^ (d - q).toNat)
    if v = 0 then .fin (m = 0 && n = 0 && s && t) 0 q else .fin (decide (v < 0)) v.natAbs q

/-- The exact difference. -/
def FVal.sub (a b : FVal) : FVal := a.add b.neg

/-- The exact product. -/
def FVal.mul (a b : FVal) : FVal :=
  match a, b with
  | .nan, _ => .nan
  | _, .nan => .nan
  | .inf s, .inf t => .inf (s != t)
  | .inf s, .fin t n _ => if n = 0 then .nan else .inf (s != t)
  | .fin s m _, .inf t => if m = 0 then .nan else .inf (s != t)
  | .fin s m e, .fin t n d => .fin (s != t) (m * n) (e + d)

/-- The value times 2^k. -/
def FVal.scale (a : FVal) (k : Int) : FVal :=
  match a with
  | .fin s m e => .fin s m (e + k)
  | v => v

/-- The quotient to enough bits that one rounding of it to binary32 is that of the exact quotient (the last bit is sticky). -/
def FVal.div (a b : FVal) : FVal :=
  match a, b with
  | .nan, _ => .nan
  | _, .nan => .nan
  | .inf _, .inf _ => .nan
  | .inf s, .fin t _ _ => .inf (s != t)
  | .fin s _ _, .inf t => .fin (s != t) 0 0
  | .fin s m e, .fin t n d =>
    if n = 0 then (if m = 0 then .nan else .inf (s != t))
    else
      let k : Nat := bitLen n + 30
      let x := m * 2 ^ k
      .fin (s != t) (2 * (x / n) + (if x % n = 0 then 0 else 1)) (e - d - k - 1)

/-- The largest r below 2^b with r × r ≤ n. -/
def isqrt (n : Nat) : Nat → Nat
  | 0 => 0
  | b + 1 =>
    let r := isqrt (n / 4) b * 2
    if (r + 1) * (r + 1) ≤ n then r + 1 else r

/-- The square root, to enough bits for one rounding (the last bit is sticky). -/
def FVal.sqrt (a : FVal) : FVal :=
  match a with
  | .nan => .nan
  | .inf s => if s then .nan else .inf false
  | .fin s m e =>
    if m = 0 then .fin s 0 0
    else if s then .nan
    else
      let k : Nat := 64 + (if e % 2 = 0 then 0 else 1)
      let x := m * 2 ^ k
      let r := isqrt x ((bitLen x + 1) / 2)
      .fin false (2 * r + (if r * r = x then 0 else 1)) ((e - k) / 2 - 1)

/-- a ≤ b on finite values and infinities; +0 and −0 are equal. -/
def FVal.le (a b : FVal) : Bool :=
  match a, b with
  | .nan, _ => false
  | _, .nan => false
  | .inf s, .inf t => s || !t
  | .inf s, _ => s
  | _, .inf t => !t
  | .fin s m e, .fin t n d =>
    let q := min e d
    decide (sInt s (m * 2 ^ (e - q).toNat) ≤ sInt t (n * 2 ^ (d - q).toNat))

/-- The sign of a value. -/
def FVal.sign : FVal → Bool
  | .nan => false
  | .inf s => s
  | .fin s _ _ => s

/-- A value is NaN. -/
def FVal.isNan : FVal → Bool
  | .nan => true
  | _ => false

/-- A value is finite. -/
def FVal.isFin : FVal → Bool
  | .fin .. => true
  | _ => false

/-- A value is 0. -/
def FVal.isZero : FVal → Bool
  | .fin _ m _ => m == 0
  | _ => false

/-- a ranks above b, with +0 above −0 (R147, R200). -/
def FVal.above (a b : FVal) : Bool := if a.le b && b.le a then b.sign && !a.sign else b.le a

/-- binary32 operations with one rounding (R147, R195, R229). -/
def addF (a b : Word) : Word := rnd ((f32 a).add (f32 b))
def subF (a b : Word) : Word := rnd ((f32 a).sub (f32 b))
def mulF (a b : Word) : Word := rnd ((f32 a).mul (f32 b))
def fmaF (a b c : Word) : Word := rnd (((f32 a).mul (f32 b)).add (f32 c))
def divF (a b : Word) : Word := rnd ((f32 a).div (f32 b))
def sqrtF (a : Word) : Word := rnd (f32 a).sqrt
def scaleF (a : Word) (k : Int) : Word := rnd ((f32 a).scale k)

/-! ### The dome's formats (R192) -/

/-- A code of a format with eb exponent bits, fb fraction bits and bias: every code finite. -/
def fpCode (eb fb : Nat) (bias : Int) (c : Nat) : FVal :=
  let s := c / 2 ^ (eb + fb) % 2 == 1
  let x := c / 2 ^ fb % 2 ^ eb
  let f := c % 2 ^ fb
  if x = 0 then .fin s f (1 - bias - fb) else .fin s (2 ^ fb + f) (x - bias - fb)

/-- E4M3, E5M2 and FP12 values (R192). -/
def e4m3 (c : Nat) : FVal := if c % 128 = 0x7F then .nan else fpCode 4 3 7 (c % 256)
def e5m2 (c : Nat) : FVal :=
  if c % 128 = 0x7C then .inf (c / 128 % 2 == 1) else if 0x7C < c % 128 then .nan else fpCode 5 2 15 (c % 256)
def fp12 (c : Nat) : FVal := fpCode 5 6 15 (c % 4096)

/-- An FP8 activation: fmt false E4M3, true E5M2. -/
def fp8 (fmt : Bool) (c : Nat) : FVal := if fmt then e5m2 c else e4m3 c

/-- Largest finite code of an FP8 format. -/
def fp8Max (fmt : Bool) : Nat := if fmt then 0x7B else 0x7E

/-- Conversion of z to an FP8 format, with whether it clips (R198 step 5). -/
def toFp8 (fmt : Bool) (z : FVal) : Nat × Bool :=
  let fb : Nat := if fmt then 2 else 3
  let bias : Int := if fmt then 15 else 7
  let sb := fun (s : Bool) => if s then 128 else 0
  match z with
  | .nan => (0x7F, true)
  | .inf s => (sb s + fp8Max fmt, true)
  | .fin s m e =>
    if m = 0 then (sb s, false)
    else
      let top : Int := e + (bitLen m : Int) - 1
      let q : Int := max (top - fb) (1 - bias - fb)
      let n := roundAt m e q
      let v := FVal.fin false n q
      if v.le (fp8 fmt (fp8Max fmt)) then
        let (n, q) := if n = 2 ^ (fb + 1) then (2 ^ fb, q + 1) else (n, q)
        if n < 2 ^ fb then (sb s + n, false)
        else (sb s + (q + bias + fb).toNat * 2 ^ fb + (n - 2 ^ fb), false)
      else (sb s + fp8Max fmt, true)

/-- A weight: an FP12 entry times the E8M0 scale x (R193). -/
def weightVal (entry x : Nat) : FVal := if x = 255 then .nan else (fp12 entry).scale ((x : Int) - 127)

end Sys2Proof.Machine
end

