-- ==== Sys2Proof/Machine/Flags.lean ====
section
/-! DEFINITION. The results of the S-slot operations with the carry they write (R115), the long operations (R118), compares (R117) and the
scalar registers (R110, R111). -/

namespace Sys2Proof.Machine

/-- Carry of SR (R111). -/
def srC (sr : Word) : Bool := bitOf sr 0

/-- Result of S-slot function func on a and b with carry c (R115). -/
def aluVal (func : Nat) (a b : Word) (c : Bool) : Word :=
  match func with
  | 0 => b
  | 1 => a + b
  | 2 => a + b + (if c then 1 else 0)
  | 3 => a - b
  | 4 => a - b - (if c then 1 else 0)
  | 5 => a &&& b
  | 6 => a ||| b
  | 7 => a ^^^ b
  | 8 => a <<< (b.toNat % 32)
  | 9 => a >>> (b.toNat % 32)
  | 10 => a.sshiftRight (b.toNat % 32)
  | 11 => a * b
  | 12 => BitVec.ofInt 32 (a.toInt * b.toInt / 2 ^ 32)
  | 13 => BitVec.ofNat 32 (a.toNat * b.toNat / 2 ^ 32)
  | 14 => if a.toInt ≤ b.toInt then a else b
  | _ => if a.toInt ≤ b.toInt then b else a

/-- Carry or borrow of S-slot function func; the functions that do not write C keep it (R115). -/
def aluC (func : Nat) (a b : Word) (c : Bool) : Bool :=
  let k := if c then 1 else 0
  match func with
  | 1 => decide (2 ^ 32 ≤ a.toNat + b.toNat)
  | 2 => decide (2 ^ 32 ≤ a.toNat + b.toNat + k)
  | 3 => decide (a.toNat < b.toNat)
  | 4 => decide (a.toNat < b.toNat + k)
  | _ => c

/-- Result of a long operation by opcode (R118). -/
def longVal (opc : Nat) (a b : Word) : Word :=
  match opc with
  | 0x70 => if b = 0 then 0xFFFFFFFF else BitVec.ofInt 32 (a.toInt.tdiv b.toInt)
  | 0x71 => if b = 0 then 0xFFFFFFFF else BitVec.ofNat 32 (a.toNat / b.toNat)
  | 0x72 => if b = 0 then a else BitVec.ofInt 32 (a.toInt.tmod b.toInt)
  | 0x73 => if b = 0 then a else BitVec.ofNat 32 (a.toNat % b.toNat)
  | _ => BitVec.ofNat 32 (isqrt b.toNat 16)

/-- Issue cycles of a long operation (R118). -/
def longCount (opc : Nat) : Nat := if opc = 0x74 then 18 else 34

/-- Condition cond on a and b (R117). -/
def condVal (cond : Nat) (a b : Word) : Bool :=
  match cond with
  | 0 => a == b
  | 1 => a != b
  | 2 => decide (a.toInt < b.toInt)
  | 3 => decide (b.toInt ≤ a.toInt)
  | 4 => decide (a.toNat < b.toNat)
  | 5 => decide (b.toNat ≤ a.toNat)
  | 6 => a &&& b != 0
  | _ => a &&& b == 0

/-- Register r as an operand (R110). -/
def Scal.get (x : Scal) (r : Nat) : Word :=
  match r with
  | 0 => x.acc
  | 1 => x.ix0
  | 2 => x.ix1
  | 3 => x.cnt.setWidth 32
  | 4 => x.lr
  | _ => 0

/-- Writes register r; CNT keeps 16 bits and ZERO discards (R110). -/
def Scal.set (x : Scal) (r : Nat) (v : Word) : Scal :=
  match r with
  | 0 => { x with acc := v }
  | 1 => { x with ix0 := v }
  | 2 => { x with ix1 := v }
  | 3 => { x with cnt := v.setWidth 16 }
  | 4 => { x with lr := v }
  | _ => x

/-- Predicate k; P0 reads 1 (R113). -/
def Scal.p (x : Scal) (k : Nat) : Bool := k == 0 || x.pred.getLsbD k

/-- Writes predicate k; writes of P0 are discarded (R113). -/
def Scal.setP (x : Scal) (k : Nat) (b : Bool) : Scal :=
  if k = 0 then x else { x with pred := if b then x.pred ||| ((1 : BitVec 8) <<< k) else x.pred &&& ~~~((1 : BitVec 8) <<< k) }

/-- A value written to SR: reserved bits read 0 and an ILVL above 32 stores 32 (R111). -/
def srWrite (v : Word) : Word := putFld (v &&& 0xC1) 8 6 (Nat.min 32 (bitsOf v 8 6))

end Sys2Proof.Machine
end

