-- ==== Sys2Proof/Machine/CpCore.lean ====
section
/-! DEFINITION. The control processor around its operations (R78 to R104, R459): the pipeline's views of its registers, returns, faults,
interrupt entry and return, entry points, halts. -/

namespace Sys2Proof.Machine

/-- Control processor n. -/
def State.core (s : State) (n : Nat) : Core := Tab.get (fun _ => Core.reset) s.cores n

/-- Sets control processor n. -/
def State.setCore (s : State) (n : Nat) (c : Core) : State := { s with cores := Tab.set (fun _ => Core.reset) s.cores n c }

/-- Applies f to control processor n. -/
def State.modCore (s : State) (n : Nat) (f : Core → Core) : State := s.setCore n (f (s.core n))

/-- SR.LACT and SR.ILVL (R111). -/
def Core.lact (c : Core) : Bool := bitOf c.sr 6
def Core.ilvl (c : Core) : Nat := bitsOf c.sr 8 6

/-- What a narrow read of the bytes in data delivers to a load (R119). -/
def loadVal (size : Nat) (sgn : Bool) (data : Word) : Word :=
  if size = 0 then (if sgn then (data.setWidth 8).signExtend 32 else (data.setWidth 8).setWidth 32)
  else if size = 1 then (if sgn then (data.setWidth 16).signExtend 32 else (data.setWidth 16).setWidth 32)
  else data

/-- A late fault is recorded behind those found before it. -/
def Core.lateFault (c : Core) (l : LateFault) : Core := { c with late := c.late ++ [l] }

/-- The fault of a return that is taken next: one whose return cycle has come, or else the oldest. -/
def Core.lateNext (c : Core) : Option LateFault := (c.late.find? (fun l => l.slots == 0)).or c.late.head?

/-- A fault of a return is to be taken before another bundle issues (R101). -/
def Core.lateDue (c : Core) : Bool := c.late.any (fun l => l.slots == 0)

/-- The return cycle of a narrow read (R81, R90, R116). -/
def Core.applyLoad (c : Core) (l : PendLoad) : Core :=
  if l.pois then c.lateFault { src := 3, pc := l.pc, addr := l.addr, elem := 0, slots := 5 }
  else match l.op with
  | .alu func dst =>
    let a := c.f.get dst
    { c with f := c.f.set dst (aluVal func a l.data (srC c.sr)), sr := putBit c.sr 0 (aluC func a l.data (srC c.sr))
             lateC := some (c.lateC.getD (srC c.sr)) }
  | .load dst size sgn => { c with f := c.f.set dst (loadVal size sgn l.data) }

/-- Vector register r. -/
def Core.v (c : Core) (r : Nat) : BitVec 2048 := Tab.get (fun _ => 0) c.vregs r

/-- Replaces bits [lo, lo + len) of a vector register's value. -/
def putV (x : BitVec 2048) (lo len v : Nat) : BitVec 2048 :=
  let m := (2 ^ len - 1) <<< lo
  BitVec.ofNat 2048 ((x.toNat - (x.toNat &&& m)) + ((v % 2 ^ len) <<< lo))

/-- Applies a vector register write; one that writes every beat in one cycle (R137) shows in every beat. -/
def Core.applyVW (c : Core) (w : VW) : Core :=
  let x := putV (c.v w.reg) w.lo w.len w.val
  let p := fun (l : List (Nat × BitVec 2048)) => Tab.set (fun _ => 0) l w.reg x
  if w.flat then { c with vregs := p c.vregs, v1 := p c.v1, v2 := p c.v2, v3 := p c.v3 } else { c with vregs := p c.vregs }

/-- Applies a pending vector write or load return (R142, R156). -/
def Core.applyV (c : Core) (p : VPend) : Core :=
  let d := p.writes.foldl (fun d w => d.applyVW w) c
  match p.pois with
  | some (e, addr, pc) => d.lateFault { src := 4, pc := pc, addr := addr, elem := e, slots := 2 }
  | none => d

/-- A write of MTC reaches the stages before WB (R117); C of SR was written in WB. -/
def Core.applyMtc (c : Core) (m : MtcPend) : Core :=
  match m.ctl with
  | 0 => { c with sr := putBit (srWrite m.v) 0 (bitOf c.sr 0) }
  | 2 => { c with lbeg := m.v }
  | 3 => { c with lend := m.v }
  | 4 => { c with ln := m.v.setWidth 16 }
  | _ => c

/-- LR with x in it. -/
def Scal.withLr (r : Scal) (x : Word) : Scal := { r with lr := x }

/-- The write of LR by BRL.D falls in this cycle, behind the returns (R80, R120). -/
def Core.lrReturn (c : Core) : Core :=
  match c.lrDue with
  | none => c
  | some d => if d.due = some 0 then { c with f := c.f.withLr d.val, lrDue := some { d with due := none } } else c

/-- The scalar returns that fall before the write back of the coming issue slot (R80, R81, R120). -/
def Core.sReturns (c : Core) : Core :=
  Core.lrReturn <|
  let d := (c.mtcs.filter (fun m => m.due == 0)).foldl (fun d m => d.applyMtc m) { c with mtcs := c.mtcs.filter (fun m => m.due != 0), lateC := none }
  (d.loads.filter (fun l => l.due == 0)).foldl (fun d l => d.applyLoad l) { d with loads := d.loads.filter (fun l => l.due != 0) }

/-- Vector writes of one cycle in the order in which they apply: load returns, then V0, then V1 (R142). -/
def vOrder (l : List VPend) : List VPend := l.filter (fun p => p.isLoad) ++ l.filter (fun p => !p.isLoad && !p.v1) ++ l.filter (fun p => !p.isLoad && p.v1)

/-- The vector writes and returns of that cycle (R142). -/
def Core.vReturns (c : Core) : Core :=
  let now := vOrder (c.vpend.filter (fun p => p.due == 0))
  now.foldl (fun e p => e.applyV p)
    { c with vpend := c.vpend.filter (fun p => p.due != 0), v1now := (now.filter (fun p => !p.isLoad && p.v1)).flatMap (fun p => p.writes),
             vlog := c.vlog ++ now.flatMap (fun p => p.writes.map (fun w => (0, .ret (!p.isLoad && !w.flat) p.v1 w))) }

/-- The returns of a cycle. -/
def Core.returns (c : Core) : Core := c.sReturns.vReturns

/-- The end of a cycle in the scalar registers: the later stages' views move on. -/
def Core.sEnd (c : Core) : Core :=
  { c with
    h1 := c.f, h2 := c.h1, h3 := c.h2, h4 := c.h3
    loads := c.loads.map (fun l => { l with due := l.due - 1, fresh := false })
    mtcs := c.mtcs.map (fun m => { m with due := m.due - 1 })
    mfcs := (c.mfcs.map (fun m => { m with due := m.due - 1 })).filter (fun m => m.due != 0)
    lrDue := c.lrDue.map (fun d => { d with age := d.age + 1, due := d.due.map (· - 1) }) }

/-- The end of a cycle in the vector unit. -/
def Core.vEnd (c : Core) : Core :=
  { c with
    v1 := c.vregs, v2 := c.v1, v3 := c.v2, v4 := c.v3
    vlog := (c.vlog.map (fun e => (e.1 + 1, e.2))).filter (fun e => e.1 ≤ 3)
    vpend := c.vpend.map (fun p => { p with due := p.due - 1 })
    late := c.late.map (fun l => { l with slots := l.slots - 1 }) }

/-- The end of an issue slot. -/
def Core.slotEnd (c : Core) : Core := c.sEnd.vEnd

/-- k cycles pass in which no bundle issues. -/
def Core.pass (c : Core) : Nat → Core
  | 0 => c
  | k + 1 => (c.returns.slotEnd).pass k

/-- One cycle passes inside an operation. -/
def Core.tick (c : Core) : Core := c.slotEnd.returns

/-- k cycles pass inside an operation. -/
def Core.ticks (c : Core) : Nat → Core
  | 0 => c
  | k + 1 => c.tick.ticks k

/-- k cycles pass behind a taken branch (R91, R92): an interrupt taken at the boundary before its target has killed the bundles behind it, so the returns
of these cycles are not in the SR that its handler starts with (R100). -/
def Core.passLate (c : Core) (k : Nat) : Core := { c.pass k with lateC := some (c.lateC.getD (srC c.sr)) }

/-- Every bundle issued completes, returns included. -/
def Core.sync (c : Core) : Core :=
  let b := c.mtcs.foldl (fun d m => d.applyMtc m) { c with mtcs := [] }
  let d := b.loads.foldl (fun d l => d.applyLoad l) { b with loads := [] }
  let e := d.vpend.foldl (fun e p => e.applyV p) { d with vpend := [] }
  { e with h1 := e.f, h2 := e.f, h3 := e.f, h4 := e.f, v1 := e.vregs, v2 := e.vregs, v3 := e.vregs, v4 := e.vregs, vlog := [],
           late := e.late.map (fun l => { l with slots := 0 }) }

/-- LR without the write of a BRL.D whose second slot has not issued (R120). -/
def Core.lrUndo (c : Core) : Core :=
  match c.lrDue with
  | none => c
  | some d =>
    let g := fun (r : Scal) => if !d.made && r.lr = d.val then r.withLr d.old else r
    { c with lrDue := none, f := g c.f, h1 := g c.h1, h2 := g c.h2, h3 := g c.h3, h4 := g c.h4 }

/-- The bundle in issue and its context are dropped; a BRL.D whose second slot never issues writes no LR (R120). -/
def Core.kill (c : Core) : Core :=
  { c.lrUndo with
           part := [], todo := [], ctl := .none, slots := none, rpt := none, extra := 0, held := 0, lag := 0, mfcs := [], lop := none, wait := [], go := false,
           first := 0, lateC := none, aper := [], groups := [] }

/-- NARROW_READ_RETURN: the oldest narrow read returns now (R81). When cycles without issue must have passed before it, they pass. -/
def Core.narrowReturn (c : Core) : Core :=
  match c.loads with
  | [] => c
  | l :: _ =>
    let d := c.pass l.due
    match d.loads with
    | [] => d
    | m :: rest =>
      let e := ({ d with loads := rest }).applyLoad m
      { e with late := e.late.map (fun x => { x with slots := 0 }) }

/-- VECTOR_LOAD_RETURN: the oldest vector load return is written now (R152 to R154, R156). -/
def Core.vectorReturn (c : Core) : Core :=
  match c.vpend.find? (·.isLoad) with
  | none => c
  | some p =>
    let d := c.pass p.due
    match d.vpend.find? (·.isLoad) with
    | none => d
    | some q =>
      let e := ({ d with vpend := d.vpend.erase q }).applyV q
      { e with late := e.late.map (fun x => { x with slots := 0 }) }

/-- The vector base of core n (CP_VBASE). -/
def State.cpVbase (s : State) (n : Nat) : Word := s.reg (Reg.CP_VBASE n) &&& 0xFFF000

/-- The pushed PC with the IDLE mark of R100. -/
def markPc (pc : Word) (idle : Bool) : Word := putBit pc 0 idle

/-- SR as it stands in E4 (R100): with every write back of the bundles issued, and without the memory-source returns that land in E4 or later. -/
def Core.srE4 (c : Core) : Word :=
  putBit ((c.mtcs.foldl (fun (d : Core) m => d.applyMtc m) { c with mtcs := [] }).sr) 0 (c.lateC.getD (srC c.sr))

/-- Taking an interrupt (R98, R100, R112): the stack saves PC and SR, ILVL becomes the source, LACT is cleared, and issue goes to the vector.
The pushed SR holds every earlier bundle's result. The command is the end of E3: a source that becomes eligible before it takes part in the
selection, and one that does so later waits for a boundary of the handler (R99). -/
def State.cpEnter (s : State) (n src : Nat) (pc : Word) (idle : Bool) : State :=
  let c := s.core n
  let d := c.sync.kill
  s.setCore n { d with
    stack := (markPc pc idle, d.sr) :: d.stack
    sr := putBit (putFld c.srE4 8 6 src) 6 false
    pc := s.cpVbase n + w32 (64 * src)
    st := 1
    bnd := false
    first := 1 }

/-- Taking the NMI (R102). -/
def State.cpNmiEnter (s : State) (n : Nat) (pc : Word) (idle : Bool) : State :=
  let c := s.core n
  let d := c.sync.kill
  ((s.setReg (Reg.CP_NPC n) (markPc pc idle)).setReg (Reg.CP_NSR n) d.sr).setCore n { d with
    nmiAct := true, nmiPend := false, sr := putBit c.srE4 6 false, pc := s.cpVbase n + 0x800, st := 1, bnd := false, first := 1 }

/-- A double fault (R103). -/
def State.cpDouble (s : State) (n src : Nat) (pc : Word) : State :=
  let t := (s.modCore n (fun c => { c.sync.kill with st := 3 })).raise (spirePage n 0) 1
  let u := t.err (spirePage n 0) 0x41 src (pc.toNat % 2 ^ 16)
  if n < 32 then u.faultLine 1 n else u.faultLine 6 0

/-- A synchronous fault (R101, R103): the fault registers are loaded, the source's bit is set, and the fault is entered with saved pc push; in IDLE, where a return can still be found poisoned, with CP_PC and the IDLE mark. -/
def State.cpFault (s : State) (n src : Nat) (pc push : Word) (addr op : Option Word) : State :=
  let t := (s.setReg (Reg.CP_FAULT_PC n) pc).setReg (Reg.CP_FAULT_SRC n) (w32 src)
  let t := match addr with
    | some a => t.setReg (Reg.CP_FAULT_ADDR n) a
    | none => t
  let t := match op with
    | some w => t.setReg (Reg.CP_FAULT_OP n) w
    | none => t
  let t := t.cpIrq n src
  let c := t.core n
  if c.nmiAct || 8 ≤ c.stack.length then t.cpDouble n src pc else t.cpEnter n src (if c.st = 0 then t.reg (Reg.CP_PC n) else push) (c.st == 0)

/-- The capture of a vector fault (R156, R166). -/
def State.vuFault (s : State) (n cause elem : Nat) (pc addr : Word) : State :=
  ((s.setReg (Reg.VU_FAULT n) (w32 (cause * 2 ^ 8 + elem % 256))).setReg (Reg.VU_FAULT_PC n) pc).setReg (Reg.VU_FAULT_ADDR n) addr

/-- A fault found in a return is taken: the pushed PC is the next bundle (R101). -/
def State.cpTakeLate (s : State) (n : Nat) : State :=
  match (s.core n).lateNext with
  | none => s
  | some l =>
    let t := s.modCore n (fun c => { c with late := c.late.erase l })
    let u := if l.src = 4 then t.vuFault n 3 l.elem l.pc l.addr else t
    u.cpFault n l.src l.pc (s.core n).pc (some l.addr) none

/-- The CP halts on request (CP_CTL.HALT_REQ, R104). -/
def State.haltReq (s : State) (n : Nat) : Bool := s.bit (Reg.CP_CTL n) 0

/-- Local address x lies in the body of active repeat level l (R163). -/
def State.inBody (s : State) (n l : Nat) (x : Word) : Bool :=
  s.bit (Reg.MAC_RCTL n) l && (s.reg (Reg.MAC_RBEG n l)).toNat ≤ x.toNat && x.toNat ≤ (s.reg (Reg.MAC_REND n l)).toNat

/-- The boundary before the next bundle is held off (R97, R125, R165). -/
def State.heldOff (s : State) (n : Nat) : Bool :=
  let c := s.core n
  let last := s.reg (Reg.CP_PC n)
  !c.bnd && c.st == 1 &&
    (c.slots.isSome || c.rpt.isSome || (c.lact && last != c.lend)
      || (n < 32 && c.ilvl == 32 && (List.range 3).any (fun l => s.inBody n l c.pc)
          && !(List.range 3).any (fun l => s.bit (Reg.MAC_RCTL n) l && s.reg (Reg.MAC_REND n l) == last)))

/-- The lowest eligible asynchronous source (R97, R100). -/
def State.eligible (s : State) (n : Nat) : Option Nat :=
  let c := (s.core n).returns
  let p := s.reg (Reg.CP_IRQ_RAW n) &&& s.reg (Reg.CP_IRQ_EN n)
  if bitOf c.sr 7 && c.stack.length < 8 then (List.range 32).find? (fun k => 6 ≤ k && bitOf p k && k < c.ilvl) else none

/-- The core stands at an interrupt boundary: IDLE, or RUN between bundles, not held off, no bundle kept in AG (R306, R385), and not before the first bundle
of a program or handler (R94, R99). -/
def State.atBoundary (s : State) (n : Nat) : Bool :=
  let c := s.core n
  (c.st == 0 || (c.st == 1 && c.first == 0 && c.todo.isEmpty)) && c.part.isEmpty && !s.heldOff n

/-- A halt, the NMI or an eligible source is taken at the boundary at which the core stands, before another bundle issues (R97, R102, R104). -/
def State.mustYield (s : State) (n : Nat) : Bool :=
  s.atBoundary n && (s.haltReq n || ((s.core n).nmiPend && !(s.core n).nmiAct) || (s.eligible n).isSome)

/-- An interrupt is taken (R97 to R102, R104): a fault found in a return comes first; a halt request comes before every interrupt. -/
def State.takeInterrupt (s : State) (n : Nat) : State :=
  let c := s.core n
  if !c.late.isEmpty && c.st ≤ 1 && c.part.isEmpty && c.todo.isEmpty then s.cpTakeLate n
  else if !s.atBoundary n || s.haltReq n then s
  else if c.nmiPend && !c.nmiAct then s.cpNmiEnter n (if c.st = 0 then s.reg (Reg.CP_PC n) else c.pc) (c.st == 0)
  else match s.eligible n with
  | some k => s.cpEnter n k (if c.st = 0 then s.reg (Reg.CP_PC n) else c.pc) (c.st == 0)
  | none => s

/-- A write of CP_NMI (R102): the NMI is taken at once at an interrupt boundary, and is held pending otherwise. -/
def State.cpNmi (s : State) (n : Nat) (v : Word) : State :=
  if bitOf v 0 then
    let t := s.modCore n (fun c => { c with nmiPend := true })
    if t.atBoundary n && !t.haltReq n && !(t.core n).nmiAct && (t.core n).late.isEmpty then t.takeInterrupt n else t
  else s

/-- RETI (R100, R121): the top entry goes into PC and SR; the IDLE mark returns the CP to IDLE. -/
def Core.reti (c : Core) : Core :=
  match c.stack with
  | [] => c
  | (pc, sr) :: rest =>
    { c.sync.kill with stack := rest, sr := sr, pc := putFld pc 0 2 0, st := if bitOf pc 0 then 0 else 1, bnd := true }

/-- RETN (R102, R121). -/
def State.retn (s : State) (n : Nat) : State :=
  let npc := s.reg (Reg.CP_NPC n)
  s.modCore n (fun c => { c.sync.kill with
    nmiAct := false, sr := srWrite (s.reg (Reg.CP_NSR n)), pc := putFld npc 0 2 0, st := if bitOf npc 0 then 0 else 1, bnd := true })

/-- Data of an aperture read returns to the Keep (R385). -/
def State.aperData (s : State) (a : Nat) (data : List Byte) (pois : Bool) : State :=
  s.modCore 32 (fun c =>
    match c.aper.findIdx? (fun x => !x.write && !x.done && x.g == a) with
    | some i => { c with aper := c.aper.modify i (fun x => { x with done := true, data := data, pois := pois }) }
    | none => c)

/-- PW number id of the Keep is acknowledged (R302, R385). -/
def State.aperAck (s : State) (id : Nat) : State :=
  s.modCore 32 (fun c => { c with aper := c.aper.map (fun x => if x.write && x.id == id then { x with done := true } else x) })

/-- An entry point arrives at the dispatch queue of core n (R93). -/
def State.cpDispatch (s : State) (n entry arg : Nat) : State :=
  let c := s.core n
  let pg := spirePage n 0
  if c.st = 3 then ((s.bump (Reg.CP_DISP_OVF n)).err pg 0x40 1 (arg % 2 ^ 16)).raise pg 0
  else if 4 ≤ c.queue.length then (((s.bump (Reg.CP_DISP_OVF n)).cpIrq n 6).err pg 0x40 0 (arg % 2 ^ 16)).raise pg 0
  else s.setCore n { c with queue := c.queue ++ [(entry, arg)] }

/-- ENTRY_POINT_TAKE (R94): PC, ACC and ILVL; all other state keeps the values the previous program left. -/
def State.entryTake (s : State) (n : Nat) : State :=
  let c := s.core n
  match c.queue with
  | [] => s
  | (entry, arg) :: rest =>
    if c.st = 0 && s.bit (hdr (spirePage n 0) 8) 0 && !s.haltReq n && (s.eligible n).isNone && c.late.isEmpty && !(c.nmiPend && !c.nmiAct) then
      let d := c.sync.kill
      let e := { d with queue := rest, pc := w32 entry, f := { d.f with acc := w32 arg }, sr := putFld d.sr 8 6 32, st := 1, bnd := false, first := 2 }
      s.setCore n e.sync
    else s

/-- A write of CP_CTL.HALT_REQ, or of EN of CP page 0 (R104). -/
def State.setHalt (s : State) (n : Nat) (h : Bool) : State :=
  let t := s.setBit (Reg.CP_CTL n) 0 h
  let c := t.core n
  if !h && c.st = 2 then t.setCore n { c with st := if c.resumeRun then 1 else 0 } else t

/-- HALTED (R104): at an interrupt boundary with HALT_REQ = 1 the CP completes issued bundles and enters HALTED. -/
def State.halted (s : State) (n : Nat) : State :=
  if s.haltReq n && s.atBoundary n then
    (s.modCore n (fun c => { c.sync with lateC := none, st := 2, resumeRun := c.st == 1 })).raise (spirePage n 0) 2
  else s

/-- A write of CP_TCMP_HI arms the TIMER compare (R459). -/
def State.tcmpArm (s : State) (n : Nat) (v : Word) : State :=
  (s.setReg (Reg.CP_TCMP_HI n) v).modCore n (fun c => { c with tcmpArmed := true })

/-- TIMER (R459). -/
def State.timer (s : State) (n : Nat) : State :=
  if (s.core n).tcmpArmed && s.reg64 (Reg.CP_TCMP_LO n) ≤ s.tb.now.toNat then
    (s.modCore n (fun c => { c with tcmpArmed := false })).cpIrq n 7
  else s

/-- CP_STAT (R104). -/
def State.cpStat (s : State) (n : Nat) : Word :=
  let c := s.core n
  w32 (c.ilvl * 2 ^ 18 + c.stack.length * 2 ^ 14 + c.queue.length * 2 ^ 11 + (if c.nmiAct then 2 ^ 10 else 0) + c.st)

/-- The vector, MAC and window registers of spire n may be written only in IDLE or HALTED (R166, R180). -/
def State.cpQuiet (s : State) (n : Nat) : Bool := (s.core n).st == 0 || (s.core n).st == 2

/-- A write of CP_IC_CTL (R83, R85). -/
def State.icCtl (s : State) (n : Nat) (v : Word) : State :=
  let t := s.setReg (Reg.CP_IC_CTL n) (v &&& 0xF0)
  if bitOf v 0 && t.cpQuiet n then t.modCore n (fun c => { c with icache := [], lineBuf := none }) else t

/-- BLK_RST of CP page 0 or 1 (R103, R104, R111, R137, R166, R459): the CP is IDLE with an empty queue and stack, and the registers of pages
0 to 3 return to their reset values. The instruction cache keeps its lines. -/
def State.cpReset (s : State) (n : Nat) : State :=
  let c := s.core n
  ({ s with regs := s.regs.filter (fun e =>
      let p := e.1 / 0x1000
      p < spirePage n 0 || spirePage n 3 < p || (p ≤ spirePage n 1 && e.1 % 0x1000 == 0x28) || e.1 % 0x1000 == 0x2C) }).setCore n { Core.reset with icache := c.icache, lineBuf := c.lineBuf }

end Sys2Proof.Machine
end

