-- ==== Sys2Proof/Machine/Host.lean ====
section
/-! DEFINITION. The PCIe endpoint and the Oculus window (R346 to R361, R425, R455). -/

namespace Sys2Proof.Machine

/-- Applies f to the endpoint's state. -/
def State.modHost (s : State) (f : HostIf → HostIf) : State := { s with host := f s.host }

/-- KEEP_STATE.STAGE (R390, R412). -/
def State.stage (s : State) : Nat := s.fld Reg.KEEP_STATE 8 8

/-- Only page 0x000 answers in BAR0 and the window is disabled: in RECOVERY (R389), and after a failed bring-up (R408). -/
def State.keepOnly (s : State) : Bool := s.stage == 0x0F || (s.chip == 5 && s.stage != 9)

/-- NSLOT (R348). -/
def State.nslot (s : State) : Nat := 2 ^ (s.fld Reg.OCU_WBASE_LO 0 4)

/-- WBASE (R348, R349). -/
def State.wbase (s : State) : Nat := s.fld Reg.OCU_WBASE_LO 18 14 <<< 18 + s.fld Reg.OCU_WBASE_HI 0 16 <<< 32

/-- DEVICE owns slot k; slots at or above NSLOT read 0 (R351, R361). -/
def State.devOwns (s : State) (k : Nat) : Bool := k < s.nslot && s.bit (Reg.OCU_OWN (k / 32)) (k % 32)

/-- Gives slot k to DEVICE or HOST. -/
def State.setOwner (s : State) (k : Nat) (device : Bool) : State := s.setBit (Reg.OCU_OWN (k / 32)) (k % 32) device

/-- A non-owner access to slot k (R351). -/
def State.nonOwner (s : State) (k : Nat) (read : Bool) : State :=
  let t := (s.bump Reg.OCU_NOWN_CNT).setReg Reg.OCU_NOWN_LAST (w32 ((if read then 2 ^ 31 else 0) + k % 2 ^ 12))
  (t.err 0x060 (if read then 0x32 else 0x31) 0 k 40).raise 0x060 (if read then 1 else 0)

/-- The window is open to the host for slot k (R349, R351, R408). -/
def State.hostMay (s : State) (k : Nat) : Bool := s.bit Reg.OCU_CTL 0 && !s.keepOnly && !s.devOwns k

/-- Presents the reads of node 40 that wait, oldest first, while its credits last (R300). -/
def State.hostReadsGo (s : State) : State :=
  s.host.reads.foldl (fun t r =>
    let nd := t.nodeOf r.1
    if t.credUsed 40 nd < 2 && t.host.reads.head? == some r then
      (t.postRead 40 nd (.rd r.1 r.2.1 r.2.2)).modHost (fun h => { h with reads := h.reads.tail })
    else t) s

/-- Requests of the host to BAR0 and BAR2 reach the device: the link is up (R425), the function is in D0, since in D3hot it answers configuration requests
alone, and Memory Space Enable is set (R346, log entry 86). -/
def State.hostLive (s : State) : Bool := s.host.up && !s.host.d3 && s.host.mse

/-- A host access at BAR2 offset off reaches the device and lies in the window (R348, R425). -/
def State.inBar2 (s : State) (off : Nat) : Bool := s.hostLive && off < s.nslot * 2 ^ 18

/-- HOST_BAR2_WRITE (R351, R352): to DRAM as posted writes when HOST owns the slot, else dropped as a non-owner write. -/
def State.bar2Write (s : State) (off : Nat) (data : List Byte) : State :=
  let k := off / 2 ^ 18
  if !s.inBar2 off then s
  else if s.hostMay k then
    (cutBlocks (s.wbase + off) data.length).foldl (fun t q =>
      let cells := (cellsAt (s.wbase + off) data).filter (fun c => q.1 ≤ c.1 && c.1 < q.1 + q.2)
      (t.post 40 (t.nodeOf q.1) (.pw cells [] none false .plain)).modHost (fun h => { h with bar2Out := h.bar2Out ++ [t.msgId] })) s
  else s.nonOwner k false

/-- The data of a non-owner read: every 32-bit word 0xDEAD_DEAD (R351). -/
def deadBytes (off len : Nat) : List Byte :=
  (List.range len).map (fun i => if (off + i) % 2 = 0 then 0xAD else 0xDE)

/-- HOST_BAR2_READ (R351): from DRAM when HOST owns the slot; a non-owner read completes with 0xDEAD_DEAD. -/
def State.bar2Read (s : State) (off len : Nat) : State :=
  let k := off / 2 ^ 18
  if !s.inBar2 off then s
  else if s.hostMay k then
    (s.modHost (fun h => { h with
      reads := h.reads ++ (cutBlocks (s.wbase + off) len).map (fun q => (q.1, q.2, Tag.host h.downs (q.1 - s.wbase) q.2)) })).hostReadsGo
  else
    let t := s.nonOwner k true
    { t with hostOut := t.hostOut ++ [.cpl off (deadBytes off len) false] }

/-! ### Handover (R354, R356) -/

/-- Slot k lies in an enabled log ring (R358). -/
def State.inRing (s : State) (k : Nat) : Bool :=
  (List.range 8).any (fun r =>
    s.bit (Reg.OCU_RING_CFG r) 31 &&
    (s.fld (Reg.OCU_RING_CFG r) 0 12 ≤ k && k < s.fld (Reg.OCU_RING_CFG r) 0 12 + s.fld (Reg.OCU_RING_LEN r) 0 13))

/-- The writer may give slot k to the owner (R354); the slot has the other owner. -/
def State.mayHand (s : State) (keep toDev : Bool) (k : Nat) : Bool :=
  keep || toDev || !s.inRing k || !s.bit Reg.SEQ_STATE 3 || s.chip == 5

/-- A write of OCU_HAND by requester req (R354). -/
def State.ocuHand (s : State) (req : Nat) (v : Word) : State :=
  let keep := req != 40
  let first := bitsOf v 0 12
  let cnt := bitsOf v 16 12 + 1
  let toDev := bitOf v 30
  let ack := bitOf v 31
  let unit := if keep then 1 else 0
  if s.nslot < first + cnt then s.err 0x060 0x34 unit 0xFFFF req
  else
    let named := (List.range cnt).map (first + ·)
    let other := named.filter (fun k => s.devOwns k != toDev)
    let go := other.filter (fun k => s.mayHand keep toDev k)
    let skip := other.filter (fun k => !s.mayHand keep toDev k)
    let t := match skip with
      | [] => s
      | k :: _ => ((s.bump Reg.OCU_HAND_SKIP skip.length).err 0x060 0x34 unit k req).raise 0x060 2
    if toDev then
      t.modHost (fun h => { h with handovers := h.handovers ++ [{ slots := go, waits := h.bar2Out, ack := ack, done := go.length }] })
    else
      let u := go.foldl (fun u k => u.setOwner k false) t
      if ack then (u.setReg Reg.OCU_HAND_STAT (w32 go.length)).sendVec 40 else u

/-- HANDOVER_TAKE_EFFECT (R354): the oldest handover to DEVICE whose earlier BAR2 writes are all acknowledged takes effect. -/
def State.handoverEffect (s : State) : State :=
  match s.host.handovers with
  | [] => s
  | h :: rest =>
    if h.waits.any (fun i => s.host.bar2Out.contains i) then s
    else
      let t := (h.slots.foldl (fun t k => t.setOwner k true) s).modHost (fun x => { x with
        handovers := rest, doorbells := x.doorbells.map (fun d => { d with hands := d.hands - 1 }) })
      if h.ack then (t.setReg Reg.OCU_HAND_STAT (w32 h.done)).sendVec 40 else t

/-! ### Doorbells (R357) -/

/-- A host write of OCU_HDB: the doorbell waits for the host's earlier writes, handovers among them. -/
def State.ocuHdb (s : State) (v : Word) : State :=
  s.modHost (fun h => { h with doorbells := h.doorbells ++ [{ v := v, waits := h.bar2Out, hands := h.handovers.length }] })

/-- The doorbell v reaches its target (R357, R384). -/
def State.ring (s : State) (v : Word) : State :=
  if bitOf v 23 then ((s.bump Reg.KEEP_HDB_CNT).raise 0x000 1).cpIrq 32 28
  else
    let n := bitsOf v 18 5
    if s.inGrid n then
      let t := if bitOf v 1 then s.sendInc 40 n (bitsOf v 6 9) 1 else s
      if bitOf v 0 then t.cpIrq n 28 else t
    else s.err 0x060 0x36 0 n 40

/-- DOORBELL_PRESENT (R357): the oldest doorbell is presented once every host write processed before it has taken effect. -/
def State.doorbellPresent (s : State) : State :=
  match s.host.doorbells with
  | [] => s
  | d :: rest =>
    if d.waits.any (fun i => s.host.bar2Out.contains i) || d.hands != 0 then s
    else (s.modHost (fun h => { h with doorbells := rest })).ring d.v

/-- A write of OCU_DDB: the Keep sends vector 48 + d for each bit d; a host write is dropped with CODE 0x50 (R357, R361). -/
def State.ocuDdb (s : State) (req : Nat) (v : Word) : State :=
  if req = 40 then s.err 0x060 0x50 0 0x4C req
  else (List.range 16).foldl (fun t d => if bitOf v d then t.sendVec (48 + d) else t) s

/-- A write of OCU_CTL (R349). -/
def State.ocuCtl (s : State) (req : Nat) (v : Word) : State :=
  if bitOf v 0 then
    let cap := s.dramCap < s.wbase + s.nslot * 2 ^ 18
    let mis := s.wbase % 2 ^ 18 != 0
    if cap || mis then
      (s.err 0x060 0x33 0 ((if mis then 1 else 0) + (if cap then 2 else 0)) req).raise 0x060 5
    else s.setBit Reg.OCU_CTL 0 true
  else s.setBit Reg.OCU_CTL 0 false

/-! ### Log rings (R358, R359) -/

/-- A write of OCU_RINGr_CFG with value v: 1 in EN loads LAST from the counter and clears REL; the other fields of an enabled ring are
dropped and captured (R359). -/
def State.ringCfg (s : State) (req r : Nat) (v : Word) : State :=
  let a := Reg.OCU_RING_CFG r
  let old := s.reg a
  let v := v &&& 0xFFFF0FFF
  let locked := bitOf old 31 && (old &&& 0x7FFFFFFF) != (v &&& 0x7FFFFFFF)
  let eff := if bitOf old 31 then putBit old 31 (bitOf v 31) else v
  let t := (if locked then s.err 0x060 0x50 0 (a % 0x1000) req else s).setReg a eff
  if bitOf v 31 then
    let c := t.reg (evtReg (bitsOf eff 25 5) (bitsOf eff 16 9))
    (t.modHost (fun h => { h with ringLast := Tab.set (fun _ => 0) h.ringLast r c, ringPos := Tab.set (fun _ => 0) h.ringPos r 0 })).setFld
      (Reg.OCU_RING_LEN r) 16 12 0
  else t

/-- A write that does not write EN of ring r leaves its LAST and REL as they were in s (R359). -/
def State.ringKept (t s : State) (r : Nat) : State :=
  (t.modHost (fun h => { h with ringLast := s.host.ringLast, ringPos := s.host.ringPos })).setFld (Reg.OCU_RING_LEN r) 16 12
    (s.fld (Reg.OCU_RING_LEN r) 16 12)

/-- The tick-end strobe reaches the host interface: each enabled ring reads its counter (R358). -/
def State.ringStrobe (s : State) : State :=
  (List.range 8).foldl (fun t r =>
    let c := t.reg (Reg.OCU_RING_CFG r)
    if bitOf c 31 then
      (t.modHost (fun h => { h with reads := h.reads ++
        [(0x020000000000 + evtReg (bitsOf c 25 5) (bitsOf c 16 9), 4, Tag.logRing ⟨r % 8, Nat.mod_lt _ (by decide)⟩)] })).hostReadsGo
    else t) s

/-- Releases up to d slots of ring r, at most fuel of them (R358): the state, the slots released. -/
def State.ringRelease (s : State) (r : Nat) : Nat → Nat → State × Nat
  | 0, _ => (s, 0)
  | _, 0 => (s, 0)
  | fuel + 1, d + 1 =>
    let rel := s.fld (Reg.OCU_RING_LEN r) 16 12
    let pos := Tab.get (fun _ => 0) s.host.ringPos r
    let k := s.fld (Reg.OCU_RING_CFG r) 0 12 + pos
    if s.devOwns k then
      let last := Tab.get (fun _ => 0) s.host.ringLast r
      let t := ((s.setOwner k false).setFld (Reg.OCU_RING_LEN r) 16 12 (rel + 1)).modHost (fun h => { h with
        ringLast := Tab.set (fun _ => 0) h.ringLast r (last + 1)
        ringPos := Tab.set (fun _ => 0) h.ringPos r ((pos + 1) % Nat.max 1 (s.fld (Reg.OCU_RING_LEN r) 0 13)) })
      let (u, n) := t.ringRelease r fuel d
      (u, n + 1)
    else ((s.err 0x060 0x35 r k).raise 0x060 3, 0)

/-- LOG_RING_RELEASE (R358): the counter value of ring r has returned. -/
def State.ringGo (s : State) (r : Nat) : State :=
  match s.returned.find? (fun x => x.tag == .logRing ⟨r % 8, Nat.mod_lt _ (by decide)⟩) with
  | none => s
  | some x =>
    let t := { s with returned := s.returned.erase x }
    if t.bit (Reg.OCU_RING_CFG r) 31 then
      let d := (w32 (leNum x.data) - Tab.get (fun _ => 0) t.host.ringLast r).toNat
      let (u, n) := t.ringRelease r (t.nslot + 1) d
      if 0 < n && u.bit (Reg.OCU_RING_CFG r) 30 then u.sendVec (32 + r) else u
    else t

/-! ### The endpoint (R347, R425, R455) -/

/-- Function Level Reset: the configuration space, the MSI-X table and the pending bits return to their reset values (R347). -/
def State.flr (s : State) : State :=
  ({ s with regs := s.regs.filter (fun e => !((0x6E400 ≤ e.1 && e.1 < 0x6E800) || (0x6F400 ≤ e.1 && e.1 < 0x6F408))) }).modHost
    (fun h => { h with bme := false, mse := false, msixEn := false, msixMask := false, d3 := false, cfg := [] })

/-- DL_DOWN (R425): requests received before it are processed, and the completions of its reads are discarded. -/
def State.dlDown (s : State) : State :=
  if s.host.up then
    (((s.flr.modHost (fun h => { h with up := false, downs := h.downs + 1 })).setBit Reg.OCU_LINK 8 false).raise 0x060 4).classCnt 5
  else s

/-- DL_UP (R361, R425): the link trains only with PERST_N high and link training enabled. With the link up, it has trained to another rate or
width. -/
def State.dlUp (s : State) (rate width : Nat) : State :=
  let v := w32 (256 + width * 16 + rate)
  if !s.host.perstN || !s.host.trainEn || !s.bit Reg.KEEP_CLK_STAT 3 || (s.host.up && s.reg Reg.OCU_LINK == v) then s
  else ((s.modHost (fun h => { h with up := true })).setReg Reg.OCU_LINK v).raise 0x060 4

/-- PERST_N (R455). -/
def State.perst (s : State) : State := (s.flr.dlDown).modHost (fun h => { h with perstN := false })

/-- The words of the configuration space that no request changes (R346 to R348): the type 0 header, the BAR types, and the capabilities power
management, MSI-X, PCI Express and AER, at places that are the model's own (log entry 86). -/
def cfgConst : List (Nat × Word) :=
  [(0x04, 0x00100000), (0x08, 0x120000B0), (0x10, 0x4), (0x18, 0xC), (0x34, 0x40), (0x40, 0x00035001), (0x50, 0x003F6011), (0x54, 0x0006E400),
   (0x58, 0x0006F400), (0x60, 0x00020010), (0x64, 0x10008022), (0x6C, 0x00000885), (0x84, 0x00010000), (0x8C, 0x3E), (0x100, 0x00020001),
   (0x118, 0xA0)]

/-- The reset values of AER's masks and severities (R346, log entry 86). -/
def cfgReset : List (Nat × Word) := [(0x108, 0x00400000), (0x10C, 0x00462030), (0x114, 0x0000E000)]

/-- The bits of a configuration word that a write changes (R346, R348): the address bits of BAR0 and BAR2 above their sizes (BAR4/5 and the ROM are
not implemented), the interrupt line, Device Control, the ASPM control, and the masks, severities and ECRC enables of AER. -/
def State.cfgMask (s : State) (o : Nat) : Word :=
  if o = 0x10 then 0xFC000000
  else if o = 0x18 then w32 (2 ^ 32 - s.nslot * 2 ^ 18)
  else if o = 0x14 || o = 0x1C then 0xFFFFFFFF
  else if o = 0x108 || o = 0x10C then 0x005FF030 else if o = 0x114 then 0x0000F1C1
  else if o = 0x3C then 0xFF else if o = 0x68 then 0x7FFF else if o = 0x70 then 3 else if o = 0x118 then 0x140 else 0

/-- A word of the configuration space as it reads (R346 to R348). -/
def State.cfgWord (s : State) (o : Nat) : Word :=
  let base := Tab.get (fun _ => 0) cfgConst o ||| (Tab.get (fun _ => 0) cfgReset o ^^^ Tab.get (fun _ => 0) s.host.cfg o)
  if o = 0 then s.reg Reg.OCU_PCI_ID &&& 0xFFFF ||| 0x32080000
  else if o = 0x2C then s.keep.ssid
  else if o = 4 then putBit (putBit base 1 s.host.mse) 2 s.host.bme
  else if o = 0x44 then (if s.host.d3 then 3 else 0)
  else if o = 0x50 then putBit (putBit base 30 s.host.msixMask) 31 s.host.msixEn
  else if o = 0x70 then base ||| w32 (s.fld Reg.OCU_LINK 0 4 * 2 ^ 16 + s.fld Reg.OCU_LINK 4 4 * 2 ^ 20)
  else base

/-- A PCIe link fault that AER reports (R417): its status bit is set, and it counts as host protocol unless AER masks it. The bit of an ECRC error, 19,
needs ECRC checking enabled (R346). -/
def State.aerFault (s : State) (uncorrectable : Bool) (i : Nat) : State :=
  let o := if uncorrectable then 0x104 else 0x110
  if uncorrectable && i = 19 && !bitOf (s.cfgWord 0x118) 8 then s
  else
    let t := s.modHost (fun h => { h with cfg := Tab.set (fun _ => 0) h.cfg o (putBit (s.cfgWord o) i true) })
    if bitOf (s.cfgWord (o + 4)) i then t else t.classCnt 5

/-- What a write of v leaves in the configuration word at o, against its reset value: a payload size above 512 bytes stores 512, a read request size above 4,096 bytes stores
4,096 (R346), and AER's status bits clear where v has 1. -/
def State.cfgStored (s : State) (o : Nat) (v : Word) : Word :=
  let w := v &&& s.cfgMask o
  if o = 0x104 || o = 0x110 then s.cfgWord o &&& ~~~v else Tab.get (fun _ => 0) cfgReset o ^^^ if o = 0x68 then putFld (putFld w 5 3 (Nat.min 2 (bitsOf w 5 3))) 12 3 (Nat.min 5 (bitsOf w 12 3)) else w

/-- A configuration request (R346, R347, R425): retried until stage PCIE; then, while the link is up, it reads or changes the configuration space. -/
def State.cfgRequest (s : State) (r : CfgReq) : State :=
  if !s.host.trainEn then { s with hostOut := s.hostOut ++ [.cfgCpl true 0] }
  else if !s.host.up then s
  else
    let ok := fun (t : State) (v : Word) => { t with hostOut := t.hostOut ++ [.cfgCpl false v] }
    match r with
    | .read off => ok s (s.cfgWord (off.toNat / 4 * 4))
    | .command b m => ok ((s.modHost (fun h => { h with bme := b, mse := m })).flushVecs) 0
    | .msixControl e m => ok ((s.modHost (fun h => { h with msixEn := e, msixMask := m })).flushVecs) 0
    | .power d3 => ok (if s.host.d3 && !d3 then s.flr else s.modHost (fun h => { h with d3 := d3 })) 0
    | .initiateFlr => ok s.flr 0
    | .other off v =>
      let o := off.toNat / 4 * 4
      ok (s.modHost (fun h => { h with cfg := Tab.set (fun _ => 0) h.cfg o (s.cfgStored o v) })) 0
    | .faulty u i => s.aerFault u i.val

/-- A RDR for a BAR2 read of the host that came in after link number of downs completes it, with EP set when a word is poisoned (R349). The
completion of a read from before a DL_Down is discarded (R425). -/
def State.hostCpl (s : State) (link off : Nat) (data : List Byte) (pois : Bool) : State :=
  if s.host.up && link == s.host.downs then { s with hostOut := s.hostOut ++ [.cpl off data pois] } else s

end Sys2Proof.Machine
end

