-- ==== Sys2Proof/Machine/Ports.lean ====
section
/-! DEFINITION. The sensor ports (R56, R252 to R263, R316 to R331): arms, lines through the front stage into the ring, triggers, control masters and
tables. -/

namespace Sys2Proof.Machine

/-- Page of port p (R331). -/
def spPage (p : Nat) : Nat := 0x080 + p

/-- Port p beside its registers. -/
def State.port (s : State) (p : Nat) : Port := Tab.get (fun _ => Port.reset) s.ports p

/-- Applies f to port p. -/
def State.modPort (s : State) (p : Nat) (f : Port → Port) : State :=
  { s with ports := Tab.set (fun _ => Port.reset) s.ports p (f (s.port p)) }

/-- Channel v of a port. -/
def Port.chan (x : Port) (v : Nat) : PortCh := Tab.get (fun _ => PortCh.reset) x.chans v

/-- Sets channel v of port p. -/
def State.setPch (s : State) (p v : Nat) (c : PortCh) : State :=
  s.modPort p (fun x => { x with chans := Tab.set (fun _ => PortCh.reset) x.chans v c })

/-- EN of port p. -/
def State.spEn (s : State) (p : Nat) : Bool := s.bit (hdr (spPage p) 8) 0

/-- Port p is the odd port of a combined pair (R317). -/
def State.spIdle (s : State) (p : Nat) : Bool := p % 2 == 1 && s.bit (Reg.SP_CFG (p - 1)) 4

/-- The receiver of port p takes packets of channel v. -/
def State.spTakes (s : State) (p v : Nat) : Bool := s.spEn p && !s.spIdle p && s.bit (Reg.SP_CFG p) (12 + v)

/-- LINE_PIX, bytes per pixel and row pitch (R252, R261). -/
def State.linePix (s : State) (p : Nat) : Nat := s.fld (Reg.SP_LINE p) 0 14
def bppOf (line : Word) : Nat := if bitsOf line 16 2 = 0 then 2 else 1
def rpOf (line : Word) : Nat := (bitsOf line 0 14 * bppOf line + 255) / 256 * 256

/-! ### Arms (R56, R254, R322) -/

/-- The reason an arm is refused, 0 when it is accepted. -/
def State.portArmReason (s : State) (p : Nat) (a : Arm) : Nat :=
  let rp := rpOf (s.reg (Reg.SP_LINE p))
  if a.rows < 8 then 1
  else if a.rows < 2 * a.halo + 8 then 2
  else if a.len * 256 < (a.rows + 2 * a.halo) * rp then 3
  else if 2 ^ 24 < a.base * 256 + a.len * 256 then 4
  else if !s.inGrid a.spire then 5
  else if !s.spEn p || !s.bit (Reg.SP_CFG p) (12 + a.vc) then 6
  else if 2 ≤ ((s.port p).chan a.vc).arms.length then 7
  else if s.spIdle p then 8
  else 0

/-- The ring fields that R254 compares are equal. -/
def Arm.sameRing (a b : Arm) : Bool :=
  a.spire == b.spire && a.base == b.base && a.len == b.len && a.rows == b.rows && a.halo == b.halo && a.vc == b.vc

/-- The arm that the 72 ARGS bits of a PORT_ARM name (R56). -/
def armOf (e : Nat) : Arm :=
  let f := fun (lo len : Nat) => e / 2 ^ lo % 2 ^ len
  { spire := f 67 5, base := f 51 16, len := f 35 16, rows := f 27 8 + 1, halo := f 20 7, vc := f 18 2, ctr := f 9 9, cont := false }

/-- Trigger pulses of an accepted arm (R326). -/
def State.trigTimes (s : State) (p : Nat) (a : Arm) : List Nat :=
  if s.fld (Reg.SP_TRIG_CFG p) 30 2 = 1 && s.fld (Reg.SP_TRIG_CFG p) 24 2 = a.vc then
    (List.range a.rows).map (fun i => s.tb.tickStart.toNat + (s.reg (Reg.SP_TRIG_OFF p)).toNat + i * (s.reg (Reg.SP_TRIG_PER p)).toNat)
  else []

/-- PORT_ARM takes effect at port p with ARGS e (R56, R322, R326). -/
def State.portArm (s : State) (p e : Nat) : State :=
  let a := armOf e
  let r := s.portArmReason p a
  if r ≠ 0 then
    (((s.bump (Reg.SP_ARM_REJ p)).setReg (Reg.SP_ARM_STAT p) (w32 (a.vc * 2 ^ 16 + r))).err (spPage p) 0x10 a.vc r).raise (spPage p) 1
  else
    let x := s.port p
    let c := x.chan a.vc
    let a := { a with cont := x.lastArm.any (fun l => l.sameRing a) }
    let t := (s.setReg (Reg.SP_ARM_STAT p) (w32 (2 ^ 31 + a.vc * 2 ^ 16))).setPch p a.vc { c with arms := c.arms ++ [a] }
    t.modPort p (fun x => { x with lastArm := some a, pulses := x.pulses ++ s.trigTimes p a })

/-! ### The front stage (R258 to R261, R318) -/

/-- Bits and expected word count of a line data type (R318). -/
def dtBits (dt : Nat) : Nat := if dt = 0x2A then 8 else if dt = 0x2B then 10 else if dt = 0x2C then 12 else if dt = 0x2D then 14 else 16
def wordCount (dt pix : Nat) : Nat := pix * dtBits dt / 8

/-- The raw code of pixel x of a payload in CSI-2 packing, none when a byte of it is missing (R318, R321; the packing is that of CSI-2, log entry 35). -/
def rawPixel (dt : Nat) (b : Array Byte) (x : Nat) : Option Nat :=
  let at' := fun i => (b.getD i 0).toNat
  let low := fun (i : Nat) (v : Nat) => if i < b.size then some v else none
  if dt = 0x2A then low x (at' x)
  else if dt = 0x2B then
    let g := x / 4 * 5
    low (g + 4) (at' (g + x % 4) * 4 + at' (g + 4) / 4 ^ (x % 4) % 4)
  else if dt = 0x2C then
    let g := x / 2 * 3
    low (g + 2) (at' (g + x % 2) * 16 + at' (g + 2) / 16 ^ (x % 2) % 16)
  else if dt = 0x2D then
    let g := x / 4 * 7
    let lsb := at' (g + 4) + 256 * at' (g + 5) + 65536 * at' (g + 6)
    low (g + 4 + (6 * (x % 4) + 5) / 8) (at' (g + x % 4) * 64 + lsb / 64 ^ (x % 4) % 64)
  else low (2 * x + 1) (at' (2 * x) * 256 + at' (2 * x + 1))

/-- A word of a front-stage table (R330). -/
def Port.tbl (x : Port) (tbl bank w : Nat) : Word := Tab.get (fun _ => 0) x.tables (16384 * (2 * tbl + bank) + w)

/-- Words per bank of a table. -/
def tblSize (tbl : Nat) : Nat := if tbl = 0 then 256 else if tbl = 1 then 4096 else if tbl = 2 then 8450 else 0

/-- The columns that the pixel list names in row y (R259): an entry counts when it lies above every entry before it. -/
def listCols (entries : List Word) (y : Nat) : List Nat :=
  ((entries.takeWhile (fun e => e != 0xFFFFFFFF)).foldl (fun (a : List Nat × Option Nat) e =>
    let above := match a.2 with
      | none => true
      | some m => decide (m < e.toNat)
    (if above && bitsOf e 16 16 = y then bitsOf e 0 16 :: a.1 else a.1, if above then some e.toNat else a.2)) ([], none)).1

/-- Node (i, j) of phase f of the shading grid (R260). -/
def Port.node (x : Port) (bank gw gh f i j : Nat) : Nat :=
  let e := (f * gh + i) * gw + j
  bitsOf (x.tbl 2 bank (e / 2)) (16 * (e % 2)) 16

/-- The gain of pixel (y, px) in units of 2^-14 (R260). -/
def Port.gain (x : Port) (st : Stripe) (y px : Nat) : Nat :=
  let bank := bitsOf st.fs 2 1
  let gw := bitsOf st.grid 24 7
  let gh := bitsOf st.grid 16 7
  let sy := bitsOf st.grid 8 4
  let sx := bitsOf st.grid 0 4
  let f := 2 * (y % 2) + px % 2
  let u := Nat.min px ((gw - 1) * 2 ^ sx)
  let jx := Nat.min (u / 2 ^ sx) (gw - 2)
  let fx := u - jx * 2 ^ sx
  let row := fun i => x.node bank gw gh f i jx * (2 ^ sx - fx) + x.node bank gw gh f i (jx + 1) * fx
  if gh ≤ 1 then rneShift (row 0) sx
  else
    let v := Nat.min y ((gh - 1) * 2 ^ sy)
    let iy := Nat.min (v / 2 ^ sy) (gh - 2)
    let fy := v - iy * 2 ^ sy
    rneShift (row iy * (2 ^ sy - fy) + row (iy + 1) * fy) (sx + sy)

/-- A signed number over 2^sh rounded half to even. -/
def rneInt (v : Int) (sh : Nat) : Int := sInt (decide (v < 0)) (rneShift v.natAbs sh)

/-- Steps 3 and 4 of R258: the bytes of a pixel and whether it saturates or clips. -/
def landPixel (line fs : Word) (sv : Int) (g : Nat) : List Byte × Bool :=
  let r := rneInt (sv * g) 14
  let v := (min (max r 0) 65535).toNat
  let sat := decide (65535 < r)
  match bitsOf line 16 2 with
  | 0 => (leBytes v 2, sat)
  | 1 =>
    let q := rneShift v 8
    ([BitVec.ofNat 8 (Nat.min q 255)], sat || decide (255 < q))
  | k =>
    let (q, clip) := toFp8 (k == 3) (.fin false v (-(bitsOf fs 16 4 : Int)))
    ([BitVec.ofNat 8 q], sat || clip)

/-- A row through the front stage: codes by pixel (none where a pixel was not received), its bytes and the number of saturated pixels. -/
def Port.frontRow (x : Port) (st : Stripe) (d y pix : Nat) (wrapped : Bool) (code : Nat → Option Nat) : List Byte × Nat :=
  let bl := fun (f : Nat) => if f < 2 then bitsOf st.bl01 (16 * f) 16 else bitsOf st.bl23 (16 * (f - 2)) 16
  let s1 := fun px => (((code px).getD 0 * 2 ^ (16 - d) : Nat) : Int) - (bl (2 * (y % 2) + px % 2) : Int)
  let cols := if wrapped then [] else listCols ((List.range 4096).map (fun i => x.tbl 1 (bitsOf st.fs 1 1) i)) y
  let bad := fun px => bitOf (x.tbl 0 (bitsOf st.fs 0 1) (px / 32)) (px % 32) || cols.contains px
  let s2 := fun px =>
    if !bad px then s1 px
    else if 2 ≤ px && px + 2 < pix then rneInt (s1 (px - 2) + s1 (px + 2)) 1
    else if 2 ≤ px then s1 (px - 2)
    else s1 (px + 2)
  let out := (List.range pix).map (fun px => (landPixel st.line st.fs (s2 px) (x.gain st y px), (code px).isSome))
  (out.flatMap (fun o => o.1.1), (out.filter (fun o => o.1.2 && o.2)).length)

/-! ### Landing (R253 to R255, R263, R324) -/

/-- Slots of a ring (R253). -/
def ringSlots (a : Arm) (rp : Nat) : Nat := (a.len * 256 - 2 * a.halo * rp) / (a.rows * rp)

/-- The landing writes of row j of a stripe in its slot, guard copy included (R253, R255). -/
def rowWrites (a : Arm) (rp slot j : Nat) (bytes : List Byte) : List LandW :=
  let base := a.base * 256
  let put := fun (off : Nat) => (cutBlocks off bytes.length).map (fun q =>
    ({ spire := a.spire, cells := cellsAt (vaultAddr a.spire q.1) ((bytes.drop (q.1 - off)).take q.2), arr := none, last := none } : LandW))
  let main := put (base + 2 * a.halo * rp + slot * a.rows * rp + j * rp)
  let guard := if slot + 1 = ringSlots a rp && a.rows ≤ j + 2 * a.halo then put (base + (j + 2 * a.halo - a.rows) * rp) else []
  let all := main ++ guard
  if j + 1 = a.rows then
    match all.reverse with
    | [] => []
    | w :: rest => (({ w with arr := some ⟨a.ctr % 512, Nat.mod_lt _ (by decide)⟩, last := some a.vc } : LandW) :: rest).reverse
  else all

/-- A stripe is complete (R323, R324): its record, and the queued arm becomes current. -/
def State.stripeDone (s : State) (p v : Nat) : State :=
  let c := (s.port p).chan v
  match c.stripe with
  | none => s
  | some st =>
    let a := Reg.SP_STRIPE p v
    let w := (if st.cont then 2 ^ 31 else 0) + (if st.dmg then 2 ^ 30 else 0) + (if st.hdr then 2 ^ 29 else 0) + st.slot % 2 ^ 13 * 2 ^ 16
      + (s.fld a 0 16 + 1) % 2 ^ 16
    ((s.setReg a (w32 w)).setPch p v { c with arms := c.arms.tail, stripe := none, lastSlot := st.slot }).raise (spPage p) 0

/-- LANDING_WRITE of port p: the oldest write is presented as a posted write to its vault (R255, R263, R298). -/
def State.landingWrite (s : State) (p : Nat) : State :=
  match (s.port p).landing with
  | [] => s
  | w :: rest =>
    let t := (s.modPort p (fun x => { x with landing := rest })).post (52 + p / 2) w.spire (.pw w.cells [] w.arr true .plain)
    match w.last with
    | some v => t.stripeDone p v
    | none => t

/-- Presents up to k landing writes. -/
def State.landingFlush (s : State) (p : Nat) : Nat → State
  | 0 => s
  | k + 1 => (s.landingWrite p).landingFlush p k

/-- Bytes in the landing buffer of port p, and its size (R321). -/
def Port.buffered (x : Port) : Nat := x.landing.foldl (fun n w => n + w.cells.length) 0
def State.bufferSize (s : State) (p : Nat) : Nat := if p % 2 = 0 && s.bit (Reg.SP_CFG p) 4 then 65536 else 32768

/-! ### Packets (R319 to R323) -/

/-- A single-bit header error was corrected (R320). -/
def State.spHdr (s : State) (p : Nat) (corrected : Bool) : State := if corrected then (s.bump (Reg.SP_ECC_CE p)).corrected else s

/-- A damaged line is counted and captured (R321). -/
def State.spFault (s : State) (p v a code bit detail : Nat) : State := ((s.bump a).err (spPage p) code v detail).raise (spPage p) bit

/-- The stripe that the first line of a channel's current arm begins (R254, R262). -/
def State.newStripe (s : State) (p : Nat) (c : PortCh) (a : Arm) : Stripe :=
  let cont := a.cont && !c.disc
  let ns := ringSlots a (rpOf (s.reg (Reg.SP_LINE p)))
  { slot := if cont then (c.lastSlot + 1) % Nat.max 1 ns else 0, row := 0, cont := cont, dmg := false, hdr := false
    line := s.reg (Reg.SP_LINE p), fs := s.reg (Reg.SP_FS_CFG p), bl01 := s.reg (Reg.SP_BL01 p), bl23 := s.reg (Reg.SP_BL23 p)
    grid := s.reg (Reg.SP_GRID p) }

/-- The channel as its next line finds it: a stripe that begins with another pixel list walks that list from the current row (R262). -/
def PortCh.walk (c : PortCh) (psel : Bool) : PortCh :=
  if c.stripe.isSome then c else { c with psel := psel, wrapped := c.wrapped && psel == c.psel }

/-- The frame row after a line (R258, R319). -/
def PortCh.nextRow (c : PortCh) : PortCh := { c with y := (c.y + 1) % 65536, wrapped := c.wrapped || c.y == 65535 }

/-- A line of an enabled channel lands as one row, or is discarded when its channel holds no arm (R319, R321, R323). Its faults are reported in the
order of their codes, so that the lowest is captured (R13). -/
def State.spLine (s : State) (p v : Nat) (payload : List Byte) (crcOk : Bool) : State :=
  let dt := s.fld (Reg.SP_CFG p) 6 6
  let pix := s.linePix p
  let y := ((s.port p).chan v).y
  let wc := payload.length
  let s := s.bump (Reg.SP_LINES p)
  let full := ((s.port p).chan v).stripe.any (fun st => ((s.port p).chan v).arms.head?.any (fun a => a.rows ≤ st.row))
  let s := if full then s.landingFlush p (s.port p).landing.length else s
  let s := if crcOk then s else s.spFault p v (Reg.SP_CRC p) 0x12 3 y
  let s := if wc ≠ wordCount dt pix then s.spFault p v (Reg.SP_WC p) 0x13 4 (wc % 2 ^ 16) else s
  let c := (s.port p).chan v
  match c.arms with
  | [] => ((s.bump (Reg.SP_DISC p)).setPch p v { c.nextRow with disc := true }).raise (spPage p) 11
  | a :: _ =>
    let c := c.walk (s.bit (Reg.SP_FS_CFG p) 1)
    let st := c.stripe.getD (s.newStripe p c a)
    let bpp := bppOf st.line
    let room := (s.bufferSize p - (s.port p).buffered) / bpp
    let arr := payload.toArray
    let code := fun px => if px < room then rawPixel dt arr px else none
    let s := if room < pix then s.spFault p v (Reg.SP_OVF p) 0x14 5 y else s
    let (bytes, sat) := (s.port p).frontRow st (dtBits dt) y pix c.wrapped code
    let dmg := !crcOk || wc ≠ wordCount dt pix || room < pix
    let ws := rowWrites a (rpOf st.line) st.slot st.row bytes
    let c' := { c.nextRow with
      stripe := some { st with row := st.row + 1, dmg := st.dmg || dmg }
      disc := if c.stripe.isSome then c.disc else false }
    ((s.bump (Reg.SP_SAT p) sat).setPch p v c').modPort p (fun x => { x with landing := x.landing ++ ws })

/-- The lanes return to the stop state after a packet (D-PHY, log entry 35). -/
def State.spStop (s : State) (p : Nat) : State := s.modPort p (fun x => { x with link := 1 })

/-- LINE: a long packet arrives at port p (R319 to R321). -/
def State.longPacket (s : State) (p v dt : Nat) (payload : List Byte) (crcOk corrected : Bool) : State :=
  if !s.spEn p || s.spIdle p then s
  else
    let s := (s.spStop p).spHdr p corrected
    if !s.spTakes p v then s
    else if dt ≠ s.fld (Reg.SP_CFG p) 6 6 then s.bump (Reg.SP_OTHER p)
    else s.spLine p v payload crcOk

/-- FRAME_START (R319). -/
def State.frameStart (s : State) (p v : Nat) (corrected : Bool) : State :=
  if !s.spEn p || s.spIdle p then s
  else
    let s := (s.spStop p).spHdr p corrected
    if s.spTakes p v then s.setPch p v { (s.port p).chan v with y := 0, wrapped := false } else s

/-- HDR_UE (R320). -/
def State.headerLost (s : State) (p : Nat) : State :=
  if !s.spEn p || s.spIdle p then s
  else
    let t := (((s.spStop p).bump (Reg.SP_HDR_UE p)).err (spPage p) 0x11 0 0).raise (spPage p) 2
    (List.range 4).foldl (fun t v =>
      let c := (t.port p).chan v
      t.setPch p v { c with disc := c.disc || t.bit (Reg.SP_CFG p) (12 + v), stripe := c.stripe.map (fun st => { st with hdr := true }) }) t

/-- ULPS and LINK events (R331). -/
def State.linkEvent (s : State) (p : Nat) (e : LinkEv) : State :=
  if !s.spEn p || s.spIdle p then s
  else match e with
  | .ulpsEnter => (s.modPort p (fun x => { x with link := 3 })).raise (spPage p) 10
  | .ulpsExit => s.spStop p
  | .hsEnter => s.modPort p (fun x => { x with link := 2 })
  | .hsLost => (s.spStop p).raise (spPage p) 10

/-- HS_DESKEW (R316): the receiver aligns; no register shows it. -/
def State.deskew (s : State) (p : Nat) : State := if !s.spEn p || s.spIdle p then s else s.spStop p

/-! ### Enable, status and registers (R317, R322, R325, R331) -/

/-- EN of port p becomes 0 (R325): stripes are abandoned and arms discarded. -/
def State.portAbandon (s : State) (p : Nat) : State :=
  s.modPort p (fun x => { x with
    lastArm := none, landing := []
    chans := (x.chans.map (fun e => (e.1, { e.2 with arms := [], stripe := none }))).filter (fun e => e.2 != PortCh.reset) })

/-- A write of EN of port p. -/
def State.portEn (s : State) (p : Nat) (en : Bool) : State :=
  let t := s.setBit (hdr (spPage p) 8) 0 en
  if en then t else t.portAbandon p

/-- SP_STAT (R331). -/
def State.spStat (s : State) (p : Nat) : Word :=
  let x := s.port p
  w32 ((List.range 4).foldl (fun n v => n + (if (x.chan v).stripe.isSome then 2 ^ (16 + v) else 0) + (x.chan v).arms.length * 2 ^ (8 + 2 * v)) 0
    + (if x.link = 2 then 4 else 0) + (if x.link = 1 then 2 else 0) + (if x.link = 3 then 1 else 0))

/-- BLK_STAT.BUSY of port p. -/
def State.spBusy (s : State) (p : Nat) : Bool := (s.port p).chans.any (fun e => e.2.stripe.isSome)

/-- A field outside its stated range (R331): CODE 0x17. -/
def State.spField (s : State) (req p a : Nat) : State := s.err (spPage p) 0x17 0 (a % 0x1000) req

/-- A write dropped for the state of the port (R317, R325, R327). -/
def State.spBusyErr (s : State) (req p a : Nat) : State := s.err (spPage p) 0x50 0 (a % 0x1000) req

/-- A write of SP_CFG (R317, R318, R325). -/
def State.spCfgWrite (s : State) (req p : Nat) (v : Word) : State :=
  let a := Reg.SP_CFG p
  let v := if p % 2 = 1 then putBit v 4 false else v
  let pair := if p % 2 = 0 then p + 1 else p - 1
  if s.spEn p || (bitOf v 4 != s.bit a 4 && s.spEn pair) then s.spBusyErr req p a
  else if bitsOf v 6 6 < 0x2A || 0x2E < bitsOf v 6 6 || bitsOf v 0 2 = 3 then s.spField req p a
  else s.setReg a (v &&& 0xBFFFF3)

/-- A write of SP_LINE (R318, R325). -/
def State.spLineWrite (s : State) (req p : Nat) (v : Word) : State :=
  let a := Reg.SP_LINE p
  let pix := bitsOf v 0 14
  if s.spEn p then s.spBusyErr req p a
  else if pix % 8 ≠ 0 || pix < 64 || 8192 < pix then s.spField req p a
  else s.setReg a (v &&& 0x33FFF)

/-- A write of SP_GRID (R260, R331). -/
def State.spGridWrite (s : State) (req p : Nat) (v : Word) : State :=
  let a := Reg.SP_GRID p
  if bitsOf v 24 7 < 2 || 65 < bitsOf v 24 7 || bitsOf v 16 7 < 1 || 65 < bitsOf v 16 7 || bitsOf v 8 4 < 3 || 10 < bitsOf v 8 4
      || bitsOf v 0 4 < 3 || 10 < bitsOf v 0 4 then s.spField req p a
  else s.setReg a (v &&& 0x7F7F0F0F)

/-- A write of SP_TRIG_CFG (R326, R331). -/
def State.spTrigWrite (s : State) (req p : Nat) (v : Word) : State :=
  let a := Reg.SP_TRIG_CFG p
  if 1 < bitsOf v 30 2 || bitsOf v 0 24 < 100 then s.spField req p a else s.setReg a (v &&& 0xE3FFFFFF)

/-- A write of SP_TBL_DATA (R262, R330). -/
def State.tblDataWrite (s : State) (req p : Nat) (v : Word) : State :=
  let i := s.reg (Reg.SP_TBL_IDX p)
  let tbl := bitsOf i 26 2
  let bank := bitsOf i 25 1
  let w := bitsOf i 0 14
  if tbl < 3 && bank = s.fld (Reg.SP_FS_CFG p) tbl 1 then (s.err (spPage p) 0x16 tbl w req).raise (spPage p) 6
  else if w < tblSize tbl then
    let t := s.modPort p (fun x => { x with tables := Tab.set (fun _ => (0 : Word)) x.tables (16384 * (2 * tbl + bank) + w) v })
    if bitOf i 31 then t.setReg (Reg.SP_TBL_IDX p) (putFld i 0 14 (w + 1)) else t
  else s

/-- A read of SP_TBL_DATA (R330): the word, and the state after AUTOINC. -/
def State.tblDataRead (s : State) (p : Nat) : Word × State :=
  let i := s.reg (Reg.SP_TBL_IDX p)
  let w := bitsOf i 0 14
  let d := if w < tblSize (bitsOf i 26 2) then (s.port p).tbl (bitsOf i 26 2) (bitsOf i 25 1) w else 0
  (d, if bitOf i 31 then s.setReg (Reg.SP_TBL_IDX p) (putFld i 0 14 (w + 1)) else s)

/-! ### Trigger (R326) -/

/-- TRIGGER_PULSE: the edge that is due is driven. -/
def State.triggerPulse (s : State) (p : Nat) : State :=
  let x := s.port p
  let now := s.tb.now.toNat
  match x.pulse with
  | some e => if e ≤ now then s.modPort p (fun x => { x with pulse := none }) else s
  | none => match x.pulses with
    | t :: rest => if t ≤ now then s.modPort p (fun x => { x with pulses := rest, pulse := some (now + s.fld (Reg.SP_TRIG_CFG p) 0 24) }) else s
    | [] => s

/-- The level at ball SPp_TRIG (R317, R326). -/
def State.trigOut (s : State) (p : Nat) : Bool :=
  ((s.port p).pulse.isSome && s.fld (Reg.SP_TRIG_CFG p) 30 2 == 1 && !s.spIdle p) != s.bit (Reg.SP_TRIG_CFG p) 29

/-- Ball SPp_MCLK drives the 25 MHz reference clock (R329). -/
def State.mclkOut (s : State) (p : Nat) : Bool := s.bit (Reg.SP_CFG p) 23

/-! ### Control masters (R327, R328) -/

/-- The transaction that a START of SP_I2C_CMD with value v runs on the bus, with TX as it stands (R327, log entry 91). -/
def i2cPlan (v tx : Word) : List I2cSym :=
  let a := bitsOf v 8 7
  let r := bitsOf v 22 3
  [.start, .addr a false] ++ ((leBytes tx.toNat 4).take (bitsOf v 25 3)).map .out
    ++ (if r = 0 then [] else [.start, .addr a true] ++ (List.range r).map (fun k => .take (k + 1 == r))) ++ [.stop]

/-- Bytes that the running transaction of port p reads. -/
def Port.i2cReads (x : Port) : Nat := (x.i2c.filter (fun y => match y with | .take _ => true | _ => false)).length

/-- A write of SP_I2C_CMD. -/
def State.i2cCmd (s : State) (req p : Nat) (v : Word) : State :=
  let a := Reg.SP_I2C_CMD p
  if bitOf v 31 && s.bit (Reg.SP_I2C_STAT p) 31 then s.spBusyErr req p a
  else if bitsOf v 29 2 = 3 || 4 < bitsOf v 25 3 || 4 < bitsOf v 22 3 then s.spField req p a
  else
    let t := s.setReg a (v &&& 0x6FC07F00)
    if bitOf v 31 then (t.setReg (Reg.SP_I2C_STAT p) 0x80000000).modPort p (fun x => { x with i2c := i2cPlan v (s.reg (Reg.SP_I2C_TX p)) }) else t

/-- A write of SP_I2C_TX. -/
def State.i2cTx (s : State) (req p : Nat) (v : Word) : State :=
  if s.bit (Reg.SP_I2C_STAT p) 31 then s.spBusyErr req p (Reg.SP_I2C_TX p) else s.setReg (Reg.SP_I2C_TX p) v

/-- I2C_DONE: the transaction of port p ends. -/
def State.i2cEnd (s : State) (p : Nat) (e : I2cEnd) : State :=
  if !s.bit (Reg.SP_I2C_STAT p) 31 then s
  else
    let rlen := (s.port p).i2cReads
    let s := s.modPort p (fun x => { x with i2c := [] })
    let rx := fun (k : Nat) (w : Word) => w32 (w.toNat % 2 ^ (8 * Nat.min k rlen))
    match e with
    | .complete w => ((s.setReg (Reg.SP_I2C_STAT p) 0).setReg (Reg.SP_I2C_RX p) (rx 4 w)).raise (spPage p) 7
    | .nack => (((s.setReg (Reg.SP_I2C_STAT p) 1).setReg (Reg.SP_I2C_RX p) 0).err (spPage p) 0x18 0 1).raise (spPage p) 8
    | .timeout k w => (((s.setReg (Reg.SP_I2C_STAT p) 2).setReg (Reg.SP_I2C_RX p) (rx k.val w)).err (spPage p) 0x18 0 2).raise (spPage p) 8

/-- The transfer that a START of SP_SPI_CTL with value w runs, with TX as it stands: BITS bits, the most significant first (R328, log entry 91). -/
def spiPlan (w tx : Word) : SpiXfer :=
  { cs := bitOf w 27, cpol := bitOf w 29, cpha := bitOf w 28, div := bitsOf w 16 8
    out := (List.range (bitsOf w 0 5 + 1)).map (fun k => bitOf tx (bitsOf w 0 5 - k)) }

/-- Chip select k of the SPI master of port p is asserted (R328). -/
def State.spiSelect (s : State) (p : Nat) (k : Bool) : Bool := (s.port p).spi.any (fun x => x.cs == k)

/-- A write of SP_SPI_CTL; odd ports have no SPI master. -/
def State.spiCtl (s : State) (p : Nat) (v : Word) : State :=
  let a := Reg.SP_SPI_CTL p
  if p % 2 = 1 || (bitOf v 31 && s.bit a 30) then s
  else
    let w := v &&& 0x38FF001F
    let w := if bitsOf w 16 8 < 9 then putFld w 16 8 9 else w
    let t := s.setReg a (putBit w 30 (bitOf v 31 || s.bit a 30))
    if bitOf v 31 then t.modPort p (fun x => { x with spi := some (spiPlan w (s.reg (Reg.SP_SPI_TX p))) }) else t

/-- SPI_DONE: the transfer of port p ends with rx shifted in. -/
def State.spiEnd (s : State) (p : Nat) (rx : Word) : State :=
  let a := Reg.SP_SPI_CTL p
  if p % 2 = 0 && s.bit a 30 then
    let bits := match (s.port p).spi with
      | some x => x.out.length
      | none => 0
    (((s.setBit a 30 false).setReg (Reg.SP_SPI_RX p) (w32 (rx.toNat % 2 ^ bits))).modPort p (fun x => { x with spi := none })).raise (spPage p) 9
  else s

/-- A warm reset of port p, or BLK_RST of its page, beside its registers (R331): as EN = 0; the tables are kept. -/
def State.portReset (s : State) (p : Nat) : State :=
  (s.portAbandon p).modPort p (fun x => { Port.reset with tables := x.tables, chans := x.chans })

end Sys2Proof.Machine
end

