-- ==== Sys2Proof/Machine/Walker.lean ====
section
/-! DEFINITION. The dome's queue, descriptors and walker slots (R201 to R211, R234 to R245): fields, taps, footprints and outputs' addresses. -/

namespace Sys2Proof.Machine

/-- The dome of spire n beside its registers. -/
def State.dome (s : State) (n : Nat) : Dome := Tab.get (fun _ => Dome.reset) s.domes n

/-- Sets the dome of spire n. -/
def State.setDome (s : State) (n : Nat) (d : Dome) : State := { s with domes := Tab.set (fun _ => Dome.reset) s.domes n d }

/-- Applies f to the dome of spire n. -/
def State.modDome (s : State) (n : Nat) (f : Dome → Dome) : State := s.setDome n (f (s.dome n))

/-- Bits of word k of a descriptor. -/
def dw (ws : List Nat) (k lo len : Nat) : Nat := ws.getD k 0 / 2 ^ lo % 2 ^ len

/-- TYPE of a descriptor (R203). -/
def descType (ws : List Nat) : Nat := dw ws 0 0 8

/-- Control page of the dome of spire n (R215). -/
def domePage (n : Nat) : Nat := spirePage n 6

/-- A number with bit 8 or higher of its width as sign: two's complement of w bits. -/
def twos (v w : Nat) : Int := if v % 2 ^ w < 2 ^ (w - 1) then (v % 2 ^ w : Nat) else ((v % 2 ^ w : Nat) : Int) - 2 ^ w

/-! ### RUN fields (R207) -/

/-- The fields of a RUN descriptor. -/
structure RunF where
  win : Nat
  asrc : Nat
  odst : Nat
  astride : Nat
  p : Nat
  otns : Nat
  itns : Nat
  ostride : Nat
  pen : Bool
  pool : Nat
  aft : Nat
  act : Nat
  ofmt : Nat
  afmt : Bool
  int : Bool
  swap : Bool
  acc : Nat
  n : Nat
  k : Nat
  zo : Int
  chb : Nat
  deriving DecidableEq, Repr

/-- Reads the fields of a RUN (R207). -/
def runF (w : List Nat) : RunF :=
  { win := dw w 1 24 3, asrc := dw w 1 0 24, odst := dw w 2 0 24, astride := dw w 3 16 16, p := dw w 3 0 16 + 1
    otns := dw w 4 23 7, itns := dw w 4 16 7, ostride := dw w 4 0 16
    pen := dw w 5 26 1 == 1, pool := dw w 5 24 2, aft := dw w 5 22 2, act := dw w 5 20 2, ofmt := dw w 5 18 2, afmt := dw w 5 17 1 == 1
    int := dw w 5 16 1 == 1, swap := dw w 5 15 1 == 1, acc := dw w 5 13 2, n := dw w 5 7 6 + 1, k := dw w 5 0 7 + 1
    zo := twos (dw w 6 10 8) 8, chb := dw w 6 0 10 }

/-- Bytes of one output. -/
def RunF.osize (f : RunF) : Nat := if f.ofmt = 2 then 4 else 1

/-- The pass ends at the output stage: SINGLE or LAST. -/
def RunF.outs (f : RunF) : Bool := f.acc == 0 || f.acc == 3

/-- The pass starts from 0: SINGLE or FIRST. -/
def RunF.fresh (f : RunF) : Bool := f.acc == 0 || f.acc == 1

/-! ### Walker slots (R235 to R245) -/

/-- The fields of a walker slot. -/
structure WinF where
  pval : Nat
  org : Nat
  irg : Nat
  pmode : Nat
  sx : Nat
  sy : Nat
  kw : Nat
  kh : Nat
  pl : Nat
  pt : Nat
  dx : Nat
  dy : Nat
  w : Nat
  h : Nat
  ow : Nat
  oh : Nat
  rp : Nat
  ocpl : Nat
  cin : Nat
  cpl : Nat
  pstart : Nat
  deriving DecidableEq, Repr

/-- Reads the fields of a WINCFG (R235). -/
def winF (w : List Nat) : WinF :=
  { pval := dw w 1 24 8, org := dw w 1 21 2, irg := dw w 1 19 2, pmode := dw w 1 17 2, sx := dw w 1 14 3 + 1, sy := dw w 1 11 3 + 1
    kw := dw w 1 7 4 + 1, kh := dw w 1 3 4 + 1, pl := dw w 2 24 8, pt := dw w 2 16 8, dx := dw w 2 8 8 + 1, dy := dw w 2 0 8 + 1
    w := dw w 3 16 16, h := dw w 3 0 16, ow := dw w 4 16 16, oh := dw w 4 0 16, rp := dw w 5 0 24
    ocpl := dw w 6 11 4, cin := dw w 6 4 7 + 1, cpl := dw w 6 0 4, pstart := dw w 7 0 24 }

/-- Regroup factors: code c stands for 2^c, 1 when none. -/
def WinF.r (f : WinF) : Nat := 2 ^ f.irg
def WinF.ro (f : WinF) : Nat := 2 ^ f.org

/-- Extents in regrouped pixels (R239). -/
def WinF.hr (f : WinF) : Nat := f.h / f.r
def WinF.wr (f : WinF) : Nat := f.w / f.r

/-- The reason WINCFG is rejected, 0 when it passes (R236); reserved bits are those of R235. -/
def winReason (w : List Nat) : Nat :=
  let f := winF w
  if dw w 0 19 13 ≠ 0 || dw w 1 23 1 ≠ 0 || dw w 5 24 8 ≠ 0 || dw w 6 15 17 ≠ 0 || dw w 7 24 8 ≠ 0
      || f.kh = 16 || f.kw = 16 || f.dy = 256 || f.dx = 256 || 8 < f.cpl || 8 < f.ocpl || (f.org = 0 && f.ocpl ≠ 0) then 2
  else if dw w 1 0 3 = 0 || f.h = 0 || f.w = 0 || f.oh = 0 || f.ow = 0 || f.rp = 0 || f.rp % 2 ^ f.cpl ≠ 0
      || f.h % f.r ≠ 0 || f.w % f.r ≠ 0 || f.cin % (f.r * f.r) ≠ 0 || 2 ^ f.cpl < f.cin / (f.r * f.r) || f.oh * f.ow ≤ f.pstart then 3
  else 0

/-- The coordinate substituted for i in an extent e (R239). -/
def reflectAt (i : Int) (e : Nat) : Int := if i < 0 then -i else if (e : Int) ≤ i then 2 * ((e : Int) - 1) - i else i
def replicateAt (i : Int) (e : Nat) : Int := min (max i 0) ((e : Int) - 1)

/-- Element c of tap t for output position q (R237, R239, R242): a local address, or a pad byte. -/
def WinF.elem (f : WinF) (asrc q t c : Nat) : Nat ⊕ Nat :=
  let iy : Int := (q / f.ow * f.sy : Nat) - (f.pt : Int) + (t / f.kw * f.dy : Nat)
  let ix : Int := (q % f.ow * f.sx : Nat) - (f.pl : Int) + (t % f.kw * f.dx : Nat)
  let inside := decide (0 ≤ iy) && decide (iy < f.hr) && decide (0 ≤ ix) && decide (ix < f.wr)
  if !inside && f.pmode = 0 then .inr 0
  else if !inside && f.pmode = 1 then .inr f.pval
  else
    let y := (if f.pmode = 2 then replicateAt iy f.hr else if f.pmode = 3 then reflectAt iy f.hr else iy).toNat
    let x := (if f.pmode = 2 then replicateAt ix f.wr else if f.pmode = 3 then reflectAt ix f.wr else ix).toNat
    let c0 := f.cin / (f.r * f.r)
    .inl (asrc + (f.r * y + c / c0 / f.r) * f.rp + (f.r * x + c / c0 % f.r) * 2 ^ f.cpl + c % c0)

/-- Cursor registers of walker slot w (R251). -/
def State.winPos (s : State) (n w : Nat) : Nat := s.fld (Reg.DOME_WIN_POS n w) 0 24
def State.winTap (s : State) (n w : Nat) : Nat := s.fld (Reg.DOME_WIN_TAP n w) 0 8
def State.winInseq (s : State) (n w : Nat) : Bool := s.bit (Reg.DOME_WIN_TAP n w) 30
def State.winLoaded (s : State) (n w : Nat) : Bool := s.bit (Reg.DOME_WIN_TAP n w) 31
def State.winSeqp (s : State) (n w : Nat) : Nat := s.fld (Reg.DOME_WIN_TAP n w) 8 8 + 1

/-- The words of walker slot w, W0 first. -/
def State.winWords (s : State) (n w : Nat) : List Nat := Tab.get (fun _ => []) (s.dome n).win w

/-- Element e of activation vector p of a RUN: a local address or a pad byte (R207, R237). -/
def State.runElem (s : State) (n : Nat) (f : RunF) (p e : Nat) : Nat ⊕ Nat :=
  if f.win = 0 then .inl (f.asrc + p * f.astride * 128 + e)
  else
    let w := winF (s.winWords n f.win)
    w.elem f.asrc (s.winPos n f.win + p) (s.winTap n f.win + e / w.cin) (e % w.cin)

/-- Elements of a vector that the RUN reads: the dense walker reads the 128 bytes, the window walker K elements. -/
def RunF.elems (f : RunF) : Nat := if f.win = 0 then 128 else f.k

/-- Local addresses of the bytes of vector p. -/
def State.runAddrs (s : State) (n : Nat) (f : RunF) (p : Nat) : List Nat :=
  (List.range f.elems).filterMap (fun e => match s.runElem n f p e with
    | .inl a => some a
    | .inr _ => none)

/-- The distinct numbers of a list, first occurrences first. -/
def firsts (l : List Nat) : List Nat := (l.foldl (fun acc x => if acc.contains x then acc else x :: acc) []).reverse

/-- Local block numbers of vector p of a RUN, in order of first need (R245). -/
def State.posBlocks (s : State) (n : Nat) (f : RunF) (p : Nat) : List Nat := firsts ((s.runAddrs n f p).map (· / 256))

/-- The footprint: local block numbers of a RUN's activations, in order of first need (R213, R245). -/
def State.runBlocks (s : State) (n : Nat) (f : RunF) : List Nat :=
  firsts ((List.range f.p).flatMap (fun p => (s.runAddrs n f p).map (· / 256)))

/-! ### Output addresses (R207, R243, R249) -/

/-- The fields of pooling slot word w (R208): window and stride, and AVG. -/
def poolPh (w : Nat) : Nat := w / 2 ^ 6 % 8 + 1
def poolPw (w : Nat) : Nat := w / 2 ^ 3 % 8 + 1
def poolSy (w : Nat) : Nat := w / 2 ^ 12 % 8 + 1
def poolSx (w : Nat) : Nat := w / 2 ^ 9 % 8 + 1
def poolAvg (w : Nat) : Bool := w / 2 ^ 2 % 2 == 1

/-- Word of pooling slot k. -/
def State.poolWord (s : State) (n k : Nat) : Nat := Tab.get (fun _ => 0) (s.dome n).pool k

/-- Rows and columns of pooled outputs of a RUN (R249). -/
def poolRows (rr w : Nat) : Nat := if rr < poolPh w then 0 else (rr - poolPh w) / poolSy w + 1
def poolCols (ow w : Nat) : Nat := if ow < poolPw w then 0 else (ow - poolPw w) / poolSx w + 1

/-- Number of outputs positions written: pooled ones when PEN (R249). -/
def State.runOuts (s : State) (n : Nat) (f : RunF) : Nat :=
  if !f.outs then 0
  else if f.pen then
    let w := s.poolWord n f.pool
    let ow := (winF (s.winWords n f.win)).ow
    poolRows (f.p / ow) w * poolCols ow w
  else f.p

/-- Local address of the bytes of column c of output j (R207, R243). -/
def State.outAddr (s : State) (n : Nat) (f : RunF) (j c : Nat) : Nat :=
  let w := winF (s.winWords n f.win)
  if f.win ≠ 0 && w.org ≠ 0 then
    let q := s.winPos n f.win + j
    let oc := f.n / (w.ro * w.ro)
    let d := c / oc
    f.odst + (w.ro * (q / w.ow) + d / w.ro) * (f.ostride * 64) + (w.ro * (q % w.ow) + d % w.ro) * 2 ^ w.ocpl + c % oc
  else f.odst + j * f.ostride * 64 + c * f.osize

/-- Every byte that the RUN writes has W permission through its task window (R209 reason 0x0004). -/
def State.runWritesOk (s : State) (n : Nat) (f : RunF) : Bool :=
  (List.range (s.runOuts n f)).all (fun j => (List.range f.n).all (fun c =>
    s.outAddr n f j c + f.osize ≤ 2 ^ 24 && (s.translate n (s.outAddr n f j c) f.osize 1).isSome))

/-- Every byte that the RUN reads has R permission. -/
def State.runReadsOk (s : State) (n : Nat) (f : RunF) : Bool :=
  (List.range f.p).all (fun p => (s.runAddrs n f p).all (fun a => a < 2 ^ 24 && (s.translate n a 1 0).isSome))

/-! ### Checks of a walker RUN (R241, R244) -/

/-- An overhang of R241. -/
def overhang (o st pad k d e : Nat) : Nat := (((o - 1) * st + (k - 1) * d : Nat) - (pad : Int) - ((e : Int) - 1)).toNat

/-- The reason 0x0010 to 0x0018 of a walker RUN, 0 when it passes (R238, R241, R244). -/
def State.walkReason (s : State) (n : Nat) (f : RunF) : Nat :=
  let w := winF (s.winWords n f.win)
  let tap := s.winTap n f.win
  let pos := s.winPos n f.win
  let inseq := s.winInseq n f.win
  let nt := f.k / w.cin
  let kk := w.kh * w.kw
  let c0 := w.cin / (w.r * w.r)
  let pw := s.poolWord n f.pool
  if f.k % w.cin ≠ 0 || kk < tap + nt then 0x10
  else if (f.acc = 0 && (inseq || nt ≠ kk)) || (f.acc = 1 && inseq) || (f.acc = 2 && !inseq) || (f.acc = 3 && (!inseq || tap + nt ≠ kk)) then 0x11
  else if 2 ≤ f.acc && f.p ≠ s.winSeqp n f.win then 0x12
  else if w.oh * w.ow < pos + f.p then 0x13
  else if w.pmode = 3 &&
      (w.hr ≤ w.pt || w.hr ≤ overhang w.oh w.sy w.pt w.kh w.dy w.hr || w.wr ≤ w.pl || w.wr ≤ overhang w.ow w.sx w.pl w.kw w.dx w.wr) then 0x14
  else if 256 < (s.runBlocks n f).length then 0x15
  else if 2 ^ w.cpl < f.asrc % 2 ^ w.cpl + c0 then 0x16
  else if f.pen && (!f.outs || f.osize = 4 || w.org ≠ 0 || pos % w.ow ≠ 0 || f.p % w.ow ≠ 0 || f.p / w.ow < poolPh pw || w.ow < poolPw pw
      || 1024 < poolPh pw * w.ow) then 0x17
  else if w.org ≠ 0 && (f.osize = 4 || f.n % (w.ro * w.ro) ≠ 0 || 2 ^ w.ocpl < f.n / (w.ro * w.ro) || f.odst % 256 ≠ 0 || f.ostride % 4 ≠ 0
      || 256 < w.ro * 2 ^ w.ocpl) then 0x18
  else 0

/-- The cursors of the slot at the completion of a walker RUN (R238). -/
def State.walkAdvance (s : State) (n : Nat) (f : RunF) : State :=
  let w := winF (s.winWords n f.win)
  let kk := w.kh * w.kw
  let nt := f.k / w.cin
  let a := Reg.DOME_WIN_TAP n f.win
  let ap := Reg.DOME_WIN_POS n f.win
  let pos' := if s.winPos n f.win + f.p = w.oh * w.ow then 0 else s.winPos n f.win + f.p
  let tap' := (s.winTap n f.win + nt) % kk
  match f.acc with
  | 0 => s.setReg ap (w32 (pos' % 2 ^ 24))
  | 1 => s.setReg a (putFld (putFld (putBit (s.reg a) 30 true) 8 8 (f.p - 1)) 0 8 tap')
  | 2 => s.setFld a 0 8 tap'
  | _ => (s.setReg a (putFld (putBit (s.reg a) 30 false) 0 8 0)).setReg ap (w32 (pos' % 2 ^ 24))

end Sys2Proof.Machine
end

