-- ==== Sys2Proof/Machine/Dome.lean ====
section
/-! DEFINITION. The dome (R190 to R213, R234 to R250): issue and checks of descriptors, weight and table loads, the passes of a RUN with the
output stage and pooling, refusals and poison. A RUN reads, converts and writes position by position; a load reads the vault at its completion (log entry 30). -/

namespace Sys2Proof.Machine

/-- Physical offset that a checked local address names (R177). -/
def State.phys (s : State) (n a : Nat) : Nat :=
  (bitsOf (s.reg (Reg.VLT_TB_BASE n (a / 2 ^ 22 % 4))) 12 12 * 4096 + a % 2 ^ 22) % 2 ^ 24

/-- A descriptor is in progress. -/
def Dome.inProgress (d : Dome) : Bool := d.run.isSome || d.lw.isSome || d.tl.isSome

/-- BLK_STAT.BUSY of page 6 (R215). -/
def State.domeBusy (s : State) (n : Nat) : Bool := (s.dome n).inProgress || !(s.dome n).queue.isEmpty

/-- DOME_STAT (R215). -/
def State.domeStat (s : State) (n : Nat) : Word :=
  let d := s.dome n
  let b := fun (k : Nat) (x : Bool) => if x then 2 ^ k else 0
  let t := match d.queue with
    | [] => 0
    | ws :: _ => descType ws
  w32 (t * 2 ^ 16 + b 8 d.halt + b 7 d.actValid + b 6 d.shFull + b 5 d.run.isSome + b 4 (d.lw.isSome || d.tl.isSome) + d.queue.length)

/-- The words of the last DESC_INVALID or ACCESS_REFUSED (R209, R210). -/
def State.domeErrWords (s : State) (n : Nat) (ws : List Nat) : State :=
  (List.range 8).foldl (fun t k => t.setReg (Reg.DOME_ERR_D n k) (w32 (ws.getD k 0))) s

/-- A rejected descriptor (R209): it leaves the queue, which halts. -/
def State.domeReject (s : State) (n : Nat) (ws : List Nat) (reason : Nat) : State :=
  (((s.domeErrWords n ws).err (domePage n) 0x70 (descType ws) reason).raise (domePage n) 1).modDome n
    (fun d => { d with queue := d.queue.tail, halt := true })

/-- A refused request of the descriptor ws at physical offset p (R185, R210). -/
def State.domeRefuse (s : State) (n : Nat) (ws : List Nat) (p : Nat) (write : Bool) : State :=
  ((((s.offAccess n p 0 write).domeErrWords n ws).err (domePage n) 0x71 (descType ws) ((p / 256) % 2 ^ 16)).raise (domePage n) 2).modDome n
    (fun d => { d with halt := true })

/-- A poisoned block read by the descriptor ws (R211). -/
def State.domePoison (s : State) (n : Nat) (ws : List Nat) (p : Nat) : State :=
  (s.err (domePage n) 0x72 (descType ws) ((p / 256) % 2 ^ 16)).raise (domePage n) 3

/-- Completion of a descriptor (R203): EVT and IRQ of its W0. -/
def State.domeDone (s : State) (n : Nat) (ws : List Nat) : State :=
  let t := if dw ws 0 9 1 = 1 then s.evtAdd n (dw ws 0 10 9) 1 else s
  if dw ws 0 8 1 = 1 then t.raise (domePage n) 0 else t

/-- A write of DOME_CTL (R209, R215). -/
def State.domeCtl (s : State) (n : Nat) (v : Word) : State :=
  s.modDome n (fun d => { d with halt := d.halt && !bitOf v 0, queue := if bitOf v 1 then [] else d.queue })

/-! ### Checks at issue (R209) -/

/-- Every byte of [a, a + len) lies inside a task window that permits the access. -/
def State.rangeOk (s : State) (n a len perm : Nat) : Bool :=
  a + len ≤ 2 ^ 24 && (cutBlocks a len).all (fun q => (s.translate n q.1 q.2 perm).isSome)

/-- Words lo to 7 of a descriptor are 0. -/
def restZero (ws : List Nat) (lo : Nat) : Bool := (ws.drop lo).all (· == 0)

/-- Reserved bits of W0 are 0. -/
def w0Ok (ws : List Nat) : Bool := dw ws 0 19 13 == 0

/-- Blocks and bytes of a weight tile by CODE and GSZ (R194). -/
def tileBlocks (code : Nat) : Nat := if code = 0 then 17 else if code = 1 then 33 else 32
def gszOf (g : Nat) : Nat := 32 * 2 ^ g
def tileBytes (code g : Nat) : Nat := (if code = 0 then 4096 else 8192) + (if code ≤ 1 then 64 * 128 / gszOf g else 0)

/-- The address that a vault LOADW of WSRC a reads from (R226). -/
def State.redirect (s : State) (n a : Nat) : Nat :=
  match (List.range 4).find? (fun r =>
    s.bit (Reg.DOME_WREG_CTL n r) 0 && s.fld (Reg.DOME_WREG_BASE0 n r) 8 16 * 256 ≤ a
      && a < s.fld (Reg.DOME_WREG_BASE0 n r) 8 16 * 256 + s.fld (Reg.DOME_WREG_LEN n r) 8 16 * 256) with
  | some r =>
    let b0 := s.fld (Reg.DOME_WREG_BASE0 n r) 8 16 * 256
    if s.bit (Reg.DOME_WREG_CTL n r) 1 then s.fld (Reg.DOME_WREG_BASE1 n r) 8 16 * 256 + (a - b0) else a
  | none => a

/-- Global address of a LOADW through the Lantern. -/
def gaddr (ws : List Nat) : Nat := dw ws 3 0 16 <<< 32 + dw ws 2 0 32

/-- Reason a LOADW is rejected, 0 when it passes. -/
def State.loadwReason (s : State) (n : Nat) (ws : List Nat) : Nat :=
  let code := dw ws 4 0 2
  let lan := dw ws 1 24 1 == 1
  let d := s.dome n
  if !w0Ok ws || dw ws 1 25 7 ≠ 0 || dw ws 3 16 16 ≠ 0 || dw ws 4 7 25 ≠ 0 || !restZero ws 5
      || (lan && dw ws 1 0 24 ≠ 0) || (!lan && dw ws 2 0 32 ≠ 0)
      || (code ≤ 1 && dw ws 4 5 2 = 3) || (2 ≤ code && (dw ws 4 5 2 ≠ 0 || dw ws 4 2 3 ≠ 0)) then 2
  else if (lan && dw ws 2 0 8 ≠ 0) || (!lan && (dw ws 1 0 8 ≠ 0 || !s.rangeOk n (s.redirect n (dw ws 1 0 24)) (256 * tileBlocks code) 0)) then 4
  else if d.shFull || d.lw.isSome then 9
  else 0

/-- The bank a RUN uses. -/
def Dome.bankFor (d : Dome) (swap : Bool) : Bank := if swap then d.shadow else d.active

/-- Reason a RUN is rejected, 0 when it passes (R209, R244). -/
def State.runReason (s : State) (n : Nat) (ws : List Nat) : Nat :=
  let f := runF ws
  let d := s.dome n
  let org := if f.win = 0 then 0 else (winF (s.winWords n f.win)).org
  let walker := f.win = 0 || s.winLoaded n f.win
  let ready := walker && (!f.pen || (d.pool.any (fun e => e.1 == f.pool)))
  if !w0Ok ws || dw ws 1 27 5 ≠ 0 || dw ws 2 24 8 ≠ 0 || (f.win ≠ 0 && f.astride ≠ 0) || dw ws 4 30 2 ≠ 0 || dw ws 5 27 5 ≠ 0
      || dw ws 6 18 14 ≠ 0 || !restZero ws 7 || f.ofmt = 3 || (!f.int && f.zo ≠ 0) then 2
  else if (f.win = 0 && f.astride = 0) || f.ostride = 0 || (64 ≤ f.otns && f.otns ≠ 127) || (64 ≤ f.itns && f.itns ≠ 127)
      || 1024 < f.chb + f.n then 3
  else if (f.win = 0 && f.asrc % 128 ≠ 0) || (org = 0 && f.odst % (64 * f.osize) ≠ 0)
      || (walker && !s.runReadsOk n f) || (ready && !s.runWritesOk n f) then 4
  else if (f.swap && !d.shFull) || (!f.swap && !d.actValid) then 5
  else if f.acc ≠ 0 && 256 < f.p then 6
  else if (f.int != decide (2 ≤ (d.bankFor f.swap).kind)) || (f.int && 2 ≤ f.act) || (org = 0 && f.osize = 4 && f.ostride % 4 ≠ 0)
      || (f.pen && f.win = 0) then 7
  else if !ready then 8
  else if f.win ≠ 0 then s.walkReason n f
  else 0

/-- Reason a table or slot descriptor is rejected (R208, R209, R236). -/
def State.tableReason (s : State) (n : Nat) (ws : List Nat) : Nat :=
  match descType ws with
  | 3 =>
    if !w0Ok ws || dw ws 1 28 4 ≠ 0 || !restZero ws 2 then 2
    else if dw ws 1 0 8 ≠ 0 || !s.rangeOk n (dw ws 1 0 24) (if dw ws 1 27 1 = 1 then 256 else 512) 0 then 4 else 0
  | 4 =>
    if !w0Ok ws || dw ws 1 24 8 ≠ 0 || dw ws 2 21 11 ≠ 0 || !restZero ws 3 then 2
    else if dw ws 2 10 11 = 0 || 1024 < dw ws 2 10 11 || 1024 < dw ws 2 0 10 + dw ws 2 10 11 then 3
    else if dw ws 1 0 8 ≠ 0 || !s.rangeOk n (dw ws 1 0 24) ((16 * dw ws 2 10 11 + 255) / 256 * 256) 0 then 4 else 0
  | 5 =>
    if !w0Ok ws || dw ws 1 26 6 ≠ 0 || !restZero ws 2 then 2
    else if dw ws 1 0 8 ≠ 0 || !s.rangeOk n (dw ws 1 0 24) (9 * 256) 0 then 4 else 0
  | 6 => if !w0Ok ws || dw ws 1 15 17 ≠ 0 || !restZero ws 2 then 2 else 0
  | 7 => winReason ws
  | 8 => if !w0Ok ws || !restZero ws 1 then 2 else 0
  | _ => 1

/-! ### Issue (R202, R204, R205) -/

/-- The head of the queue, when the common conditions of R204 hold. -/
def State.domeHead (s : State) (n : Nat) : Option (List Nat) :=
  let d := s.dome n
  if s.bit (hdr (domePage n) 8) 0 && !d.halt && d.tl.isNone then d.queue.head? else none

/-- An active exponent read by a RUN: of its output tensor, or of its input tensor under ILAG (R205, R218). -/
def State.tnsExp (s : State) (n t : Nat) (input : Bool) : Int :=
  if 64 ≤ t then 0
  else
    let e := s.reg (Reg.DOME_TNS_EXP n t)
    if input && s.bit (Reg.DOME_TNS_CFG n t) 6 then twos (bitsOf e 8 7) 7 else twos (bitsOf e 0 7) 7

/-- LOADW issues (R204, R206, R226). -/
def State.loadwIssue (s : State) (n : Nat) : State :=
  match s.domeHead n with
  | none => s
  | some ws =>
    if descType ws ≠ 1 then s
    else
      let r := s.loadwReason n ws
      if r ≠ 0 then s.domeReject n ws r
      else s.modDome n (fun d => { d with
        queue := d.queue.tail
        lw := some { words := ws, src := if dw ws 1 24 1 = 1 then gaddr ws else s.redirect n (dw ws 1 0 24), got := [], sent := 0 } })

/-- RUN issues (R204, R205, R207): it waits while a RUN is in progress, and with SWAP for the LOADW that fills SHADOW. -/
def State.runIssue (s : State) (n : Nat) : State :=
  match s.domeHead n with
  | none => s
  | some ws =>
    let f := runF ws
    let d := s.dome n
    if descType ws ≠ 2 || d.run.isSome || (f.swap && !d.shFull && d.lw.isSome) then s
    else
      let r := s.runReason n ws
      if r ≠ 0 then s.domeReject n ws r
      else s.modDome n (fun d =>
        let e := if f.swap then { d with active := d.shadow, shadow := Bank.reset, actValid := true, shFull := false } else d
        { e with queue := e.queue.tail, run := some (RunSt.start ws (s.tnsExp n f.itns true) (s.tnsExp n f.otns false)) })

/-- The walker slot that a WINCFG loads (R234 to R237). -/
def State.winLoad (s : State) (n : Nat) (ws : List Nat) : State :=
  let k := dw ws 1 0 3
  ((s.setReg (Reg.DOME_WIN_POS n k) (w32 (winF ws).pstart)).setReg (Reg.DOME_WIN_TAP n k) (w32 (2 ^ 31))).modDome n
    (fun d => { d with win := Tab.set (fun _ => []) d.win k ws })

/-- A table load, slot load or MARK of type ty issues (R204, R208): POOLCFG, WINCFG and MARK complete at once. A reserved TYPE waits
for no completion before it is rejected. -/
def State.tableIssue (s : State) (n ty : Nat) : State :=
  match s.domeHead n with
  | none => s
  | some ws =>
    let d := s.dome n
    let mine := descType ws == ty || (ty == 8 && (descType ws == 0 || 8 < descType ws))
    if !mine || ((d.run.isSome || d.lw.isSome) && 3 ≤ descType ws && descType ws ≤ 8) || (ty = 3 && d.upd ≠ 0) then s
    else
      let r := s.tableReason n ws
      if r ≠ 0 then s.domeReject n ws r
      else
        let t := s.modDome n (fun d => { d with queue := d.queue.tail })
        if ty ≤ 5 then t.modDome n (fun d => { d with tl := some { words := ws, src := dw ws 1 0 24, got := [], sent := 0 } })
        else if ty = 6 then
          (t.modDome n (fun d => { d with pool := Tab.set (fun _ => 0) d.pool (dw ws 1 0 2) (2 ^ 15 + dw ws 1 0 15) })).domeDone n ws
        else if ty = 7 then (t.winLoad n ws).domeDone n ws
        else t.domeDone n ws

/-! ### Reads of loads -/

/-- Block i of the load l, once it has come: its bytes and poison. -/
def LoadSt.block (l : LoadSt) (i : Nat) : List Byte × Bool := Tab.get (fun _ => ([], false)) l.got i

/-- The first b blocks of the load l: their bytes and whether one is poisoned. -/
def LoadSt.data (l : LoadSt) (b : Nat) : List Byte × Bool :=
  ((List.range b).flatMap (fun i => (l.block i).1), (List.range b).any (fun i => (l.block i).2))

/-- The load l reads cnt further blocks from the vault, in address order (R174, R206, R208, R210, R211): none when a block is refused, which ends the
descriptor. -/
def State.loadBlocks (s : State) (n : Nat) : Nat → LoadSt → Option LoadSt × State
  | 0, l => (some l, s)
  | cnt + 1, l =>
    let p := s.phys n (l.src + 256 * l.got.length)
    match s.vaultRead n p 256 0 with
    | none => (none, s.domeRefuse n l.words p false)
    | some (data, bad, t) =>
      (if bad.isEmpty then t else t.domePoison n l.words p).loadBlocks n cnt { l with got := l.got ++ [(l.got.length, (data, !bad.isEmpty))] }

/-- A byte of a list. -/
def byteAt (l : Array Byte) (i : Nat) : Nat := (l.getD i 0).toNat

/-- The code of row r, column c of a tile (R194). -/
def tileCode (data : Array Byte) (code r c : Nat) : Nat :=
  if code = 0 then byteAt data (64 * c + r / 2) / (if r % 2 = 0 then 1 else 16) % 16 else byteAt data (128 * c + r)

/-- The group scale of row r, column c of a tile (R194). -/
def tileScale (data : Array Byte) (code g r c : Nat) : Nat :=
  byteAt data ((if code = 0 then 4096 else 8192) + c * (128 / gszOf g) + r / gszOf g)

/-- The bank that a tile fills (R193, R206). -/
def Dome.fillBank (d : Dome) (ws : List Nat) (data : List Byte) (pois : Bool) : Bank :=
  let code := dw ws 4 0 2
  let slot := dw ws 4 2 3
  let arr := data.toArray
  let cell := fun i =>
    let r := i / 64
    let c := i % 64
    if code ≤ 1 then
      Tab.get (fun _ => 0) d.cb (256 * slot + tileCode arr code r c) % 4096 + 4096 * tileScale arr code (dw ws 4 5 2) r c
    else tileCode arr code r c
  { kind := if code ≤ 1 then 1 else code
    pois := pois || (code ≤ 1 && d.cbPois.contains slot)
    w := (List.range 8192).filterMap (fun i => if cell i = 0 then none else some (i, cell i)) }

/-- The LOADW l, whose blocks have come, completes (R205, R206, R211). -/
def State.loadwFill (s : State) (n : Nat) (l : LoadSt) : State :=
  let x := l.data (tileBlocks (dw l.words 4 0 2))
  ((s.modDome n (fun d => { d with lw := none, shFull := true, shadow := d.fillBank l.words x.1 x.2 })).bump (Reg.DOME_LOADW_CNT n)).domeDone n l.words

/-- LOADW_COMPLETE (R205, R206, R210 to R212): the LOADW completes or, before that, has read upTo of its blocks from the vault. One through the Lantern
completes once every block has arrived. -/
def State.loadwComplete (s : State) (n : Nat) (upTo : Option Nat) : State :=
  match (s.dome n).lw with
  | none => s
  | some l =>
    let b := tileBlocks (dw l.words 4 0 2)
    if dw l.words 1 24 1 = 1 then
      if upTo.isNone && (List.range b).all (fun i => l.got.any (fun e => e.1 == i)) then
        ((List.range b).foldl (fun (t : State) i => if (l.block i).2 then t.domePoison n l.words (gaddr l.words + 256 * i) else t) s).loadwFill n l
      else s
    else
      match s.loadBlocks n (Nat.min (upTo.getD b) b - l.got.length) l with
      | (none, t) => t.modDome n (fun d => { d with lw := none })
      | (some l', t) => if upTo.isNone then t.loadwFill n l' else t.modDome n (fun d => { d with lw := some l' })

/-- Entries of a table loaded from data, as pairs of key and value. -/
def loadEntries (data : List Byte) (base cnt step off len : Nat) : List (Nat × Nat) :=
  let arr := data.toArray
  (List.range cnt).map (fun i => (base + i, (List.range len).foldr (fun j v => byteAt arr (off + step * i + j) + 256 * v) 0))

/-- Stores loaded entries in a sparse table. -/
def setEntries (t : List (Nat × Nat)) (es : List (Nat × Nat)) : List (Nat × Nat) := es.foldl (fun t e => Tab.set (fun _ => 0) t e.1 e.2) t

/-- A mark set or cleared. -/
def mark (l : List Nat) (k : Nat) (b : Bool) : List Nat := if b then NatSet.insert l k else NatSet.erase l k

/-- The table or slot that a completed load fills (R208, R211). -/
def Dome.fillTable (d : Dome) (ws : List Nat) (data : List Byte) (pois : Bool) : Dome :=
  match descType ws with
  | 3 =>
    let slot := dw ws 1 24 3
    let cnt := if dw ws 1 27 1 = 1 then 16 else 256
    { d with
      cb := setEntries d.cb ((loadEntries data (256 * slot) cnt 2 0 2).map (fun e => (e.1, e.2 % 4096)))
      cbPois := mark d.cbPois slot pois }
  | 4 => { d with rs := setEntries d.rs (loadEntries data (dw ws 2 0 10) (dw ws 2 10 11) 16 0 16), rsPois := pois }
  | _ =>
    let slot := dw ws 1 24 2
    let es := (loadEntries data (1024 * slot) 516 4 0 4).map (fun e => (e.1, w32 e.2))
    { d with
      af := es.foldl (fun t e => Tab.set (fun _ => (0 : Word)) t e.1 e.2) d.af
      afPois := mark d.afPois slot pois }

/-- Blocks that a table load reads (R208). -/
def tableBlocks (ws : List Nat) : Nat :=
  match descType ws with
  | 3 => if dw ws 1 27 1 = 1 then 1 else 2
  | 4 => (16 * dw ws 2 10 11 + 255) / 256
  | _ => 9

/-- TABLE_LOAD_COMPLETE (R208, R210, R211): the load completes or, before that, has read upTo of its blocks. -/
def State.tableComplete (s : State) (n : Nat) (upTo : Option Nat) : State :=
  match (s.dome n).tl with
  | none => s
  | some l =>
    let b := tableBlocks l.words
    match s.loadBlocks n (Nat.min (upTo.getD b) b - l.got.length) l with
    | (none, t) => t.modDome n (fun d => { d with tl := none })
    | (some l', t) =>
      if upTo.isNone then
        let x := l'.data b
        (t.modDome n (fun d => { d.fillTable l.words x.1 x.2 with tl := none })).domeDone n l.words
      else t.modDome n (fun d => { d with tl := some l' })

/-! ### A RUN's sums (R191, R195, R196) -/

/-- What a RUN reads from: activation bytes and poison as its reads found them (R174, R247). -/
structure RunIn where
  elem : Nat → Nat → Nat
  taint : Nat → Bool

/-- Block b as the RUN r in progress read it: bytes and poisoned words. -/
def RunSt.block (r : RunSt) (b : Nat) : List Byte × List Nat := Tab.get (fun _ => ([], [])) r.buf b

/-- The activations of the RUN r. -/
def State.runIn (s : State) (n : Nat) (f : RunF) (r : RunSt) : RunIn :=
  { elem := fun p e => match s.runElem n f p e with
      | .inl a => ((r.block (a / 256)).1.getD (a % 256) 0).toNat
      | .inr v => v
    taint := fun p => (s.runAddrs n f p).any (fun a => (r.block (a / 256)).2.contains (a % 256 / 8)) }

/-- Cell of row r, column c of a bank. -/
def Bank.cell (b : Bank) (r c : Nat) : Nat := Tab.get (fun _ => 0) b.w (64 * r + c)

/-- The main-path sum of position p, column c from init (R191, R195). -/
def sumF (b : Bank) (f : RunF) (x : RunIn) (p c : Nat) (init : Word) : Word :=
  (List.range f.k).foldl (fun acc r =>
    let w := b.cell r c
    rnd ((f32 acc).add ((fp8 f.afmt (x.elem p r)).mul (weightVal (w % 4096) (w / 4096))))) init

/-- An 8-bit integer, unsigned or signed. -/
def int8 (uns : Bool) (v : Nat) : Int := if uns then (v % 256 : Nat) else twos v 8

/-- The INT8 sum of position p, column c from init, modulo 2^32 (R196). -/
def sumI (b : Bank) (f : RunF) (x : RunIn) (p c : Nat) (init : Word) : Word :=
  (List.range f.k).foldl (fun acc r => acc + BitVec.ofInt 32 (int8 f.afmt (x.elem p r) * int8 (b.kind == 3) (b.cell r c))) init

/-- The row sum of position p from init (R196). -/
def sumA (f : RunF) (x : RunIn) (p : Nat) (init : Word) : Word :=
  (List.range f.k).foldl (fun acc r => acc + BitVec.ofInt 32 (int8 f.afmt (x.elem p r))) init

/-! ### The output stage (R197 to R200) -/

/-- One converted element: the output code or word, whether it clipped, whether it is a NaN that was converted, and the value z of the main path. -/
structure OutEl where
  q : Nat
  clip : Bool
  nan : Bool
  z : Word

/-- A word of activation slot AFT. -/
def Dome.afWord (d : Dome) (slot k : Nat) : Word := Tab.get (fun _ => 0) d.af (1024 * slot + k)

/-- floor(m × 2^e × ±1) limited to 0 to 255. -/
def pwlIndex (v : FVal) : Nat :=
  match v with
  | .nan => 0
  | .inf s => if s then 0 else 255
  | .fin s m e => if s then 0 else Nat.min 255 (if 0 ≤ e then m * 2 ^ e.toNat else m / 2 ^ (-e).toNat)

/-- The activation functions (R199); fv is the free value used for an index or a bound that the spec does not state. -/
def Dome.act (d : Dome) (f : RunF) (y : Word) (fv : BitVec 64) : Word :=
  let v := f32 y
  let w := d.afWord f.aft
  if v.isNan then qnan
  else match f.act with
  | 0 => y
  | 1 => if v.le (.fin false 0 0) then 0 else y
  | 2 =>
    if (f32 (w 1)).isNan || (f32 (w 2)).isNan then fv.setWidth 32
    else
      let a := if (f32 (w 1)).above v then w 1 else y
      if (f32 a).above (f32 (w 2)) then w 2 else a
  | _ =>
    let df := (v.sub (f32 (w 0))).scale (-(twos (w 3).toNat 8))
    let i := if df.isNan then fv.toNat % 256 else pwlIndex df
    fmaF (w (4 + 2 * i)) y (w (5 + 2 * i))

/-- Word k of channel table entry e. -/
def Dome.rsWord (d : Dome) (e k : Nat) : Word := w32 (Tab.get (fun _ => 0) d.rs e / 2 ^ (32 * k))

/-- The main-path output of a sum (R198). -/
def Dome.outF (d : Dome) (f : RunF) (ein eout : Int) (c : Nat) (acc : Word) (fv : BitVec 64) : OutEl :=
  let a := scaleF acc ein
  let y := d.act f (fmaF a (d.rsWord (f.chb + c) 0) (d.rsWord (f.chb + c) 1)) fv
  let z := scaleF y (-eout)
  if f.ofmt = 2 then { q := z.toNat, clip := false, nan := false, z := z }
  else
    let (q, clip) := toFp8 (f.ofmt == 1) (f32 z)
    { q := q, clip := clip, nan := (f32 z).isNan, z := z }

/-- t / 2^s rounded half to even. -/
def rneDiv (t : Int) (s : Nat) : Int := sInt (decide (t < 0)) (rneShift t.natAbs s)

/-- The INT8 path's output of a sum (R197). -/
def Dome.outI (d : Dome) (f : RunF) (c : Nat) (acc sa : Word) : OutEl :=
  let e := f.chb + c
  let zw := twos (bitsOf (d.rsWord e 2) 0 16) 16
  let t : Int := acc.toInt + (d.rsWord e 1).toInt - zw * sa.toInt
  if f.ofmt = 2 then
    let q : Int := max (-(2 ^ 31)) (min (2 ^ 31 - 1) t)
    { q := (BitVec.ofInt 32 q).toNat, clip := false, nan := false, z := 0 }
  else
    let v := rneDiv (t * (d.rsWord e 0).toInt) (bitsOf (d.rsWord e 2) 16 6) + f.zo
    let v := if f.act = 1 then max v f.zo else v
    let lo : Int := if f.ofmt = 1 then 0 else -128
    let hi : Int := if f.ofmt = 1 then 255 else 127
    { q := (BitVec.ofInt 8 (max lo (min hi v))).toNat, clip := decide (v < lo) || decide (hi < v), nan := false, z := 0 }

/-- Largest finite of an FP8 format as binary32. -/
def fp8MaxWord (ofmt : Nat) : Word := if ofmt = 1 then 0x47600000 else 0x43E00000

/-- A statistic of tensor t of dome n counts one conversion (R216). -/
def TStat.count (x : TStat) (f : RunF) (o : OutEl) : TStat :=
  let mag := o.z &&& 0x7FFFFFFF
  let big := fp8MaxWord f.ofmt
  let m := if f.int || o.nan then x.max
    else if mag = 0x7F800000 then big
    else
      let v := if big.toNat ≤ mag.toNat then big else mag
      if x.max.toNat < v.toNat then v else x.max
  { conv := Nat.min 0xFFFFFFFF (x.conv + 1), clip := Nat.min 0xFFFFFFFF (x.clip + (if o.clip then 1 else 0)), max := m }

/-- The statistics since the last close (R216). -/
def TStat.zero : TStat := { conv := 0, clip := 0, max := 0 }

/-- Reports the converted elements of position p (R198 step 5, R211, R216): NaNs are counted, and unpoisoned elements enter the statistics. -/
def State.report (s : State) (n : Nat) (f : RunF) (p : Nat) (pois : Bool) (os : List OutEl) : State :=
  if f.ofmt = 2 then s
  else os.foldl (fun t o =>
    let t := if o.nan then ((t.bump (Reg.DOME_NAN n)).err (domePage n) 0x73 f.otns (p % 2 ^ 16)).raise (domePage n) 4 else t
    if pois || 64 ≤ f.otns then t
    else t.modDome n (fun d => { d with
      stats := Tab.set (fun _ => TStat.zero) d.stats f.otns ((Tab.get (fun _ => TStat.zero) d.stats f.otns).count f o) })) s

/-- The pooled code of the codes of a window in raster order (R200). -/
def poolCodes (f : RunF) (avg : Bool) (qs : List Nat) : Nat :=
  if f.int then
    let v := qs.map (int8 (f.ofmt == 1))
    if avg then
      let t := v.foldl (· + ·) 0
      let k := qs.length
      let a := t.natAbs
      let m := a / k + (if k < 2 * (a % k) || (2 * (a % k) = k && (a / k) % 2 = 1) then 1 else 0)
      (BitVec.ofInt 8 (sInt (decide (t < 0)) m)).toNat
    else (BitVec.ofInt 8 (v.foldl max (v.headD 0))).toNat
  else
    let fmt := f.ofmt == 1
    if avg then
      match qs.map (fun q => rnd (fp8 fmt q)) with
      | [] => 0
      | h :: t => (toFp8 fmt (f32 (divF (t.foldl addF h) (rnd (.fin false qs.length 0))))).1
    else if qs.any (fun q => (fp8 fmt q).isNan) then 0x7F
    else qs.foldl (fun m q => if (fp8 fmt q).above (fp8 fmt m) then q else m) (qs.headD 0)

/-! ### The course of a RUN -/

/-- Writes the cells of outputs of a RUN with the words pois poisoned (R187, R210, R211): blocks in address order; none when a block is refused. -/
def State.writeOut (s : State) (n : Nat) (cells : List (Nat × Byte)) (pois : List Nat) : Option Nat × State :=
  (blocksOf cells).foldl (fun (r : Option Nat × State) blk =>
    match r.1, blk with
    | some p, _ => (some p, r.2)
    | none, [] => (none, r.2)
    | none, c :: _ =>
      let p := c.1 - vaultAddr n 0
      if r.2.segOn n p then (none, r.2.vaultStore blk ((cellWords blk).filter (pois.contains ·)) 0) else (some p, r.2)) (none, s)

/-- Cells of output j of a RUN: the bytes of its columns. -/
def State.outCells (s : State) (n : Nat) (f : RunF) (j : Nat) (q : Nat → Nat) : List (Nat × Byte) :=
  (List.range f.n).flatMap (fun c => cellsAt (vaultAddr n (s.phys n (s.outAddr n f j c))) (leBytes (q c) f.osize))

/-- Every output of a RUN is poisoned by a mark of R211 on its bank, its channel table or its activation slot. -/
def Dome.marked (d : Dome) (f : RunF) : Bool := d.active.pois || (f.outs && (d.rsPois || (2 ≤ f.act && d.afPois.contains f.aft)))

/-- The sums of position p of a RUN: columns, row sum, and poison mark (R191, R196, R211). -/
def Dome.sums (d : Dome) (f : RunF) (x : RunIn) (p : Nat) : List Word × Word × Bool :=
  let old := fun c => if f.fresh then (0 : Word) else Tab.get (fun _ => 0) d.abuf (64 * p + c)
  let osa := if f.fresh then (0 : Word) else Tab.get (fun _ => 0) d.sa p
  ((List.range f.n).map (fun c => if f.int then sumI d.active f x p c (old c) else sumF d.active f x p c (old c)),
    if f.int then sumA f x p osa else osa,
    x.taint p || d.marked f || (!f.fresh && d.abufPois.contains p))

/-- The ABUF write of a FIRST or MID pass (R207). -/
def Dome.putAbuf (d : Dome) (p : Nat) (r : List Word × Word × Bool) : Dome :=
  { d with
    abuf := (r.1.zip (List.range r.1.length)).foldl (fun t e => Tab.set (fun _ => (0 : Word)) t (64 * p + e.2) e.1) d.abuf
    sa := Tab.set (fun _ => (0 : Word)) d.sa p r.2.1
    abufPois := mark d.abufPois p r.2.2 }

/-- ABUF is undefined after a refused FIRST or MID pass (R210): free values. -/
def State.abufLost (s : State) (n : Nat) : State :=
  let base := s.free
  let t := { s with free := s.free + 256 * 65 }
  t.modDome n (fun d => { d with
    abuf := (List.range 16384).foldl (fun l i => Tab.set (fun _ => (0 : Word)) l i ((Config.freeValue (base + i)).setWidth 32)) []
    sa := (List.range 256).foldl (fun l i => Tab.set (fun _ => (0 : Word)) l i ((Config.freeValue (base + 16384 + i)).setWidth 32)) [] })

/-- The converted elements of a position; its free values are those from base on. -/
def Dome.outs (d : Dome) (r : RunSt) (f : RunF) (base : Nat) (sums : List Word × Word × Bool) : List OutEl :=
  (sums.1.zip (List.range sums.1.length)).map (fun e =>
    if f.int then d.outI f e.2 e.1 sums.2.1 else d.outF f r.ein r.eout e.2 e.1 (Config.freeValue (base + e.2)))

/-- The positions of pooled output j, in raster order (R249). -/
def State.poolPositions (s : State) (n : Nat) (f : RunF) (j : Nat) : List Nat :=
  let w := s.poolWord n f.pool
  let ow := (winF (s.winWords n f.win)).ow
  let pc := poolCols ow w
  (List.range (poolPh w)).flatMap (fun y => (List.range (poolPw w)).map (fun x => (j / pc * poolSy w + y) * ow + (j % pc * poolSx w + x)))

/-- The outputs that are ready to be written once position p is converted, which are the codes of its columns and its poison: the position itself, or the
pooled outputs whose last position it is (R249). conv holds every position converted so far. -/
def State.readyOuts (s : State) (n : Nat) (f : RunF) (conv : List (List Nat × Bool)) (p : Nat) : List (Nat × (List Nat × Bool)) :=
  if f.pen then
    ((List.range (s.runOuts n f)).filter (fun j => (s.poolPositions n f j).getLast? == some p)).map (fun j =>
      let ps := (s.poolPositions n f j).map (fun q => conv.getD q ([], false))
      (j, (List.range f.n).map (fun c => poolCodes f (poolAvg (s.poolWord n f.pool)) (ps.map (fun x => x.1.getD c 0))), ps.any (·.2)))
  else [(p, conv.getLastD ([], false))]

/-- Number of block writes of a RUN, W of R213 and R246. -/
def State.runWrites (s : State) (n : Nat) (f : RunF) : Nat :=
  let w := winF (s.winWords n f.win)
  if !f.outs then 0
  else if f.win ≠ 0 && w.org ≠ 0 then w.ro * f.p
  else ((List.range (s.runOuts n f)).foldl (fun (a : Nat × Option Nat) j =>
    let b := s.outAddr n f j 0 / 256
    if a.2 = some b then a else (a.1 + 1, some b)) (0, none)).1

/-- Output j of a RUN completes the write that it belongs to (R213, R246): the next output lies in another block, or the reorganised output is written alone. -/
def State.outEnds (s : State) (n : Nat) (f : RunF) (j : Nat) : Bool :=
  (f.win != 0 && (winF (s.winWords n f.win)).org != 0) || s.runOuts n f ≤ j + 1 || s.outAddr n f (j + 1) 0 / 256 != s.outAddr n f j 0 / 256

/-- The cells of output o: its codes and poison. -/
def State.cellsOut (s : State) (n : Nat) (f : RunF) (o : Nat × (List Nat × Bool)) : List (Nat × Byte) := s.outCells n f o.1 (fun c => o.2.1.getD c 0)

/-- Ready outputs join those in q, which wait for their block, and a block that is complete is written, up to a refused one (R207, R210, R211, R213): the
refused offset, the outputs that wait on, and the state. -/
def State.writeOuts (s : State) (n : Nat) (f : RunF) (q : List (Nat × (List Nat × Bool))) : List (Nat × (List Nat × Bool)) →
    (Option Nat × List (Nat × (List Nat × Bool))) × State
  | [] => ((none, q), s)
  | o :: rest =>
    let q := q ++ [o]
    if s.outEnds n f o.1 then
      match s.writeOut n (q.flatMap (s.cellsOut n f)) ((q.filter (·.2.2)).flatMap (fun o => cellWords (s.cellsOut n f o))) with
      | (some p, t) => ((some p, []), t)
      | (none, t) => (t.bump (Reg.DOME_POISON_POS n) (q.filter (·.2.2)).length).writeOuts n f [] rest
    else s.writeOuts n f q rest

/-- A RUN of the descriptor ws ends without completing (R210, R213): cyc cycles it was in progress, and left positions have left the array since the last
one that was written. -/
def State.runRefused (s : State) (n : Nat) (ws : List Nat) (p : Nat) (write : Bool) (cyc left : Nat) : State :=
  let t := ((((s.domeRefuse n ws p write).modDome n (fun d => { d with run := none })).bump (Reg.DOME_ARRAY_CYC n) cyc).bump (Reg.DOME_POS_CNT n) left)
  if (runF ws).outs then t else t.abufLost n

/-- Applies g to the RUN in progress. -/
def State.modRun (s : State) (n : Nat) (g : RunSt → RunSt) : State := s.modDome n (fun d => { d with run := d.run.map g })

/-- The RUN reads block b once (R174, R210, R211, R245, R247). -/
def State.runFetch (s : State) (n b : Nat) : State :=
  match (s.dome n).run with
  | none => s
  | some r =>
    if r.buf.any (fun e => e.1 == b) then s
    else
      let p := s.phys n (256 * b)
      match s.vaultRead n p 256 0 with
      | none => s.runRefused n r.words p false r.fetched (Nat.min (runF r.words).p (r.fetched - 191) - r.pos)
      | some (data, bad, t) =>
        (if bad.isEmpty then t else t.domePoison n r.words p).modRun n (fun r => { r with buf := Tab.set (fun _ => ([], [])) r.buf b (data, bad.map (· % 32)) })

/-- The RUN reads the blocks of its vectors up to vector m, k at most of them. -/
def State.runFetchTo (s : State) (n m : Nat) : Nat → State
  | 0 => s
  | k + 1 =>
    match (s.dome n).run with
    | none => s
    | some r =>
      let f := runF r.words
      if r.fetched < Nat.min m f.p then
        (((s.posBlocks n f r.fetched).foldl (fun t b => t.runFetch n b) s).modRun n (fun r => { r with fetched := r.fetched + 1 })).runFetchTo n m k
      else s

/-- The RUN makes its reads one by one up to its m-th (R212), each the next block that its vectors below lim first need; k counts the steps. -/
def State.runReads (s : State) (n m lim : Nat) : Nat → State
  | 0 => s
  | k + 1 =>
    match (s.dome n).run with
    | none => s
    | some r =>
      let f := runF r.words
      if r.fetched < Nat.min lim f.p then
        match (s.posBlocks n f r.fetched).find? (fun b => !r.buf.any (fun e => e.1 == b)) with
        | none => (s.modRun n (fun r => { r with fetched := r.fetched + 1 })).runReads n m lim k
        | some b => if r.buf.length < m then (s.runFetch n b).runReads n m lim k else s
      else s

/-- The next position of the RUN leaves the array and, under SINGLE or LAST, the output stage (R191 to R200, R207, R210, R211, R216, R249); its vector has
been read (log entry 30). -/
def State.runPos (s : State) (n : Nat) : State :=
  match (s.dome n).run with
  | none => s
  | some r =>
    let f := runF r.words
    let p := r.pos
    if f.p ≤ p || r.fetched ≤ p then s
    else
      let d := s.dome n
      let sm := d.sums f (s.runIn n f r) p
      let t := (s.bump (Reg.DOME_POS_CNT n)).modRun n (fun r => { r with pos := p + 1 })
      if f.outs then
        let os := d.outs r f s.free sm
        let conv := r.conv ++ [(os.map OutEl.q, sm.2.2)]
        let t := ({ t with free := t.free + 64 }.report n f p sm.2.2 os).modRun n (fun r => if f.pen then { r with conv := conv } else r)
        match t.writeOuts n f r.outq (t.readyOuts n f conv p) with
        | ((some off, _), u) => u.runRefused n r.words off true (256 + p) (Nat.min f.p (p + 65) - (p + 1))
        | ((none, q), u) => u.modRun n (fun r => { r with outq := q })
      else t.modDome n (fun e => e.putAbuf p sm)

/-- k positions at most, up to position m; the reads of a position come in the cycle in which it enters, 256 cycles before its write (R212, R213). -/
def State.runTo (s : State) (n m : Nat) : Nat → State
  | 0 => s
  | k + 1 =>
    match (s.dome n).run with
    | none => s
    | some r => if r.pos < m then ((s.runFetchTo n (r.pos + 256) (r.pos + 256 - r.fetched)).runPos n).runTo n m k else s

/-- A RUN whose last position has left completes (R203, R205, R213, R238). -/
def State.runFinish (s : State) (n : Nat) : State :=
  match (s.dome n).run with
  | none => s
  | some r =>
    let f := runF r.words
    let q := r.buf.length + s.runWrites n f
    let t := ((s.modDome n (fun d => { d with run := none })).bump (Reg.DOME_RUN_CNT n)).bump (Reg.DOME_ARRAY_CYC n) (256 + Nat.max f.p q)
    (if f.win = 0 then t else t.walkAdvance n f).domeDone n r.words

/-- RUN_COMPLETE (R213): the RUN in progress completes. Before its completion, upTo tells how far it has come: the blocks it has read and the positions
that have left it (log entry 30). -/
def State.runComplete (s : State) (n : Nat) (upTo : Option (Nat × Nat)) : State :=
  match (s.dome n).run with
  | none => s
  | some r =>
    let f := runF r.words
    match upTo with
    | some (m, k) =>
      let k := Nat.min k f.p
      (s.runTo n k (k - r.pos)).runReads n m (k + 256) (m + f.p)
    | none => (s.runTo n f.p (f.p - r.pos)).runFinish n

end Sys2Proof.Machine
end

