-- ==== Sys2Proof/Machine/Scales.lean ====
section
/-! DEFINITION. Clip statistics, scale adaptation, commits, weight regions and the update engine (R216 to R233). -/

namespace Sys2Proof.Machine

/-- Page 8 of the dome of spire n, which holds the INT bits of R233. -/
def sclPage (n : Nat) : Nat := spirePage n 8

/-- Fields of DOME_TNSt_EXP (R233). -/
def State.tnsE (s : State) (n t : Nat) : Int := twos (s.fld (Reg.DOME_TNS_EXP n t) 0 7) 7
def State.tnsProp (s : State) (n t : Nat) : Int := twos (s.fld (Reg.DOME_TNS_EXP n t) 24 7) 7
def State.tnsPend (s : State) (n t : Nat) : Bool := s.bit (Reg.DOME_TNS_EXP n t) 31
def State.tnsFrz (s : State) (n t : Nat) : Bool := s.bit (Reg.DOME_TNS_CFG n t) 7

/-- A 7-bit two's complement field's bits. -/
def enc7 (v : Int) : Nat := (v % 128).toNat

/-- The step d and the new CALM of tensor t at a close with statistics x (R219). -/
def closeStep (cfg : Word) (calm : Nat) (adpEn : Bool) (x : TStat) : Int × Nat :=
  let fmt := bitsOf cfg 0 2
  let ticks := bitsOf cfg 8 8
  if adpEn && !bitOf cfg 7 && fmt ≤ 1 && 0 < x.conv then
    if bitsOf cfg 16 16 * x.conv < x.clip * 65536 then (1, 0)
    else if x.max.toNat < (if fmt = 0 then (0x42E00000 : Nat) else 0x46600000) then
      let c := Nat.min 255 (calm + 1)
      if 0 < ticks && ticks ≤ c then (-1, 0) else (0, c)
    else (0, 0)
  else (0, calm)

/-- The close of tensor t (R219): the state, and whether a proposal was made and a step suppressed. -/
def State.closeTensor (s : State) (n t : Nat) : State × Bool × Bool :=
  let x := Tab.get (fun _ => TStat.zero) (s.dome n).stats t
  let e := s.reg (Reg.DOME_TNS_EXP n t)
  let s1 := ((s.setReg (Reg.DOME_CS_CONV n t) (w32 x.conv)).setReg (Reg.DOME_CS_CLIP n t) (w32 x.clip)).setReg (Reg.DOME_CS_MAX n t) x.max
  let (d, calm) := closeStep (s.reg (Reg.DOME_TNS_CFG n t)) (bitsOf e 16 8) (s.bit (Reg.DOME_ADP_CTL n) 0) x
  let e1 := putFld (putFld e 8 7 (bitsOf e 0 7)) 16 8 calm
  let p := s.tnsE n t + d
  if d = 0 then (s1.setReg (Reg.DOME_TNS_EXP n t) e1, false, false)
  else if p < -64 || 63 < p then (s1.setReg (Reg.DOME_TNS_EXP n t) e1, false, true)
  else
    ((s1.setReg (Reg.DOME_TNS_EXP n t) (putBit (putFld e1 24 7 (enc7 p)) 31 true)).modDome n
      (fun d => { d with propClip := Tab.set (fun _ => 0) d.propClip t x.clip }), true, false)

/-- The close cycle of the dome of spire n (R217, R219, R220). -/
def State.tickClose (s : State) (n : Nat) : State :=
  let (t, prop, rng) := (List.range 64).foldl (fun (a : State × Bool × Bool) k =>
    let (u, p, r) := a.1.closeTensor n k
    (u, a.2.1 || p, a.2.2 || r)) (s, false, false)
  let t := t.modDome n (fun d => { d with stats := [] })
  let t := if prop then t.raise (sclPage n) 0 else t
  if rng then t.raise (sclPage n) 7 else t

/-- A log record's 16 bytes (R224). -/
def logRecord (tick : Nat) (t : Nat) (old new : Int) (clip : Nat) : List Byte :=
  leBytes tick 6 ++ [BitVec.ofNat 8 t, BitVec.ofInt 8 old, BitVec.ofInt 8 new, if old < new then 1 else 2, 0, 0] ++ leBytes clip 4

/-- The physical offset of byte a of the log ring's local range, through the task windows as LOG_EN found them (R177, R224). -/
def Dome.logPhys (d : Dome) (a : Nat) : Nat := (bitsOf (d.logTb.getD (a / 2 ^ 22 % 4) 0) 12 12 * 4096 + a % 2 ^ 22) % 2 ^ 24

/-- Appends a log record (R224). A record whose segment is not ON is dropped and reported by the vault (R185). -/
def State.logAppend (s : State) (n : Nat) (r16 : List Byte) : State :=
  let pos := s.fld (Reg.DOME_LOG_POS n) 0 20
  let d := s.dome n
  let p := d.logPhys (d.logBase + pos * 16)
  let t := if s.segOn n p then s.vaultStore (cellsAt (vaultAddr n p) r16) [] 0 else s.offAccess n p 0 true
  let pos' := (pos + 1) % (16 * Nat.max 1 d.logLen)
  let u := t.setReg (Reg.DOME_LOG_POS n) (w32 pos')
  if pos' = 0 then u.raise (sclPage n) 6 else u

/-- The update engine is busy on region r (R221). -/
def State.updOn (s : State) (n r : Nat) : Bool := (s.dome n).upd != 0 && s.fld (Reg.DOME_UPD_REG n) 0 2 == r

/-- The scales of a commit (R221): whether an exponent changed. -/
def State.commitScales (s : State) (n : Nat) : State × Bool :=
  (List.range 64).foldl (fun (a : State × Bool) t =>
    if a.1.tnsPend n t && !a.1.tnsFrz n t then
      let old := a.1.tnsE n t
      let new := a.1.tnsProp n t
      let r16 := logRecord (a.1.tb.tickCnt.toNat) t old new (Tab.get (fun _ => 0) (a.1.dome n).propClip t)
      let u := if a.1.bit (Reg.DOME_ADP_CTL n) 1 then a.1.logAppend n r16 else a.1
      (u.setReg (Reg.DOME_TNS_EXP n t) (putBit (putFld (u.reg (Reg.DOME_TNS_EXP n t)) 0 7 (enc7 new)) 31 false), true)
    else a) (s, false)

/-- The weights of a commit (R221): whether a region flipped. -/
def State.commitWeights (s : State) (n : Nat) : State × Bool :=
  (List.range 4).foldl (fun (a : State × Bool) r =>
    let w := a.1.reg (Reg.DOME_WREG_CTL n r)
    if bitOf w 2 && !a.1.updOn n r then (a.1.setReg (Reg.DOME_WREG_CTL n r) (putBit (putBit w 1 (!bitOf w 1)) 2 false), true) else a) (s, false)

/-- A SCALE_COMMIT reaches the dome of spire n (R221). -/
def State.scaleCommit (s : State) (n : Nat) (scales weights : Bool) : State :=
  let (t, a) := if scales then s.commitScales n else (s, false)
  let (u, b) := if weights then t.commitWeights n else (t, false)
  if a || b then u.raise (sclPage n) 1 else u

/-- A write of DOME_TNSt_CFG (R223, R233): a write of the reserved FMT is dropped; 1 in FRZ clears PEND and CALM. -/
def State.tnsCfgWrite (s : State) (n t : Nat) (v : Word) : State :=
  if bitsOf v 0 2 = 3 then s
  else
    let u := s.setReg (Reg.DOME_TNS_CFG n t) (v &&& 0xFFFFFFC3)
    if bitOf v 7 then u.setReg (Reg.DOME_TNS_EXP n t) (putFld (putBit (u.reg (Reg.DOME_TNS_EXP n t)) 31 false) 16 8 0) else u

/-- A write of E of tensor t (R223). -/
def State.expWrite (s : State) (req n t : Nat) (v : Word) : State :=
  if s.tnsFrz n t then s.setFld (Reg.DOME_TNS_EXP n t) 0 7 (bitsOf v 0 7) else s.err (sclPage n) 0x74 t 0 req

/-- A write of DOME_ADP_CTL (R224): LOG_EN = 1 checks and translates the ring; the UNIT of its capture is not stated (a free value). -/
def State.adpCtlWrite (s : State) (req n : Nat) (v : Word) : State :=
  let base := s.fld (Reg.DOME_LOG_BASE n) 8 16 * 256
  let len := Nat.max 1 (s.fld (Reg.DOME_LOG_LEN n) 0 16)
  if bitOf v 1 && !s.rangeOk n base (len * 256) 1 then
    let (fv, t) := s.fresh
    t.err (sclPage n) 0x75 (fv.toNat % 256) 5 req
  else
    let t := s.setReg (Reg.DOME_ADP_CTL n) (v &&& 3)
    if bitOf v 1 then
      t.modDome n (fun d => { d with logBase := base, logLen := len, logTb := (List.range 4).map (fun w => s.reg (Reg.VLT_TB_BASE n w)) })
    else t

/-! ### The update engine (R228 to R232) -/

/-- Fields of DOME_UPD_CTL. -/
def updCode (c : Word) : Nat := bitsOf c 12 1
def updGsz (c : Word) : Nat := bitsOf c 13 2

/-- Base of copy k of region r of spire n. -/
def State.wregBase (s : State) (n r k : Nat) : Nat :=
  (if k = 0 then s.fld (Reg.DOME_WREG_BASE0 n r) 8 16 else s.fld (Reg.DOME_WREG_BASE1 n r) 8 16) * 256

/-- Local addresses of the engine: gradient, live weights, momentum, second moment, new weights, transposed tiles. -/
def State.updAddrs (s : State) (n : Nat) : Nat × Nat × Nat × Nat × Nat × Nat :=
  let r := s.fld (Reg.DOME_UPD_REG n) 0 2
  let sel := s.fld (Reg.DOME_WREG_CTL n r) 1 1
  let woff := s.fld (Reg.DOME_UPD_WOFF n) 0 24
  (s.fld (Reg.DOME_UPD_GSRC n) 0 24, s.wregBase n r sel + woff, s.fld (Reg.DOME_UPD_MSRC n) 0 24, s.fld (Reg.DOME_UPD_VSRC n) 0 24,
    s.wregBase n r (1 - sel) + woff, s.fld (Reg.DOME_UPD_TDST n) 0 24)

/-- The reason a start with control word c is refused, 0 when it passes (R228). -/
def State.updReason (s : State) (n : Nat) (c : Word) : Nat :=
  let r := s.fld (Reg.DOME_UPD_REG n) 0 2
  let (g, w, m, v, nw, td) := s.updAddrs n
  let ten := bitOf c 11
  let tb := tileBytes (updCode c) (updGsz c)
  let sb := tileBytes 1 (updGsz c)
  if (s.dome n).upd ≠ 0 then 1
  else if !s.bit (Reg.DOME_WREG_CTL n r) 0 then 2
  else if s.bit (Reg.DOME_WREG_CTL n r) 2 then 3
  else if s.fld (Reg.DOME_WREG_LEN n r) 8 16 * 256 < s.fld (Reg.DOME_UPD_WOFF n) 0 24 + tb then 4
  else if g % 256 ≠ 0 || w % 256 ≠ 0 || m % 256 ≠ 0 || v % 256 ≠ 0 || td % 256 ≠ 0
      || !s.rangeOk n g (128 * 256) 0 || !s.rangeOk n w tb 0 || !s.rangeOk n m sb 0 || !s.rangeOk n v sb 0
      || !s.rangeOk n nw tb 1 || !s.rangeOk n m sb 1 || !s.rangeOk n v sb 1
      || (ten && !s.rangeOk n td (256 * tileBlocks (updCode c) + tb) 1) then 5
  else if updGsz c = 3 then 6
  else 0

/-- A write of DOME_UPD_CTL (R228): START is checked with its fields, and a refused start writes nothing. -/
def State.updCtlWrite (s : State) (req n : Nat) (v : Word) : State :=
  let t := s.setReg (Reg.DOME_UPD_CTL n) (v &&& 0xFFFFFE)
  if !bitOf v 31 then t
  else
    let r := s.updReason n v
    if r ≠ 0 then (s.err (sclPage n) 0x75 (s.fld (Reg.DOME_UPD_REG n) 0 2) r req).raise (sclPage n) 3
    else t.modDome n (fun d => { d with upd := 1, updCtl := v })

/-- UPD_ENGINE_BEGIN (R228): the engine begins once no LOADCB is in progress. -/
def State.updBegin (s : State) (n : Nat) : State :=
  let d := s.dome n
  if d.upd = 1 && !(d.tl.any (fun l => descType l.words == 3)) then s.setDome n { d with upd := 2, updGot := [] } else s

/-- A refused request of the engine at physical offset p (R232). -/
def State.updRefused (s : State) (n p : Nat) (write : Bool) : State :=
  (((s.offAccess n p 0 write).err (sclPage n) 0x76 (s.fld (Reg.DOME_UPD_REG n) 0 2) ((p / 256) % 2 ^ 16)).raise (sclPage n) 4).modDome n
    (fun d => { d with upd := 0 })

/-- The local addresses of the blocks that the engine reads, in order (R231): gradient, weights, momentum and second moment. -/
def updBlocks (ga wa ma va code : Nat) : List Nat :=
  [(ga, 128), (wa, tileBlocks code), (ma, 33), (va, 33)].flatMap (fun r => (List.range r.2).map (fun i => r.1 + 256 * i))

/-- The engine reads the blocks at the addresses l (R174, R231): bytes and physical words delivered poisoned of each; a refused block ends the tile (R232). -/
def State.updFetch (s : State) (n : Nat) : List Nat → State
  | [] => s
  | a :: rest =>
    let p := s.phys n a
    match s.vaultRead n p 256 0 with
    | none => s.updRefused n p false
    | some (data, bad, t) => (t.modDome n (fun d => { d with updGot := d.updGot ++ [(data, bad)] })).updFetch n rest

/-- Entry j of codebook slot cb as a value. -/
def Dome.cbVal (d : Dome) (cb j : Nat) : FVal := fp12 (Tab.get (fun _ => 0) d.cb (256 * cb + j) % 4096)

/-- The magnitude of a value. -/
def FVal.abs : FVal → FVal
  | .nan => .nan
  | .inf _ => .inf false
  | .fin _ m e => .fin false m e

/-- The larger of two magnitudes. -/
def FVal.maxAbs (a b : FVal) : FVal := if a.abs.le b.abs then b.abs else a.abs

/-- The scale of a group with values xs (R230), for a codebook whose largest magnitude is maxc. -/
def groupScale (maxc : FVal) (xs : List FVal) (old : Nat) : Nat :=
  let m := xs.foldl FVal.maxAbs (.fin false 0 0)
  if m.isZero then old
  else ((List.range 255).find? (fun (x : Nat) => m.le (maxc.scale ((x : Int) - 127)))).getD 254

/-- The code that is nearest to x (R230): the lowest on a tie. -/
def nearest (entries : List FVal) (scale : Nat) (x : FVal) : Nat :=
  let dist := fun (c : FVal) => ((c.scale ((scale : Int) - 127)).sub x).abs
  match entries with
  | [] => 0
  | h :: t => (t.foldl (fun (a : Nat × Nat × FVal) c =>
      let dc := dist c
      if a.2.2.le dc then (a.1 + 1, a.2.1, a.2.2) else (a.1 + 1, a.1, dc)) (1, 0, dist h)).2.1

/-- The optimiser step of one element (R229): new weight, momentum and second moment. -/
def updElem (lr b1 b2 eps : Word) (gsh : Int) (g0 : Word) (w m v : FVal) : Word × Word × Word :=
  let g := rnd ((f32 g0).scale gsh)
  let m1 := fmaF b1 (rnd (m.sub (f32 g))) g
  let t := mulF g g
  let v1 := fmaF b2 (rnd (v.sub (f32 t))) t
  let u := divF m1 (addF (sqrtF v1) eps)
  (rnd (((f32 lr).neg.mul (f32 u)).add w), m1, v1)

/-- Inputs of one tile of the engine: codes and scales by array, and values. -/
structure UpdIn where
  ctl : Word
  g : Array Byte
  w : Array Byte
  m : Array Byte
  v : Array Byte

/-- Decoded value of row r, column c of a tile through codebook slot cb (R193). -/
def Dome.tileVal (d : Dome) (a : Array Byte) (code gsz cb r c : Nat) : FVal :=
  weightVal (Tab.get (fun _ => 0) d.cb (256 * cb + tileCode a code r c) % 4096) (tileScale a code gsz r c)

/-- The gradient word of (r, c). -/
def UpdIn.gw (x : UpdIn) (r c : Nat) : Word :=
  w32 ((List.range 4).foldr (fun j v => byteAt x.g (256 * r + 4 * c + j) + 256 * v) 0)

/-- New codes and scale of a group for one of its three tiles. -/
structure GroupOut where
  codes : List Nat
  scale : Nat

/-- What the engine makes of group k of column c (R229, R230): whether it is written unchanged, w, m and v, and the new weights. -/
structure GroupRes where
  skip : Bool
  w : GroupOut
  m : GroupOut
  v : GroupOut
  vals : List FVal

/-- Rows of group k. -/
def groupRows (gsz k : Nat) : List Nat := (List.range (gszOf gsz)).map (gszOf gsz * k + ·)

/-- The group that keeps its old codes and scale. -/
def oldGroup (a : Array Byte) (code gsz k c : Nat) : GroupOut :=
  { codes := (groupRows gsz k).map (fun r => tileCode a code r c), scale := tileScale a code gsz (gszOf gsz * k) c }

/-- A group re-encoded (R230). -/
def Dome.newGroup (d : Dome) (cb code : Nat) (xs : List FVal) (old : Nat) : GroupOut :=
  let ent := (List.range (if code = 0 then 16 else 256)).map (d.cbVal cb)
  let sc := groupScale (ent.foldl FVal.maxAbs (.fin false 0 0)) xs old
  { codes := xs.map (nearest ent sc), scale := sc }

/-- One group of the engine; pois says that an input word of it is poisoned (R232). -/
def State.updGroup (s : State) (n : Nat) (x : UpdIn) (k c : Nat) (pois : Bool) : GroupRes :=
  let d := s.dome n
  let gsz := updGsz x.ctl
  let code := updCode x.ctl
  let cbw := bitsOf x.ctl 21 3
  let cbm := bitsOf x.ctl 18 3
  let cbv := bitsOf x.ctl 15 3
  let rows := groupRows gsz k
  let res := rows.map (fun r => updElem (s.reg (Reg.DOME_UPD_LR n)) (s.reg (Reg.DOME_UPD_BETA1 n)) (s.reg (Reg.DOME_UPD_BETA2 n))
    (s.reg (Reg.DOME_UPD_EPS n)) (twos (s.fld (Reg.DOME_UPD_GSH n) 0 8) 8) (x.gw r c)
    (d.tileVal x.w code gsz cbw r c) (d.tileVal x.m 1 gsz cbm r c) (d.tileVal x.v 1 gsz cbv r c))
  let ow := oldGroup x.w code gsz k c
  let om := oldGroup x.m 1 gsz k c
  let ov := oldGroup x.v 1 gsz k c
  if pois || res.any (fun e => !((f32 e.1).isFin && (f32 e.2.1).isFin && (f32 e.2.2).isFin)) then
    { skip := true, w := ow, m := om, v := ov, vals := rows.map (fun r => d.tileVal x.w code gsz cbw r c) }
  else
    { skip := false
      w := d.newGroup cbw code (res.map (fun e => f32 e.1)) ow.scale
      m := d.newGroup cbm 1 (res.map (fun e => f32 e.2.1)) om.scale
      v := d.newGroup cbv 1 (res.map (fun e => f32 e.2.2)) ov.scale
      vals := res.map (fun e => f32 e.1) }

/-- The bytes of a tile by CODE and GSZ from codes and scales by row and column (R194). -/
def tileData (code gsz : Nat) (cell scale : Nat → Nat → Nat) : List Byte :=
  let gpc := 128 / gszOf gsz
  (if code = 0 then (List.range 4096).map (fun i => BitVec.ofNat 8 (cell (2 * (i % 64)) (i / 64) + 16 * cell (2 * (i % 64) + 1) (i / 64)))
   else (List.range 8192).map (fun i => BitVec.ofNat 8 (cell (i % 128) (i / 128))))
  ++ (List.range (64 * gpc)).map (fun i => BitVec.ofNat 8 (scale (i % gpc) (i / gpc)))

/-- Words of local range a that are poisoned, as numbers from the start of the range. -/
def State.relBad (s : State) (n a blocks : Nat) (bad : List Nat) : List Nat :=
  (List.range (32 * blocks)).filter (fun i => bad.contains (vaultAddr n (s.phys n (a + 8 * i)) / 8))

/-- Words of a tile, from its start, that group k of column c reads: its codes and its scale. -/
def groupWords (code gsz k c : Nat) : List Nat :=
  let bits := if code = 0 then 1 else 2
  let lo := bits * 64 * c + bits * gszOf gsz * k / 2
  wordsOf lo (bits * gszOf gsz / 2) ++ [((if code = 0 then 4096 else 8192) + c * (128 / gszOf gsz) + k) / 8]

/-- Stores a range of the engine at local address a, in block order, with words bad (numbered from a) poisoned: the refused offset, if any. -/
def State.updStore (s : State) (n a : Nat) (data : List Byte) (bad : List Nat) : Option Nat × State :=
  (cutBlocks a data.length).foldl (fun (r : Option Nat × State) q =>
    match r.1 with
    | some _ => r
    | none =>
      let p := s.phys n q.1
      if r.2.segOn n p then
        (none, r.2.vaultStore (cellsAt (vaultAddr n p) ((data.drop (q.1 - a)).take q.2))
          ((wordsOf (vaultAddr n p) q.2).filter (fun w => bad.contains ((w - vaultAddr n p / 8) + (q.1 - a) / 8))) 0)
      else (some p, r.2)) (none, s)

/-- Several ranges stored in order, up to a refused block. -/
def State.updStores (s : State) (n : Nat) : List (Nat × List Byte × List Nat) → Option Nat × State
  | [] => (none, s)
  | (a, data, bad) :: rest =>
    match s.updStore n a data bad with
    | (some p, t) => (some p, t)
    | (none, t) => t.updStores n rest

/-- Tile j of the transpose (R230): its bytes and poisoned words. vals by row and column, taint by row and column; scales of all-zero groups and
groups with a value that is not finite are free values. -/
def State.transposed (s : State) (n : Nat) (ctl : Word) (j base : Nat) (vals : Nat → Nat → FVal) (taint : Nat → Nat → Bool) : List Byte × List Nat :=
  let d := s.dome n
  let gsz := updGsz ctl
  let code := updCode ctl
  let per := Nat.min 64 (gszOf gsz)
  let grp := fun k col =>
    let xs := (List.range per).map (fun i => vals (64 * j + col) (gszOf gsz * k + i))
    let fv := fun i => (Config.freeValue (base + (64 * j + col) * 256 + k * 128 + i)).toNat
    if xs.all FVal.isFin then d.newGroup (bitsOf ctl 21 3) code xs (fv 0 % 256)
    else { codes := (List.range per).map (fun i => fv (i + 1) % (if code = 0 then 16 else 256)), scale := fv 0 % 256 }
  let tab := ((List.range 64).map (fun col => ((List.range 2).map (fun k => grp k col)).toArray)).toArray
  let at' := fun k col => (tab.getD col #[]).getD k { codes := [], scale := 0 }
  let cell := fun r col => if 64 ≤ r then 0 else (at' (r / gszOf gsz) col).codes.getD (r % gszOf gsz) 0
  let scale := fun k col => if 64 ≤ gszOf gsz * k then 0 else (at' k col).scale
  let bad := (List.range 64).flatMap (fun col => (List.range 2).flatMap (fun k =>
    if gszOf gsz * k < 64 && (List.range per).any (fun i => taint (64 * j + col) (gszOf gsz * k + i)) then groupWords code gsz k col else []))
  (tileData code gsz cell scale, bad)

/-- UPD_DONE (R229 to R232): the tile, whose blocks have been read, is stepped, re-encoded and written. -/
def State.updFinish (t : State) (n : Nat) : State :=
  let ctl := (t.dome n).updCtl
  let gsz := updGsz ctl
  let code := updCode ctl
  let gpc := 128 / gszOf gsz
  let (ga, wa, ma, va, nwa, ta) := t.updAddrs n
  let got := (t.dome n).updGot
  let bad := got.flatMap (·.2)
  let part := fun lo cnt => (((got.drop lo).take cnt).flatMap (·.1)).toArray
  let b := tileBlocks code
  let x : UpdIn := { ctl := ctl, g := part 0 128, w := part 128 b, m := part (128 + b) 33, v := part (161 + b) 33 }
  let bg := t.relBad n ga 128 bad
  let bw := t.relBad n wa (tileBlocks code) bad
  let bm := t.relBad n ma 33 bad
  let bv := t.relBad n va 33 bad
  let first := fun k c =>
    let pick := fun (a : Nat) (ws l : List Nat) => (ws.find? (fun w => l.contains w)).map (fun w => t.phys n (a + 8 * w))
    ((pick ga ((groupRows gsz k).map (fun r => (256 * r + 4 * c) / 8)) bg).or (pick wa (groupWords code gsz k c) bw)).or
      ((pick ma (groupWords 1 gsz k c) bm).or (pick va (groupWords 1 gsz k c) bv))
  let res := ((List.range 64).map (fun c => ((List.range gpc).map (fun k => t.updGroup n x k c (first k c).isSome)).toArray)).toArray
  let none' : GroupRes := { skip := false, w := ⟨[], 0⟩, m := ⟨[], 0⟩, v := ⟨[], 0⟩, vals := [] }
  let at' := fun k c => (res.getD c #[]).getD k none'
  let tile := fun (cd : Nat) (f : GroupRes → GroupOut) =>
    tileData cd gsz (fun r c => (f (at' (r / gszOf gsz) c)).codes.getD (r % gszOf gsz) 0) (fun k c => (f (at' k c)).scale)
  let groups := (List.range 64).flatMap (fun c => (List.range gpc).map (fun k => (k, c)))
  let t1 := groups.foldl (fun u g =>
    match first g.1 g.2 with
    | some p => (u.err (sclPage n) 0x77 (u.fld (Reg.DOME_UPD_REG n) 0 2) ((p / 256) % 2 ^ 16)).raise (sclPage n) 5
    | none => u) t
  let t2 := t1.bump (Reg.DOME_UPD_SKIP n) (groups.filter (fun g => (at' g.1 g.2).skip)).length
  let base := t2.free
  let t3 := { t2 with free := base + 128 * 256 }
  let vals := fun r c => (at' (r / gszOf gsz) c).vals.getD (r % gszOf gsz) .nan
  let taint := fun r c => (groupWords code gsz (r / gszOf gsz) c).any (fun w => bw.contains w)
  let tr := fun j => t3.transposed n ctl j base vals taint
  let outs := [(nwa, tile code GroupRes.w, bw), (ma, tile 1 GroupRes.m, bm), (va, tile 1 GroupRes.v, bv)]
    ++ (if bitOf ctl 11 then [(ta, tr 0), (ta + 256 * tileBlocks code, tr 1)] else [])
  match t3.updStores n outs with
  | (some p, u) => u.updRefused n p true
  | (none, u) =>
    let v := ((u.modDome n (fun d => { d with upd := 0 })).bump (Reg.DOME_UPD_CNT n)).raise (sclPage n) 2
    if bitOf ctl 10 then v.evtAdd n (bitsOf ctl 1 9) 1 else v

/-- UPD_DONE (R231): the engine, which has begun, ends its tile or, before that, has read upTo of its blocks. -/
def State.updDone (s : State) (n : Nat) (upTo : Option Nat) : State :=
  if (s.dome n).upd ≠ 2 then s
  else
    let (ga, wa, ma, va, _, _) := s.updAddrs n
    let l := updBlocks ga wa ma va (updCode (s.dome n).updCtl)
    let t := s.updFetch n ((l.take (upTo.getD l.length)).drop (s.dome n).updGot.length)
    if upTo.isSome || (t.dome n).upd ≠ 2 then t else t.updFinish n

/-- A warm reset of pages 8 and 9 (R233): statistics, LAST, PEND, PROP, WPEND, CALM and the engine are cleared. -/
def State.scalesWarm (s : State) (n : Nat) : State :=
  let t := (List.range 64).foldl (fun t k =>
    let e := t.reg (Reg.DOME_TNS_EXP n k)
    (((t.setReg (Reg.DOME_TNS_EXP n k) (putFld (putFld (putBit e 31 false) 24 7 0) 16 8 0)).setReg (Reg.DOME_CS_CONV n k) 0).setReg (Reg.DOME_CS_CLIP n k) 0).setReg
      (Reg.DOME_CS_MAX n k) 0) s
  let u := (List.range 4).foldl (fun t r => t.setBit (Reg.DOME_WREG_CTL n r) 2 false) t
  u.modDome n (fun d => { d with stats := [], propClip := [], upd := 0 })

/-- A write of a register a of a weight region while its EN is 1 is dropped (R233). -/
def State.wregWrite (s : State) (req n r a : Nat) (v : Word) : State :=
  if s.bit (Reg.DOME_WREG_CTL n r) 0 then s.err (sclPage n) 0x50 0 (a % 0x1000) req else s.setReg a (v &&& 0xFFFF00)

/-- A write of a register a of DOME_UPD_* other than DOME_UPD_CTL, with the bits m of it (R233). -/
def State.updRegWrite (s : State) (req n a : Nat) (m v : Word) : State :=
  if (s.dome n).upd ≠ 0 then s.err (sclPage n) 0x50 0 (a % 0x1000) req else if m = 0 then s else s.setReg a (v &&& m)

end Sys2Proof.Machine
end

