-- ==== Sys2Proof/Machine/Streams.lean ====
section
/-! DEFINITION. The four streams of each spire (R279 to R284, R293). Stream st of spire n has key 4n + st. -/

namespace Sys2Proof.Machine

/-- Page of the streams of spire n (R293). -/
def strPage (n : Nat) : Nat := spirePage n 10

/-- Stream st of spire n beside its registers. -/
def State.strm (s : State) (n st : Nat) : StreamSt := Tab.get (fun _ => StreamSt.reset) s.streams (4 * n + st)

/-- Sets stream st of spire n. -/
def State.setStrm (s : State) (n st : Nat) (x : StreamSt) : State :=
  { s with streams := Tab.set (fun _ => StreamSt.reset) s.streams (4 * n + st) x }

/-- BUSY, NSLOT, slot bytes, RSIZE and SHAPE of a stream (R293). -/
def State.strBusy (s : State) (n st : Nat) : Bool := s.bit (Reg.STR_STAT n st) 31
def State.strNslot (s : State) (n st : Nat) : Nat := s.fld (Reg.STR_RING n st) 24 8 + 1
def State.strSlotLen (s : State) (n st : Nat) : Nat := (s.fld (Reg.STR_RING n st) 16 8 + 1) * 256
def State.strRsize (s : State) (n st : Nat) : Nat := s.fld (Reg.STR_ROW n st) 0 16 + 1
def State.strShape (s : State) (n st : Nat) : Nat := s.fld (Reg.STR_ROW n st) 16 3
def State.strPitch (s : State) (n st : Nat) : Nat := s.fld (Reg.STR_PITCH n st) 0 20

/-- Physical offset of slot k (R279). -/
def State.strSlot (s : State) (n st k : Nat) : Nat := s.fld (Reg.STR_RING n st) 0 16 * 256 + k * s.strSlotLen n st

/-- The reason an arm of an idle stream fails, 0 when it passes (R280, R293); cnt is the resolved count. -/
def State.armReason (s : State) (n st cnt : Nat) : Nat :=
  let ring := s.fld (Reg.STR_RING n st) 0 16 * 256
  let size := s.strNslot n st * s.strSlotLen n st
  let ibase := s.reg64 (Reg.STR_IBASE_LO n st)
  if !s.bit (hdr (strPage n) 8) 0 || s.strSlotLen n st < s.strRsize n st || 2 ^ 24 < ring + size
      || s.regionOf ibase != .vault n || ibase % 4 != 0
      || (s.strShape n st != 0 && s.strRsize n st != 256) || 4 < s.strShape n st then 3
  else if !s.inWindow n ring size 1 || (cnt != 0 && !s.inWindow n (ibase - vaultAddr n 0) (4 * cnt) 0) then 1
  else 0

/-- Raises an interrupt of kind k (0 DONE, 1 ERR, 2 UNDER, 3 POISON) of stream st (R293). -/
def State.strRaise (s : State) (n st k : Nat) : State := s.raise (strPage n) (4 * k + st)

/-- The run ends with RESULT r (R283). -/
def State.strEnd (s : State) (n st r : Nat) : State :=
  let a := Reg.STR_STAT n st
  let x := s.strm n st
  ((s.setReg a (putBit (putFld (s.reg a) 27 4 r) 31 false)).setStrm n st { x with rows := [], unsent := [], ending := none, held := [] }).strRaise n st
    (if r = 0 then 0 else 1)

/-- Bytes from the start of the first index block of stream st to the word of index j (R279, R282). -/
def State.strIndexAt (s : State) (n st j : Nat) : Nat := (s.reg64 (Reg.STR_IBASE_LO n st) - vaultAddr n 0) % 256 + 4 * j

/-- The stream reads its next index block, while it holds fewer than two and the run has one left (R282). -/
def State.strIndexNext (s : State) (n st : Nat) : State :=
  let x := s.strm n st
  let p := ((s.reg64 (Reg.STR_IBASE_LO n st) - vaultAddr n 0) / 256 + x.blocks) * 256
  if !s.strBusy n st || x.ending.isSome || 2 ≤ x.held.length || s.strIndexAt n st x.count ≤ 256 * x.blocks then s
  else match s.vaultRead n p 256 2 with
  | none => (s.offAccess n p 2 false).setStrm n st { x with blocks := x.blocks + 1, held := x.held ++ [none] }
  | some (b, _, t) => t.setStrm n st { x with blocks := x.blocks + 1, held := x.held ++ [some b] }

/-- Index j has been used: its block is given up after its last index, and the next one is read (R282). -/
def State.strIndexDone (s : State) (n st j : Nat) : State :=
  let x := s.strm n st
  if s.strIndexAt n st j / 256 = s.strIndexAt n st (j + 1) / 256 then s
  else (s.setStrm n st { x with held := x.held.tail }).strIndexNext n st

/-- An arm of stream st of spire n, by STREAM_ARM or STARM (R280). -/
def State.streamArm (s : State) (n st : Nat) (count : Word) : State :=
  let cnt := if count = 0 then (s.reg (Reg.STR_COUNT n st)).toNat else count.toNat
  let a := Reg.STR_STAT n st
  if s.strBusy n st then s.err (strPage n) 0x90 st 6
  else
    let r := s.armReason n st cnt
    if r ≠ 0 then ((s.setFld a 27 4 r).err (strPage n) 0x90 st r).strRaise n st 1
    else
      let stat := putBit (putFld (putFld (s.reg a) 9 9 (s.strNslot n st)) 18 9 0) 31 true
      let t := (((s.setReg a stat).setReg (Reg.STR_READY n st) 0).setReg (Reg.STR_HEAD n st) 0).setStrm n st { StreamSt.reset with count := cnt }
      if cnt = 0 then t.strEnd n st 0 else (t.strIndexNext n st).strIndexNext n st

/-- A run that ends early waits for the rows being fetched (R283). -/
def State.strSettle (s : State) (n st : Nat) : State :=
  match (s.strm n st).ending with
  | some r => if (s.strm n st).rows.isEmpty then s.strEnd n st r else s
  | none => s

/-- The run is to end with RESULT r; the first reason stands (R283). -/
def State.strStopAt (s : State) (n st r : Nat) : State :=
  let x := s.strm n st
  (s.setStrm n st { x with ending := some (x.ending.getD r) }).strSettle n st

/-- The address of row j from its index word (R279). -/
def State.strAddr (s : State) (n st idx : Nat) : Nat :=
  let xs := (s.reg (Reg.STR_XSTEP n st)).toNat
  let ys := (s.reg (Reg.STR_YSTEP n st)).toNat
  let d := s.reg64 (Reg.STR_DBASE_LO n st)
  (if s.bit (Reg.STR_ROW n st) 20 then d + idx / 2 ^ 16 * ys + idx % 2 ^ 16 * xs else d + idx * xs) % 2 ^ 48

/-- Row at address a passes the Range checks of R283. -/
def State.strRowOk (s : State) (n st a : Nat) : Bool :=
  let shape := s.strShape n st
  let span := if shape = 0 then s.strRsize n st else Nat.max 256 (shapeSpan shape (s.strPitch n st))
  match s.rangeHome a span with
  | some (.vault m) => if m = n then s.inWindow n (a - vaultAddr n 0) span 0 else shape == 0
  | some _ => shape == 0
  | none => false

/-- A refused row read or slot write at physical offset p: the Off end of R283. The row is not marked ready (log entry 20). -/
def State.strOff (s : State) (n st j p : Nat) (write : Bool) : State :=
  let t := (s.offAccess n p 2 write).errFree (strPage n) 0x92 st
  let x := t.strm n st
  (t.setStrm n st { x with rows := x.rows.filter (fun r => r.j != j), unsent := x.unsent.filter (fun u => u.1 != j) }).strStopAt n st 4

/-- Bytes of row j, read from address a, are written into its slot (R282, R283). off is their place in the row. -/
def State.strLand (s : State) (n st j off : Nat) (data : List Byte) (bad : List Nat) (a : Nat) : State :=
  match (s.strm n st).rows.find? (fun r => r.j == j) with
  | none => s
  | some r =>
    let p := s.strSlot n st r.slot + off
    let dst := vaultAddr n p
    if s.segsOn n p data.length then
      let pois := poisMove a dst data.length bad
      let t := s.vaultStore (cellsAt dst data) pois 2
      let x := t.strm n st
      let u := t.setStrm n st { x with rows := x.rows.map (fun q => if q.j = j then { q with left := q.left - data.length } else q) }
      if pois.isEmpty then u else ((u.bump (Reg.STR_POISON n st)).strRaise n st 3).errFree (strPage n) 0x93 st
    else s.strOff n st j (s.refusedAt n p) true

/-- Presents the waiting read requests of stream st while read credits last (R300). -/
def State.strSend (s : State) (n st : Nat) : State :=
  (s.strm n st).unsent.foldl (fun t u =>
    let x := t.strm n st
    if x.unsent.head? = some u && t.credUsed n (t.nodeOf u.2.1) < 2 then
      (t.postRead n (t.nodeOf u.2.1) (.rd u.2.1 u.2.2 (.stream ⟨n % 32, Nat.mod_lt _ (by decide)⟩ ⟨st % 4, Nat.mod_lt _ (by decide)⟩ u.1 0))).setStrm n st
        { x with unsent := x.unsent.tail }
    else t) s

/-- The fetch of row j at address a begins: it takes a credit and a slot (R281), then reads (R282). -/
def State.strBegin (s : State) (n st j a : Nat) : State :=
  let stat := Reg.STR_STAT n st
  let ns := s.strNslot n st
  let rs := s.strRsize n st
  let x := s.strm n st
  let t := (((s.setFld stat 9 9 (s.fld stat 9 9 - 1)).setFld stat 18 9 (s.fld stat 18 9 + 1)).setFld (Reg.STR_HEAD n st) 8 8 ((j + 1) % ns)).setStrm n st
    { x with next := j + 1, rows := x.rows ++ [{ j := j, origin := a, slot := j % ns, left := rs }] }
  let p := a - vaultAddr n 0
  if s.strShape n st ≠ 0 then
    match t.shapedRead n p (s.strShape n st) (s.strPitch n st) 2 with
    | none => t.strOff n st j (t.shapedRefusedAt n p (t.strShape n st) (t.strPitch n st)) false
    | some (data, bad, u) => u.strLand n st j 0 data bad 0
  else if s.regionOf a == .vault n then
    (cutBlocks a rs).foldl (fun t q =>
      if !(t.strm n st).rows.any (fun r => r.j == j) then t
      else match t.vaultRead n (q.1 - vaultAddr n 0) q.2 2 with
      | none => t.strOff n st j (q.1 - vaultAddr n 0) false
      | some (data, bad, u) => u.strLand n st j (q.1 - a) data bad q.1) t
  else
    let y := t.strm n st
    (t.setStrm n st { y with unsent := y.unsent ++ (cutBlocks a rs).map (fun q => (j, q.1, q.2)) }).strSend n st

/-- STREAM_ROW_FETCH (R281): a stream that holds an index and a credit begins its next row. A refused index block ends the run as a refused row
does (log entry 20). -/
def State.streamRowFetch (s : State) (n st : Nat) : State :=
  let x := s.strm n st
  if !s.strBusy n st || x.ending.isSome || x.count ≤ x.next || s.fld (Reg.STR_STAT n st) 9 9 = 0 then s
  else match x.held.head? with
  | none => s
  | some none => (s.errFree (strPage n) 0x92 st).strStopAt n st 4
  | some (some b) =>
    let a := s.strAddr n st (leNum ((b.drop (s.strIndexAt n st x.next % 256)).take 4))
    if s.strRowOk n st a then (s.strBegin n st x.next a).strIndexDone n st x.next
    else (s.err (strPage n) 0x91 st (x.next % 2 ^ 16)).strStopAt n st 2

/-- Read data of a remote row returns (R282). -/
def State.streamData (s : State) (n st j a : Nat) (data : List Byte) (bad : List Nat) : State :=
  match (s.strm n st).rows.find? (fun r => r.j == j) with
  | none => s
  | some r => s.strLand n st j (a - r.origin) data bad a

/-- SLOT_READY (R282, R283): the oldest row being fetched is ready once its last byte has landed. -/
def State.slotReady (s : State) (n st : Nat) : State :=
  let x := s.strm n st
  match x.rows with
  | [] => s
  | r :: rest =>
    if r.left = 0 then
      let t := (s.count (Reg.STR_READY n st)).setStrm n st { x with rows := rest }
      let c := t.reg (Reg.STR_CTL n st)
      let u := if bitOf c 9 then t.evtAdd n (bitsOf c 0 9) 1 else t
      if x.ending.isSome then u.strSettle n st
      else if (u.reg (Reg.STR_READY n st)).toNat = x.count then u.strEnd n st 0 else u
    else s

/-- STREL (R281, R284). -/
def State.strel (s : State) (n st : Nat) : State :=
  let x := s.strm n st
  let a := Reg.STR_STAT n st
  let h := Reg.STR_HEAD n st
  if x.released < (s.reg (Reg.STR_READY n st)).toNat && s.fld a 18 9 ≠ 0 then
    (((s.setFld a 18 9 (s.fld a 18 9 - 1)).setFld a 9 9 (s.fld a 9 9 + 1)).setFld h 0 8 ((s.fld h 0 8 + 1) % s.strNslot n st)).setStrm n st
      { x with released := x.released + 1 }
  else ((s.bump (Reg.STR_UNDER n st)).strRaise n st 2).errFree (strPage n) 0x94 st

/-- STSTOP (R283, R284). -/
def State.ststop (s : State) (n st : Nat) : State := if s.strBusy n st then s.strStopAt n st 5 else s

/-- Some stream of spire n is busy (R293). -/
def State.strAnyBusy (s : State) (n : Nat) : Bool := (List.range 4).any (fun st => s.strBusy n st)

/-- A write of a register a of stream st while BUSY is dropped (R284). -/
def State.strWrite (s : State) (req n st a : Nat) (v : Word) : State :=
  if s.strBusy n st then s.err (strPage n) 0x50 st (a % 0x1000) req else s.setReg a v

end Sys2Proof.Machine
end

