-- ==== Sys2Proof/Machine/Belfry.lean ====
section
/-! DEFINITION. The Belfry (R52 to R77): the schedule table, the walk of a tick, tick boundaries (R35 to R46), commands, descriptors and
the table loader. -/

namespace Sys2Proof.Machine

/-- Applies f to the Belfry. -/
def State.modBel (s : State) (f : Belfry → Belfry) : State := { s with bel := f s.bel }

/-- Model address of table entry i: the table is in no address range of R20, so it lies above the 48-bit space (log entry 4). -/
def tblAddr (i : Nat) : Nat := 0x1000000000000 + 16 * i

/-- Table entry i as a 128-bit number (R53). -/
def State.entry (s : State) (i : Nat) : Nat := s.numLE (tblAddr i) 16

/-- Entry i holds an uncorrectable ECC error (R52). -/
def State.entryUe (s : State) (i : Nat) : Bool :=
  s.eccTwo.contains (tblAddr i / 8) || s.eccTwo.contains (tblAddr i / 8 + 1)

/-- Fields of an entry (R53). -/
def entOffset (e : Nat) : Nat := e / 2 ^ 96
def entOpcode (e : Nat) : Nat := e / 2 ^ 88 % 256
def entClass (e : Nat) : Nat := e / 2 ^ 80 % 256
def entTindex (e : Nat) : Nat := e / 2 ^ 72 % 256
def entArgs (e lo len : Nat) : Nat := e % 2 ^ 72 / 2 ^ lo % 2 ^ len

/-- The opcode is not reserved (R55). -/
def opcodeDefined (o : Nat) : Bool := o == 0 || o == 1 || o == 2 || o == 0x10 || o == 0x11 || o == 0x12 || o == 0x20 || o == 0x21 || o == 0x22

/-- CLASS is permitted for the opcode and TINDEX is in its range (R54, R55). -/
def entryFits (e : Nat) : Bool :=
  let o := entOpcode e
  let c := entClass e
  let t := entTindex e
  if o = 0 || o = 1 || o = 2 then c = 0 && t = 0
  else if o = 0x10 then c = 3 && t < 16
  else if o = 0x11 then (c = 2 && t < 32) || (c = 4 && t < 32)
  else if o = 0x12 || o = 0x21 then c = 2 && t < 32
  else if o = 0x20 || o = 0x22 then c = 1 && t = 0
  else false

/-- An error of page 0x020 about entry i: SEQ_ERR_IDX holds the index of the capture, and keeps its value at a
capture without an index, which does not come here (log entry 88). -/
def State.seqErr (s : State) (code unit i : Nat) (req : Nat := 41) : State :=
  let t := if s.bit (hdr 0x020 0x10) 31 then s else s.setReg Reg.SEQ_ERR_IDX (w32 (i % 2 ^ 17))
  t.err 0x020 code unit (i % 2 ^ 16) req

/-- The active descriptor (SEQ_STATE.ACT_DESC). -/
def State.actDesc (s : State) : Nat := s.fld Reg.SEQ_STATE 0 3

/-- BASE and LEN of descriptor d. -/
def State.descBase (s : State) (d : Nat) : Nat := s.fld (Reg.SEQ_DESC_BASE d) 0 17
def State.descLen (s : State) (d : Nat) : Nat := s.fld (Reg.SEQ_DESC_LEN d) 0 18

/-- Spire n counts as in the grid for the Belfry: in KEEP_GRID with its island ready (R58, R431), for R57 and R60 too, which act as R58
(log entry 88). -/
def State.inService (s : State) (n : Nat) : Bool := s.inGrid n && s.bit Reg.KEEP_SPIRE_PSTAT n

/-- A spire removed from a mask, or named by an entry, that is not in the grid (R57, R58). -/
def State.dispDrop (s : State) (i n : Nat) : State := ((s.bump Reg.SEQ_DISP_DROP).seqErr 0x24 n i).raise 0x020 8

/-- Spires of a mask. -/
def maskSpires (m : Nat) : List Nat := (List.range 32).filter (fun n => m / 2 ^ n % 2 == 1)

/-! ### What each entry does -/

/-- DISPATCH (R58, R43, R44): spires outside the grid are dropped and counted, skipped spires are removed, and the rest get the entry point. Of several
spires dropped at once the lowest is captured (log entry 88). -/
def State.actDispatch (s : State) (i e : Nat) : State :=
  (maskSpires (entArgs e 40 32)).foldl (fun t n =>
    if !t.inService n then t.dispDrop i n
    else if t.bel.skip.toNat / 2 ^ n % 2 = 1 then t.bump Reg.SEQ_SKIP_CNT
    else
      let u := if bitOf t.bel.dispatched n then t
        else (t.count (Reg.SEQ_TC_EXP n)).modBel (fun b => { b with dispatched := putBit b.dispatched n true })
      u.cpDispatch n (entArgs e 21 19 * 32) (entArgs e 0 16)) s

/-- SCALE_COMMIT (R60): late for a spire already dispatched in this tick. Of the errors of this cycle those with the lower CODE, of the spires outside the
grid, come first (R13), and of equal ones that of the lowest spire (log entry 88). -/
def State.actCommit (s : State) (i e : Nat) : State :=
  let m := maskSpires (entArgs e 40 32)
  (m.filter (fun n => s.inService n)).foldl (fun t n =>
    if bitOf t.bel.dispatched n then ((t.bump Reg.SEQ_COMMIT_LATE).seqErr 0x25 n i).raise 0x020 9
    else t.scaleCommit n (entArgs e 0 1 == 1) (entArgs e 1 1 == 1)) ((m.filter (fun n => !s.inService n)).foldl (fun t n => t.dispDrop i n) s)

/-- BARRIER (R61); due is the entry's due time. SEQ_BARs_LAG holds the low 32 bits of the lag (log entry 88). -/
def State.actBarrier (s : State) (i e due : Nat) : State :=
  let slot := entArgs e 68 4
  let lag := s.tb.now.toNat - due
  let t := (s.setReg64 (Reg.SEQ_BAR_TIME_LO slot) s.tb.now).setReg (Reg.SEQ_BAR_LAG slot) (w32 lag)
  if entArgs e 0 32 < lag then
    let u := if t.bit (hdr 0x020 0x10) 31 then t else t.setReg Reg.SEQ_ERR_IDX (w32 (i % 2 ^ 17))
    ((u.bump Reg.SEQ_BAR_MISS).err 0x020 0x26 slot (Nat.min lag 0xFFFF)).raise 0x020 10
  else t

/-- DMA_START (R57). -/
def State.actDma (s : State) (i e : Nat) : State :=
  if entClass e = 4 then s.dmaStart (256 + entTindex e)
  else if s.inService (entTindex e) then s.dmaStart (8 * entTindex e + entArgs e 69 3)
  else s.dispDrop i (entTindex e)

/-- STREAM_ARM (R57). -/
def State.actStream (s : State) (i e : Nat) : State :=
  if s.inService (entTindex e) then s.streamArm (entTindex e) (entArgs e 70 2) (w32 (entArgs e 0 32))
  else s.dispDrop i (entTindex e)

/-- EVT_POST (R59, R307): the counters are in the always-on island, so only a spire outside the logical grid is dropped. -/
def State.actEvt (s : State) (i e : Nat) : State :=
  if s.inGrid (entTindex e) then s.evtAdd (entTindex e) (entArgs e 63 9) (entArgs e 0 16) else s.dispDrop i (entTindex e)

/-! ### The tick end (R43 to R46, R62, R311, R313, R358) -/

/-- Spires whose complete count is below, or above, their expected count (R43, R46). -/
def State.lateSpires (s : State) : List Nat :=
  (List.range 32).filter (fun n =>
    let d := (s.reg (Reg.SEQ_TC_EXP n) - s.reg (Reg.SEQ_TC_DONE n)).toNat
    0 < d && d < 2 ^ 31)
def State.extraSpires (s : State) : List Nat :=
  (List.range 32).filter (fun n => 2 ^ 31 ≤ (s.reg (Reg.SEQ_TC_EXP n) - s.reg (Reg.SEQ_TC_DONE n)).toNat)

/-- Group of spire n (TIME_GROUP, R44). -/
def State.groupNo (s : State) (n : Nat) : Nat := s.fld (Reg.TIME_GROUP (n / 8)) (4 * (n % 8)) 4

/-- The overrun report and policy of R44 for the late spires; POLICY and TIME_GROUP are read now (log entry 84). -/
def State.overrun (s : State) (late : List Nat) (tick : Nat) : State :=
  match late with
  | [] => s
  | n0 :: _ =>
    let mask := late.foldl (fun w n => putBit w n true) (0 : Word)
    let s2 := (((s.setReg Reg.TIME_OVR_LATE mask).bump Reg.TIME_OVR_CNT).err 0x010 0x10 n0 tick).raise 0x010 2
    let pol := s2.fld Reg.TIME_OVR_POLICY 0 2
    if pol = 1 then
      s2.modBel (fun b => { b with nextSkip := (List.range 32).foldl (fun w n =>
        if late.any (fun l => s2.groupNo l == s2.groupNo n) then putBit w n true else w) 0 })
    else if pol = 2 then s2.modBel (fun b => { b with overStop := true })
    else s2

/-- The comparison of R43: the overrun of R44 and the extra counts of R46. Of their errors in this cycle the one with the lower CODE comes first (R13). -/
def State.tickCompare (s : State) : State :=
  let tick := s.tb.tickCnt.toNat % 2 ^ 16
  s.extraSpires.foldl (fun t n =>
    ((t.err 0x010 0x11 n tick).raise 0x010 10).setReg (Reg.SEQ_TC_DONE n) (t.reg (Reg.SEQ_TC_EXP n))) (s.overrun s.lateSpires tick)

/-- The heartbeat check of R313: every masked spire in service that has no heartbeat since the tick start is hung. -/
def State.hbCheck (s : State) : State :=
  if s.bel.hbFirst then s.modBel (fun b => { b with hbFirst := false })
  else (List.range 32).foldl (fun t n =>
    if t.bit Reg.SEQ_HB_MASK n && t.inService n && !t.bit Reg.SEQ_HB_SEEN n then
      ((((t.setBit Reg.SEQ_HB_MISS n true).bump Reg.SEQ_HB_CNT).err 0x022 0x29 n (t.tb.tickCnt.toNat % 2 ^ 16)).raise 0x022 0).faultLine 2 n
    else t) s

/-- The schedule audit of spire n at the tick-end strobe (R311). -/
def State.audit (s : State) (n : Nat) : State :=
  if s.bit (Reg.EVT_AUD_CTL n) 0 then
    (List.range 16).foldl (fun t a =>
      let cfg := t.reg (Reg.EVT_AUD_CFG n a)
      if bitOf cfg 31 then
        let c := t.reg (evtReg n (bitsOf cfg 16 9))
        let d := (c - t.reg (Reg.EVT_AUD_LAST n a)).toNat
        let u := if d = bitsOf cfg 0 16 then t
          else
            let m := putBit (putBit (t.reg (Reg.EVT_AUD_MISS n)) a true) (16 + a) (decide (bitsOf cfg 0 16 < d))
            (((t.setReg (Reg.EVT_AUD_MISS n) m).bump (Reg.EVT_AUD_CNT n)).err (spirePage n 12) 0x80 a (bitsOf cfg 16 9)).raise (spirePage n 12) 0
        u.setReg (Reg.EVT_AUD_LAST n a) c
      else t) s
  else s

/-- TICK_END at dispatch cycle at (R62): comparison, heartbeat check, strobes, and the walk ends with left entries unreached. -/
def State.tickEnd (s : State) (at' : Nat) (left : Nat) : State :=
  let t := ((List.range 32).foldl (fun t n => t.audit n) (s.tickCompare.hbCheck)).ringStrobe
  ((t.bump Reg.SEQ_UNREACHED left).modBel (fun b => { b with walk := none })).modTb (fun b => { b with tickEndAt := some (BitVec.ofNat 64 at') })

/-! ### The walk (R63, R64) -/

/-- Index, entry, due time and run length of the entry the walk stands at. -/
def State.walkEntry (s : State) (i : Nat) : Nat × Nat × Nat × Nat :=
  let k := s.descBase s.actDesc + i
  let e := s.entry k
  let j := if s.bel.prevOff = some (entOffset e) then s.bel.run + 1 else 0
  (k, e, s.tb.tickStart.toNat + entOffset e + j, j)

/-- The effect of an entry that fits (R55), made at its dispatch (log entry 24). -/
def State.actEntry (s : State) (i k e due : Nat) : State :=
  let o := entOpcode e
  if o = 1 then s.tickEnd s.tb.now.toNat (s.descLen s.actDesc - (i + 1))
  else if o = 2 then s.actBarrier k e due
  else if o = 0x10 then s.portArm (entTindex e) (e % 2 ^ 72)
  else if o = 0x11 then s.actDma k e
  else if o = 0x12 then s.actStream k e
  else if o = 0x20 then s.actDispatch k e
  else if o = 0x21 then s.actEvt k e
  else if o = 0x22 then s.actCommit k e
  else s

/-- A bad entry (R55), with the table error of R52 when its ECC cannot correct it. -/
def State.badEntry (s : State) (k e : Nat) : State :=
  let t := ((s.bump Reg.SEQ_BAD_ENTRIES).seqErr 0x22 (entOpcode e) k).raise 0x020 4
  if s.entryUe k then (t.seqErr 0x2A 0 k).raise 0x020 13 else t

/-- The entry at position i goes out (R63, R64). -/
def State.sendEntry (s : State) (i : Nat) : State :=
  let (k, e, due, j) := s.walkEntry i
  let late := s.bel.reach - due
  let s1 := ((s.setReg Reg.SEQ_ENTRY_IDX (w32 (k % 2 ^ 17))).bump Reg.SEQ_DISP_CNT).modBel (fun b => { b with
    walk := some (i + 1), sent := true, prevOff := some (entOffset e), run := j })
  let s2 := if 0 < late then ((s1.bump Reg.SEQ_LATE_ENTRIES).raiseTo Reg.SEQ_LATE_MAX late).raise 0x020 3 else s1
  if s.entryUe k || !entryFits e then s2.badEntry k e else s2.actEntry i k e due

/-- A dispatch cycle for an entry of opcode o: nothing happens unless the walk stands at such an entry, its time has come and no entry has gone out in
this cycle. A reserved
opcode goes out as a bad entry in a NOP's dispatch cycle (R55). -/
def State.dispatchOp (s : State) (o : Nat) : State :=
  match s.bel.walk with
  | none => s
  | some i =>
    if i < s.descLen s.actDesc then
      let (_, e, due, _) := s.walkEntry i
      let op := if opcodeDefined (entOpcode e) then entOpcode e else 0
      if op = o && !s.bel.sent && Nat.max due s.bel.reach ≤ s.tb.now.toNat then s.sendEntry i else s
    else s

/-- TICK_END, or the implied one after the last entry of the range (R62). -/
def State.tickEndOp (s : State) : State :=
  match s.bel.walk with
  | none => s
  | some i =>
    if i < s.descLen s.actDesc then s.dispatchOp 1
    else if !s.bel.sent && s.bel.reach ≤ s.tb.now.toNat then
      ((s.seqErr 0x23 0 (s.descBase s.actDesc + s.descLen s.actDesc - 1)).raise 0x020 5).tickEnd s.tb.now.toNat 0
    else s

/-! ### The tick boundary (R35 to R45, R70, R72) -/

/-- The four candidate times of R36 for a pending event (the second and third not before the first tick, the fourth only after EN was 0). They are
natural numbers, so one past 2^64 never comes due (log entry 83). -/
def State.tickTimes (s : State) (e : SourceEvent) : Nat × Nat × Nat × Nat :=
  let t1 := e.time.toNat + 8
  let t2 := if s.bel.first then 0 else s.tb.tickStart.toNat + (s.reg Reg.TIME_PERIOD).toNat
  let t3 := if s.bel.first then 0 else match s.tb.tickEndAt with
    | some d => d.toNat + 1
    | none => 0
  let t4 := match s.tb.enAt with
    | some d => d.toNat
    | none => 0
  (t1, t2, t3, t4)

/-- The schedule stops with this cause (R72). -/
def State.stopSchedule (s : State) (cause : Nat) : State :=
  let t := s.setReg Reg.SEQ_STATE (w32 (cause * 2 ^ 10 + s.actDesc))
  let u := (t.setReg Reg.TIME_PERIOD 0).modTb (fun b => { b with pend := none, enAt := none })
  let v := (u.modBel (fun b => { b with walk := none, overStop := false, nextSkip := 0, skip := 0 })).raise 0x020 2
  if v.chip = 3 then v.setChip 2 else v

/-- Why the schedule stops at this boundary, 0 when it does not (R72). -/
def State.stopCause (s : State) : Nat :=
  if s.chip = 5 then 3 else if s.bel.overStop then 2 else if s.bit Reg.SEQ_STATE 9 then 1 else 0

/-- A pending switch takes effect (R70); ev is the source event time of the first tick of the new schedule. -/
def State.switchNow (s : State) (ev : BitVec 64) : State :=
  if s.bit Reg.SEQ_STATE 8 then
    let d := s.fld Reg.SEQ_STATE 4 3
    let t := s.setReg Reg.SEQ_STATE (w32 (s.fld Reg.SEQ_STATE 10 2 * 2 ^ 10 + 8 + d))
    let u := t.setReg Reg.TIME_PERIOD (t.reg (Reg.SEQ_DESC_PERIOD d))
    ((u.modTb (fun b => { b with gridK := 1 })).modBel (fun b => { b with startTime := ev.toNat })).raise 0x020 1
  else s

/-- The tick starts (R35 steps 2 to 6), for a pending event e and the flags of R37. -/
def State.startTick (s : State) (e : SourceEvent) (early held : Bool) : State :=
  let cnt := match e.link with
    | some c => c
    | none => s.tb.tickCnt + 1
  let info := w32 (Nat.min e.merged 0xFF + (if early then 2 ^ 8 else 0) + (if held then 2 ^ 9 else 0) + (if e.late then 2 ^ 10 else 0))
  let t := ((s.modTb (fun b => { b with
      tickCnt := cnt, tickStart := b.now, startShown := b.now, tickEvent := e.time, pend := none, tickEndAt := none, enAt := none, stalled := false })).setReg Reg.TICK_INFO info).modBel (fun b => { b with
      walk := some 0, reach := s.tb.now.toNat, sent := false, prevOff := none, run := 0, first := false, skip := b.nextSkip, nextSkip := 0, dispatched := 0,
      hbDue := 0xFFFFFFFF })
  let t1 := (t.setReg Reg.SEQ_HB_SEEN 0).raise 0x010 0
  let t2 := if early then (t1.bump Reg.TIME_EARLY_CNT).raise 0x010 1 else t1
  let t3 := if held then (t2.bump Reg.TIME_HELD_CNT).raise 0x010 3 else t2
  let t4 := if e.late then t3.raise 0x010 8 else t3
  let t5 := (List.range 32).foldl (fun u n => (u.cpIrq n 30).tickClose n) t4
  t5.tioTick.linkTicks

/-- TICK_BOUNDARY (R35, R36): nothing happens before the latest of the candidate times, while EN is 0 or while the walk goes on. -/
def State.tickBoundary (s : State) : State :=
  match s.tb.pend with
  | none => s
  | some e =>
    let (t1, t2, t3, t4) := s.tickTimes e
    let m := Nat.max (Nat.max t1 t2) (Nat.max t3 t4)
    if !s.seqRun || !s.bit (hdr 0x010 8) 0 || s.bel.walk.isSome || s.tb.now.toNat < m then s
    else if s.stopCause ≠ 0 then s.stopSchedule s.stopCause
    else (s.switchNow e.time).startTick e (t2 = m && t1 < t2) ((t3 = m && t1 < t3) || (t4 = m && t1 < t4))

/-! ### Commands and descriptors (R68 to R72, R76) -/

/-- The logical spire count (KEEP_SPIRES.COUNT). -/
def State.spireCount (s : State) : Nat := s.fld Reg.KEEP_SPIRES 16 6

/-- EN of page 0x020. -/
def State.belEn (s : State) : Bool := s.bit (hdr 0x020 8) 0

/-- A refused command (R69). -/
def State.cmdReject (s : State) (req cmd reason : Nat) : State := (s.err 0x020 0x21 cmd reason req).raise 0x020 7

/-- VALID and SPIRES of descriptor d. -/
def State.descValid (s : State) (d : Nat) : Bool := s.bit (Reg.SEQ_DESC_CTL d) 31
def State.descSpires (s : State) (d : Nat) : Nat := s.fld (Reg.SEQ_DESC_CTL d) 0 6

/-- An accepted START of descriptor d (R71). -/
def State.startSchedule (s : State) (d : Nat) : State :=
  let t := s.setReg Reg.SEQ_STATE (w32 (s.fld Reg.SEQ_STATE 10 2 * 2 ^ 10 + 8 + d))
  let t := t.setReg Reg.TIME_PERIOD (t.reg (Reg.SEQ_DESC_PERIOD d))
  let t := (List.range 32).foldl (fun u n => (u.setReg (Reg.SEQ_TC_EXP n) 0).setReg (Reg.SEQ_TC_DONE n) 0) t
  let t := t.modTb (fun b => { b with encAcc := 0, pend := none, gridK := 0, tickEndAt := none, enAt := none, stalled := false })
  let t := t.modBel (fun b => { b with
    walk := none, sent := false, first := true, hbFirst := true, startTime := s.nextNow, skip := 0, nextSkip := 0, dispatched := 0, overStop := false })
  let t := t.raise 0x020 0
  if t.chip = 2 then t.setChip 3 else t

/-- A write of SEQ_CMD (R69 to R72, R76); of several reasons to refuse it the first in the order of log entry 88 counts. PEND_DESC
reads 0 once no switch is pending (log entry 88). -/
def State.seqCmd (s : State) (req : Nat) (v : Word) : State :=
  let cmd := bitsOf v 28 4
  let d := bitsOf v 0 3
  if cmd = 1 then
    if s.seqRun then s.cmdReject req 1 1
    else if !(s.chip = 2 || s.chip = 4) || !s.belEn then s.cmdReject req 1 2
    else if !s.descValid d then s.cmdReject req 1 3
    else if s.spireCount < s.descSpires d then s.cmdReject req 1 4
    else s.startSchedule d
  else if cmd = 2 then
    if !s.seqRun then s.cmdReject req 2 5
    else if !s.belEn then s.cmdReject req 2 2
    else if !s.descValid d then s.cmdReject req 2 3
    else if s.spireCount < s.descSpires d then s.cmdReject req 2 4
    else s.setReg Reg.SEQ_STATE (putFld (putBit (putBit (s.reg Reg.SEQ_STATE) 9 false) 8 true) 4 3 d)
  else if cmd = 3 then
    if !s.seqRun then s.cmdReject req 3 5
    else s.setReg Reg.SEQ_STATE (putFld (putBit (putBit (s.reg Reg.SEQ_STATE) 9 true) 8 false) 4 3 0)
  else if cmd = 4 then
    if !s.bit Reg.SEQ_STATE 8 && !s.bit Reg.SEQ_STATE 9 then s.cmdReject req 4 6
    else if !s.belEn then s.cmdReject req 4 2
    else s.setReg Reg.SEQ_STATE (putFld (putBit (putBit (s.reg Reg.SEQ_STATE) 9 false) 8 false) 4 3 0)
  else s.cmdReject req cmd 7

/-- A write of EN of page 0x020: 0 while a schedule runs makes a stop pending (R76). -/
def State.belfryEn (s : State) (en : Bool) : State :=
  let t := s.setBit (hdr 0x020 8) 0 en
  if !en && s.seqRun then t.setReg Reg.SEQ_STATE (putFld (putBit (putBit (t.reg Reg.SEQ_STATE) 9 true) 8 false) 4 3 0) else t

/-- A rejected descriptor write (R68). -/
def State.descReject (s : State) (req d reason : Nat) : State := (s.err 0x020 0x20 d reason req).raise 0x020 6

/-- The reason a descriptor with these values fails the checks of R68, 0 when it passes: the first in the order of the rule (log entry 88). -/
def descCause (base len per spires : Nat) : Nat :=
  if len < 1 || 131072 < len then 1
  else if 131072 < base + len then 2
  else if per < 50000 || 100000000 < per then 3
  else if spires < 1 || 32 < spires then 4
  else 0

/-- The reason descriptor d fails the checks of R68, 0 when it passes. -/
def State.descReason (s : State) (d : Nat) : Nat :=
  descCause (s.descBase d) (s.descLen d) (s.reg (Reg.SEQ_DESC_PERIOD d)).toNat (s.descSpires d)

/-- Sets VALID of descriptor d under the checks of R68. -/
def State.descCheck (s : State) (req d : Nat) : State :=
  let r := s.descReason d
  if r = 0 then s.setBit (Reg.SEQ_DESC_CTL d) 31 true else s.descReject req d r

/-- Descriptor d is active or pending while a schedule runs. -/
def State.descInUse (s : State) (d : Nat) : Bool :=
  s.seqRun && (s.actDesc == d || (s.bit Reg.SEQ_STATE 8 && s.fld Reg.SEQ_STATE 4 3 == d))

/-- A write of SEQ_DESCd_CTL (R68). -/
def State.descCtl (s : State) (req d : Nat) (v : Word) : State :=
  let a := Reg.SEQ_DESC_CTL d
  let sp := bitsOf v 0 6
  if !bitOf v 31 then
    if s.descInUse d then s.descReject req d 6 else s.setReg a (w32 sp)
  else if s.descValid d then (if sp = s.descSpires d then s else s.descReject req d 5)
  else (s.setReg a (w32 sp)).descCheck req d

/-- A write of BASE, LEN or PERIOD (register a) of descriptor d (R68). -/
def State.descField (s : State) (req d a : Nat) (v : Word) : State :=
  if s.descValid d then s.descReject req d 5 else s.setReg a v

/-! ### Table access and loader (R73 to R75) -/

/-- Entry i lies in the range of the active descriptor or of a pending one (R73). -/
def State.tblBusy (s : State) (i : Nat) : Bool :=
  (List.range 8).any (fun d => s.descInUse d && s.descBase d ≤ i && i < s.descBase d + s.descLen d)

/-- Some entry of [i, i + n) is busy. -/
def State.tblRangeBusy (s : State) (i n : Nat) : Bool :=
  (List.range 8).any (fun d => s.descInUse d && s.descBase d < i + n && i < s.descBase d + s.descLen d)

/-- Writes a table entry's 16 bytes. -/
def State.setEntry (s : State) (i : Nat) (b : List Byte) : State := s.writeMem (cellsAt (tblAddr i) b) [] 0

/-- A write of SEQ_TBL_W3 commits W0 to W3 (R73). -/
def State.tblCommit (s : State) (req : Nat) (w3 : Word) : State :=
  let i := s.fld Reg.SEQ_TBL_IDX 0 17
  let s := s.setReg Reg.SEQ_TBL_W3 w3
  if s.tblBusy i then s.seqErr 0x27 0 i req
  else
    let v := (s.reg Reg.SEQ_TBL_W0).toNat + 2 ^ 32 * (s.reg Reg.SEQ_TBL_W1).toNat + 2 ^ 64 * (s.reg Reg.SEQ_TBL_W2).toNat + 2 ^ 96 * w3.toNat
    let t := s.setEntry i (leBytes v 16)
    if t.bit Reg.SEQ_TBL_IDX 31 then t.setFld Reg.SEQ_TBL_IDX 0 17 (i + 1) else t

/-- Applies f to the loader. -/
def State.modLoader (s : State) (f : Loader → Loader) : State := s.modBel (fun b => { b with loader := f b.loader })

/-- The loader presents the read of its next bytes: at most 256, within one 256-byte block (R73, R298), or waits for a read credit (R300). A source that
lies in no DRAM is taken as unmapped (log entry 87). -/
def State.loaderRead (s : State) : State :=
  let l := s.bel.loader
  let n := Nat.min l.left (256 - l.src % 256)
  if l.left = 0 then s
  else if l.src < s.dramCap then
    (if s.credUsed 42 (s.nodeOf l.src) < 2 then
       (s.postRead 42 (s.nodeOf l.src) (.rd l.src n (.loader s.bel.loads))).modLoader (fun l => { l with wait := false })
     else s.modLoader (fun l => { l with wait := true }))
  else { s.unmapped 42 l.src with returned := s.returned ++ [{ tag := .loader s.bel.loads, addr := l.src, data := List.replicate n 0, pois := [l.src / 8], off := false }] }

/-- The load ends with RESULT r, reported by LOAD_DONE (R75). -/
def State.loaderEnd (s : State) (r : Nat) : State := s.modLoader (fun l => { l with phase := 3, result := r })

/-- The load's end (R75): RESULT, BUSY and the interrupt and capture of its outcome. -/
def State.loaderReport (s : State) (r : Nat) : State :=
  let t := ((s.setReg Reg.SEQ_LOAD_STAT (w32 r)).setBit Reg.SEQ_LOAD_CTL 30 false).modLoader (fun _ => Loader.reset)
  if r = 0 then t.raise 0x020 11 else (t.err 0x020 0x28 0 r).raise 0x020 12

/-- Starts the copy of n entries from src to entries idx onwards, after the checks of step 3 (R75). -/
def State.loaderCopy (s : State) (src idx n : Nat) : State :=
  if 131072 < idx + n then s.loaderEnd 5
  else if s.tblRangeBusy idx n then s.loaderEnd 6
  else (s.modLoader (fun l => { l with phase := 2, src := src, left := 16 * n, idx := idx, crc := 0xFFFFFFFF })).loaderRead

/-- A write of SEQ_LOAD_CTL (R75): START is ignored while BUSY. -/
def State.loadCtl (s : State) (v : Word) : State :=
  let busy := s.bit Reg.SEQ_LOAD_CTL 30
  let t := s.setReg Reg.SEQ_LOAD_CTL (putBit (v &&& 0x107) 30 busy)
  if busy || !bitOf v 31 then t
  else
    let t := t.modBel (fun b => { b with loads := b.loads + 1 })
    let src := t.reg64 Reg.SEQ_LOAD_SRC_LO
    let idx := t.fld Reg.SEQ_LOAD_IDX 0 17
    let cnt := t.fld Reg.SEQ_LOAD_CNT 0 18
    if bitOf v 8 then
      ((t.setBit Reg.SEQ_LOAD_CTL 30 true).modLoader (fun _ => { Loader.reset with
        image := true, phase := 1, src := src, left := 64, idx := idx, dslot := bitsOf v 0 3, base := src })).loaderRead
    else if cnt = 0 then t.loaderReport 0
    else ((t.setBit Reg.SEQ_LOAD_CTL 30 true).modLoader (fun _ => Loader.reset)).loaderCopy src idx cnt

/-- One byte into the CRC-32 of IEEE 802.3, reflected form. -/
def crcByte (c : Word) (b : Byte) : Word :=
  (List.range 8).foldl (fun c _ => if bitOf c 0 then (c >>> 1) ^^^ 0xEDB88320 else c >>> 1) (c ^^^ b.setWidth 32)

/-- CRC-32 register after bytes. -/
def crcBytes (c : Word) (l : List Byte) : Word := l.foldl crcByte c

/-- CRC-32 of bytes. -/
def crc32 (l : List Byte) : Word := ~~~(crcBytes 0xFFFFFFFF l)

/-- A little-endian field of n bytes at offset o of a list of bytes. -/
def leAt (l : List Byte) (o n : Nat) : Nat := leNum ((l.drop o).take n)

/-- The reason the first 64 header bytes fail step 1 before the CRC, 0 when they pass (R74, R75). -/
def hdrReason (h : List Byte) : Nat :=
  if leAt h 0 4 ≠ 0x55445343 then 1
  else if leAt h 4 2 ≠ 2 then 2
  else if leAt h 8 1 ≠ 2 then 3
  else if leAt h 9 1 < 1 || 8 < leAt h 9 1 || leAt h 6 2 ≠ 64 + 16 * leAt h 9 1 then 4
  else 0

/-- HDR_CRC is taken as 0 in its own CRC (R74). -/
def hdrCrcOk (h : List Byte) : Bool := (crc32 (h.take 0x1C ++ [0, 0, 0, 0] ++ h.drop 0x20)).toNat == leAt h 0x1C 4

/-- The header has been read whole: the rest of step 1, and steps 2 to 4 of R75, then the copy of step 5. -/
def State.loaderHeader (s : State) (h : List Byte) : State :=
  let l := s.bel.loader
  if !hdrCrcOk h then s.loaderEnd 4
  else if s.spireCount < leAt h 0x0A 1 then s.loaderEnd 10
  else if leAt h 0x10 8 % 16 ≠ 0 then s.loaderEnd 4
  else if leAt h 0x0C 4 = 0 || 131072 < l.idx + leAt h 0x0C 4 then s.loaderEnd 5
  else if s.tblRangeBusy l.idx (leAt h 0x0C 4) then s.loaderEnd 6
  else if 8 < l.dslot + leAt h 9 1 || (List.range (leAt h 9 1)).any (fun i => s.descValid (l.dslot + i)) then s.loaderEnd 8
  else s.loaderCopy (l.base + leAt h 0x10 8) l.idx (leAt h 0x0C 4)

/-- Writes the entries of returned bytes, re-checking R73 for each (R75). -/
def State.loaderStore (s : State) (i : Nat) : Nat → List Byte → State
  | 0, _ => s
  | n + 1, b =>
    if s.tblBusy i then (s.seqErr 0x27 1 i).loaderEnd 6
    else (s.setEntry i (b.take 16)).loaderStore (i + 1) n (b.drop 16)

/-- LOAD_COPY (R73, R75): bytes that this load read have returned to the loader. A piece with a poisoned word ends the load with none of its entries
written (log entry 87). -/
def State.loadCopy (s : State) : State :=
  match s.returned.find? (fun x => x.tag == .loader s.bel.loads) with
  | none => s
  | some x =>
    let l := s.bel.loader
    let n := x.data.length
    let t := { s with returned := s.returned.erase x }
    if l.phase = 1 then
      if !x.pois.isEmpty then t.loaderEnd 9
      else
        let h := l.hdrBytes ++ x.data
        let u := t.modLoader (fun l => { l with hdrBytes := h, src := l.src + n, left := l.left - n })
        if l.left ≠ n then u.loaderRead
        else if h.length = 64 then
          (if hdrReason h ≠ 0 then u.loaderEnd (hdrReason h)
           else (u.modLoader (fun l => { l with left := 16 * leAt h 9 1 })).loaderRead)
        else u.loaderHeader h
    else if l.phase = 2 then
      if !x.pois.isEmpty then t.loaderEnd 9
      else
        let u := t.loaderStore l.idx (n / 16) x.data
        if u.bel.loader.phase ≠ 2 then u
        else
          let v := u.modLoader (fun l => { l with src := l.src + n, left := l.left - n, idx := l.idx + n / 16, crc := crcBytes l.crc x.data })
          if l.left = n then v.loaderEnd 0 else v.loaderRead
    else t

/-- Step 6 of R75: descriptor dslot + i from the header, checked by the values it carries; every descriptor of the load is left invalid when one fails.
One made VALID since step 4 is overwritten, and the descriptors after one that fails are still written (log entry 87). -/
def State.loaderDescs (s : State) (h : List Byte) (dslot base n : Nat) : State × Bool :=
  (List.range n).foldl (fun (p : State × Bool) i =>
    let d := dslot + i
    let t := ((p.1.setReg (Reg.SEQ_DESC_BASE d) (w32 ((base + leAt h (0x40 + 16 * i) 4) % 2 ^ 17))).setReg (Reg.SEQ_DESC_LEN d)
      (w32 (leAt h (0x44 + 16 * i) 4 % 2 ^ 18))).setReg (Reg.SEQ_DESC_PERIOD d) (w32 (leAt h (0x48 + 16 * i) 4))
    let u := t.setReg (Reg.SEQ_DESC_CTL d) (w32 (leAt h 0x0A 1 % 64))
    let r := descCause (base + leAt h (0x40 + 16 * i) 4) (leAt h (0x44 + 16 * i) 4) (leAt h (0x48 + 16 * i) 4) (leAt h 0x0A 1)
    let v := if r = 0 then u.setBit (Reg.SEQ_DESC_CTL d) 31 true else u.descReject 41 d r
    (v, p.2 && v.descValid d)) (s, true)

/-- LOAD_DONE (R75): the load ends with its result. -/
def State.loadDone (s : State) : State :=
  let l := s.bel.loader
  if l.phase ≠ 3 then s
  else if l.result ≠ 0 || !l.image then s.loaderReport l.result
  else
    let h := l.hdrBytes
    if (~~~l.crc).toNat ≠ leAt h 0x18 4 then s.loaderReport 7
    else
      let n := leAt h 9 1
      let (t, ok) := s.loaderDescs h l.dslot (l.idx - leAt h 0x0C 4) n
      if ok then t.loaderReport 0
      else ((List.range n).foldl (fun u i => u.setBit (Reg.SEQ_DESC_CTL (l.dslot + i)) 31 false) t).loaderReport 8

end Sys2Proof.Machine
end

