-- ==== Sys2Proof/Machine/Lantern.lean ====
section
/-! DEFINITION. The Lantern, the shared weight cache (R287 to R291, R294). -/

namespace Sys2Proof.Machine

/-- Applies f to the Lantern. -/
def State.modLan (s : State) (f : Lantern → Lantern) : State := { s with lantern := f s.lantern }

/-- Requests that wait at bank b, and its fills. -/
def State.lanQueue (s : State) (b : Nat) : List LanReq := Tab.get (fun _ => []) s.lantern.queue b
def State.lanFills (s : State) (b : Nat) : List LanFill := Tab.get (fun _ => []) s.lantern.fills b

/-- Sets the requests or the fills of bank b. -/
def State.setLanQueue (s : State) (b : Nat) (q : List LanReq) : State := s.modLan (fun l => { l with queue := Tab.set (fun _ => []) l.queue b q })
def State.setLanFills (s : State) (b : Nat) (q : List LanFill) : State := s.modLan (fun l => { l with fills := Tab.set (fun _ => []) l.fills b q })

/-- Bank and set of an address (R287). -/
def lanBank (a : Nat) : Nat := a / 256 % 4
def lanSet (a : Nat) : Nat := a / 1024 % 256

/-- The lines of the set of address a. -/
def State.lanLines (s : State) (a : Nat) : List LanLine := Tab.get (fun _ => []) s.lantern.lines (256 * lanBank a + lanSet a)

/-- Sets the lines of the set of address a. -/
def State.setLanLines (s : State) (a : Nat) (ls : List LanLine) : State :=
  s.modLan (fun l => { l with lines := Tab.set (fun _ => []) l.lines (256 * lanBank a + lanSet a) ls })

/-- Requests join their banks in arrival order (R288). -/
def State.lanAsk (s : State) (rs : List LanReq) : State :=
  rs.foldl (fun t r => t.setLanQueue (lanBank r.addr) (t.lanQueue (lanBank r.addr) ++ [r])) s

/-- Dome n presents the block requests of its LOADW through the Lantern as RDs in address order, while it holds read credits for their banks (R289, R298,
R300), k at most. -/
def State.lanSend (s : State) (n : Nat) : Nat → State
  | 0 => s
  | k + 1 =>
    match (s.dome n).lw with
    | none => s
    | some l =>
      let a := l.src + 256 * l.sent
      let nd := 48 + lanBank a
      if dw l.words 1 24 1 = 1 && l.sent < tileBlocks (dw l.words 4 0 2) && s.credUsed n nd < 2 then
        ((s.postRead n nd (.rd a 256 (.loadw ⟨n % 32, Nat.mod_lt _ (by decide)⟩ l.sent))).modDome n
          (fun d => { d with lw := d.lw.map (fun l => { l with sent := l.sent + 1 }) })).lanSend n k
      else s

/-- A block of address a reaches the LOADW of spire n that asked for it as its block blk (R288, R289). -/
def State.lanGot (s : State) (n blk a : Nat) (data : List Byte) (bad : Bool) : State :=
  s.modDome n (fun d => { d with lw := d.lw.map (fun l =>
    if dw l.words 1 24 1 = 1 && l.src + 256 * blk = a then { l with got := Tab.set (fun _ => ([], false)) l.got blk (data, bad) } else l) })

/-- LOADW (R204, R206, R289): one through the Lantern presents its first block requests. -/
def State.loadwRow (s : State) (n : Nat) : State :=
  let t := s.loadwIssue n
  if (s.dome n).lw.isNone then t.lanSend n 33 else t

/-- LAN_STAT and BLK_STAT.BUSY (R294). -/
def State.lanStat (s : State) : Word := w32 ((if s.lantern.pre.isSome then 2 else 0) + (if s.lantern.inv then 1 else 0))
def State.lanBusy (s : State) : Bool := s.lantern.inv || s.lantern.pre.isSome

/-- A preload block has been dealt with; after the last one PRE_DONE is raised (R290). -/
def State.preStep (s : State) : State :=
  match s.lantern.pre with
  | none => s
  | some k => if k ≤ 1 then (s.modLan (fun l => { l with pre := none })).raise 0x0C0 1 else s.modLan (fun l => { l with pre := some (k - 1) })

/-- A block leaves its bank for the LOADW that asked for it, in an RDR (R288, R289, R298), or ends a preload's block. -/
def State.lanDeliver (s : State) (data : List Byte) (bad : Bool) (r : LanReq) : State :=
  if r.spire = 32 then s.preStep
  else
    let t := (s.bump Reg.LAN_BLOCKS).post (48 + lanBank r.addr) r.spire
      (.rdr r.addr data (if bad then wordsOf r.addr 256 else []) false (.loadw ⟨r.spire % 32, Nat.mod_lt _ (by decide)⟩ r.blk))
    if bad then t.bump Reg.LAN_BAD else t

/-- A request leaves the queue of bank b (R300): the credit of its spire goes back. -/
def State.lanTaken (s : State) (b : Nat) (r : LanReq) : State := if r.spire < 32 then s.post (48 + b) r.spire .rcred else s

/-- BAD_FETCH of a block of bank b (R288, R294). -/
def State.lanBad (s : State) (b a : Nat) : State := (s.err 0x0C0 0xB1 b ((a / 256) % 2 ^ 16)).raise 0x0C0 3

/-- Presents the DRAM reads of bank b that wait for a read credit (R300). -/
def State.lanGo (s : State) (b : Nat) : State :=
  (s.lanFills b).foldl (fun t f =>
    if !f.sent && t.credUsed (48 + b) (t.nodeOf f.addr) < 2 then
      (t.postRead (48 + b) (t.nodeOf f.addr) (.rd f.addr 256 (.lantern ⟨b % 4, Nat.mod_lt _ (by decide)⟩ (f.addr / 256)))).setLanFills b
        ((t.lanFills b).map (fun g => if g.addr == f.addr then { g with sent := true } else g))
    else t) s

/-- A request is served as a miss (R288): merged with a fill in progress, or a new fill. -/
def State.lanMiss (s : State) (b : Nat) (r : LanReq) : State :=
  if s.dramCap ≤ r.addr then
    let (d, t) := ((s.unmapped (48 + b) r.addr).lanBad b r.addr).freeBytes 256
    t.lanDeliver d true r
  else if (s.lanFills b).any (fun f => f.addr == r.addr) then
    (s.bump Reg.LAN_MERGE).setLanFills b ((s.lanFills b).map (fun f => if f.addr == r.addr then { f with waiters := f.waiters ++ [r] } else f))
  else
    ((s.bump Reg.LAN_MISS).setLanFills b (s.lanFills b ++
      [{ addr := r.addr, waiters := [r], install := s.bit (hdr 0x0C0 8) 0, sent := false }])).lanGo b

/-- A hit moves its line to the front of its set and delivers it, with corrected words counted (R287, R291). -/
def State.lanHit (s : State) (r : LanReq) (x : LanLine) : State :=
  let t := ((s.bump Reg.LAN_HIT).bump Reg.LAN_ECC_CE x.ce).setLanLines r.addr (x :: (s.lanLines r.addr).erase x)
  ((List.range x.ce).foldl (fun u _ => u.corrected) t).lanDeliver x.data false r

/-- LANTERN_FETCH: the oldest request of bank b is served (R288, R290, R291). It waits during an invalidation, and a miss waits while 32 fills are
in progress. -/
def State.lanFetch (s : State) (b : Nat) : State :=
  match s.lanQueue b with
  | [] => s
  | r :: rest =>
    let t := (s.setLanQueue b rest).lanTaken b r
    let full := 32 ≤ (s.lanFills b).length && !(s.lanFills b).any (fun f => f.addr == r.addr) && r.addr < s.dramCap
    if s.lantern.inv then s
    else
      let line := if r.spire = 32 || !s.bit (hdr 0x0C0 8) 0 then none else (s.lanLines r.addr).find? (fun l => l.addr == r.addr)
      match line with
      | some x =>
        if x.ue then
          if full then s
          else
            ((((t.setLanLines r.addr ((t.lanLines r.addr).erase x)).bump Reg.LAN_ECC_UE).err 0x0C0 0xB0 b (lanSet r.addr)).raise 0x0C0 2).lanMiss b r
        else t.lanHit r x
      | none => if full then s else t.lanMiss b r

/-- A block is installed in its set; the least recently used of 16 lines is replaced (R287). -/
def State.lanInstall (s : State) (a : Nat) (data : List Byte) : State :=
  let old := (s.lanLines a).filter (fun l => l.addr != a)
  let x : LanLine := { addr := a, data := data, ce := 0, ue := false }
  if 16 ≤ old.length then (s.bump Reg.LAN_EVICT).setLanLines a (x :: old.take 15) else s.setLanLines a (x :: old)

/-- LANTERN_FILL: data of a miss of bank b has returned (R288, R290). -/
def State.lanFill (s : State) (b : Nat) : State :=
  match s.returned.find? (fun x => match x.tag with | .lantern c _ => c.val == b | _ => false) with
  | none => s
  | some x =>
    let t := { s with returned := s.returned.erase x }
    match (t.lanFills b).find? (fun f => f.addr == x.addr) with
    | none => t
    | some f =>
      let bad := !x.pois.isEmpty
      let t := t.setLanFills b ((t.lanFills b).erase f)
      let t := if bad then t.lanBad b f.addr else if f.install && t.bit (hdr 0x0C0 8) 0 then t.lanInstall f.addr x.data else t
      (f.waiters.foldl (fun u r => u.lanDeliver x.data bad r) t).lanGo b

/-- Starts an invalidation (R290): no fill in progress is installed. -/
def State.lanInv (s : State) : State :=
  s.modLan (fun l => { l with inv := true, lines := [], fills := l.fills.map (fun e => (e.1, e.2.map (fun f => { f with install := false }))) })

/-- INV_DONE (R290). -/
def State.lanInvDone (s : State) : State := if s.lantern.inv then (s.modLan (fun l => { l with inv := false })).raise 0x0C0 0 else s

/-- Starts a preload (R290). -/
def State.lanPre (s : State) : State :=
  let n := s.fld Reg.LAN_PRE_LEN 0 15
  let a := s.reg64 Reg.LAN_PRE_ADDR_LO
  if n = 0 then s.raise 0x0C0 1
  else (s.modLan (fun l => { l with pre := some n })).lanAsk ((List.range n).map (fun i => { spire := 32, blk := i, addr := a + 256 * i }))

/-- A write of LAN_CTL (R290, R294): dropped and captured while BUSY; one write may start both, and the preload then waits for the invalidation. -/
def State.lanCtl (s : State) (req : Nat) (v : Word) : State :=
  if !bitOf v 0 && !bitOf v 1 then s
  else if s.lanBusy then s.err 0x0C0 0x50 0 0x40 req
  else
    let t := if bitOf v 0 then s.lanInv else s
    if bitOf v 1 then t.lanPre else t

/-- A write of a preload register (R294). -/
def State.lanPreWrite (s : State) (req a : Nat) (m v : Word) : State :=
  if s.lanBusy then s.err 0x0C0 0x50 0 (a % 0x1000) req else s.setReg a (v &&& m)

/-- A warm reset or BLK_RST of the page (R294): every line is invalid. Requests and fills of LOADWs go on. -/
def State.lanReset (s : State) : State :=
  s.modLan (fun l =>
    let f := fun (f : LanFill) => { f with install := false, waiters := f.waiters.filter (fun r => r.spire != 32) }
    { l with lines := [], inv := false, pre := none
             queue := (l.queue.map (fun e => (e.1, e.2.filter (fun r => r.spire != 32)))).filter (fun e => !e.2.isEmpty)
             fills := l.fills.map (fun e => (e.1, e.2.map f)) })

end Sys2Proof.Machine
end

