-- ==== Sys2Proof/Machine/Resets.lean ====
section
/-! DEFINITION. The warm reset of each block, BLK_RST of each page (R411, R457 and each block's chapter), and the cold reset. -/

namespace Sys2Proof.Machine

/-- Registers of page p keep only the bits keep a of the register at a; the other bits return to their reset values. -/
def State.resetPage (s : State) (p : Nat) (keep : Nat → Word) : State :=
  { s with contended := s.contended.filter (fun a => a / 0x1000 != p), regs := s.regs.filterMap (fun e =>
      if e.1 / 0x1000 = p then
        let v := maskMix (keep e.1) e.2 (regReset e.1)
        if v = regReset e.1 then none else some (e.1, v)
      else some e) }

/-- Keeps whole registers at these page offsets. -/
def keepOffs (l : List Nat) (a : Nat) : Word := if l.contains (a % 0x1000) then 0xFFFFFFFF else 0

/-- What BLK_RST keeps on every page: ERR_CNT and LOCK (R14, R457). -/
def keepBlk (l : List Nat) (a : Nat) : Word := keepOffs (0x28 :: 0x2C :: l) a

/-- The MSI-X table and pending bits (R350): table entry words and pending words. -/
def isMsix (a : Nat) : Bool := (0x6E400 ≤ a && a < 0x6E800) || a = 0x6F400 || a = 0x6F404

/-- The RW bits of an MSI-X word (R350): a message address is a multiple of 4, the control word holds the mask alone, pending bits are read-only. -/
def msixBits (a : Nat) : Word := if 0x6F000 ≤ a then 0 else if a % 16 = 12 then 1 else if a % 16 = 0 then 0xFFFFFFFC else 0xFFFFFFFF

/-- The RW bits of the register at a. -/
def rwBits (a : Nat) : Word :=
  if isMsix a then msixBits a
  else match descAt a with
  | some (d, _) => d.rw
  | none => 0

/-- Scales and regions that a warm reset keeps: every RW field, E, EPREV and SEL (R233). -/
def sclKeep (n a : Nat) : Word :=
  if a % 0x1000 < 0x40 then (if a % 0x1000 = 0x08 || a % 0x1000 = 0x14 then 0xFFFFFFFF else 0)
  else if (List.range 64).any (fun t => a == Reg.DOME_TNS_EXP n t) || (List.range 4).any (fun r => a == Reg.DOME_WREG_CTL n r) then 0xFFFFFFFF
  else rwBits a

/-- Registers of an event page that a reset keeps (R304, R314): all but the header and the RC counters. -/
def evtKeep (a : Nat) : Word :=
  if a % 0x1000 < 0x40 then 0
  else match descAt a with
  | some (d, _) => ~~~d.rc
  | none => 0

/-- Cursors of the walker slots on dome page 6 (R251). -/
def winOffs : List Nat := (List.range 8).flatMap (fun w => [0x80 + 8 * w, 0x84 + 8 * w])

/-- The dome of spire n after a warm reset or BLK_RST of page 6 (R205): no descriptor, banks not valid. Tables, slots and ABUF keep their contents. -/
def Dome.idle (d : Dome) : Dome :=
  { d with
    queue := [], halt := false, active := Bank.reset, shadow := Bank.reset, actValid := false, shFull := false, run := none, lw := none, tl := none }

/-- The warm reset of the blocks of spire n (R103, R111, R137, R189, R205, R233, R251, R292, R293, R304). The
instruction cache and its line buffer keep their lines (log entry 18). -/
def State.warmSpire (s : State) (n : Nat) : State :=
  let c := s.core n
  let t := s.setCore n { Core.reset with icache := c.icache, lineBuf := c.lineBuf }
  let t := [0, 1, 2, 3, 5, 7, 10, 11, 14, 15].foldl (fun t k => t.resetPage (spirePage n k) (fun _ => 0)) t
  let t := t.resetPage (spirePage n 4) (keepOffs [0x40, 0x44])
  let t := t.resetPage (spirePage n 6) (keepOffs winOffs)
  let t := ((t.resetPage (spirePage n 8) (sclKeep n)).resetPage (spirePage n 9) (sclKeep n)).scalesWarm n
  let t := (t.resetPage (spirePage n 12) evtKeep).resetPage (spirePage n 13) evtKeep
  let t := t.modDome n Dome.idle
  let t := (List.range 4).foldl (fun t i => t.setStrm n i StreamSt.reset) t
  (List.range 8).foldl (fun t c => t.setDma (8 * n + c) DmaSt.reset) t

/-- The warm reset of the host interface pages, and BLK_RST of one of them (R361): OCU_WBASE, WSL, OCU_CTL.EN, the flags and the endpoint's own state
are kept, and every log ring ends. -/
def State.ocuReset (s : State) : State :=
  let t := s.resetPage 0x060 (keepOffs [0x40, 0x44, 0x48, 0x4C, 0x50])
  let t := t.resetPage 0x061 (fun _ => 0)
  let t := t.resetPage 0x062 (fun a => if 0x40 ≤ a % 0x1000 then 0xFFFFFFFF else 0)
  t.modHost (fun h => { h with ringLast := [], ringPos := [] })

/-- What a warm reset keeps on pages 0x06E and 0x06F: the MSI-X table and pending bits (R361). -/
def msixKeep (a : Nat) : Word := if isMsix a then 0xFFFFFFFF else 0

/-- The warm reset of the Belfry and the timebase (R31, R34, R48, R52, R75, R314): device time, the tick count and the table are kept. -/
def State.warmBelfry (s : State) : State :=
  let t := (s.modTb (fun b => { Timebase.reset with now := b.now, running := b.running, tickCnt := b.tickCnt })).resetPage 0x010 (fun a => if a = Reg.TIME_SYNC_SEQ then 0xFFFF else 0)
  let t := [0x020, 0x021, 0x023, 0x024].foldl (fun t p => t.resetPage p (fun _ => 0)) t
  let t := t.resetPage 0x022 (keepOffs [0x140])
  let t := { t with bel := { Belfry.reset with loads := s.bel.loads + 1 }, returned := t.returned.filter (fun r => match r.tag with | .loader _ => false | _ => true) }
  let t := (List.range 8).foldl (fun t j => t.resetPage (0x028 + j) (fun _ => 0)) t
  (List.range 32).foldl (fun t c => t.setDma (256 + c) DmaSt.reset) t

/-- The warm reset of every block except the Keep, the PCIe link and the Axsin links (R411): first the schedule stops, then the TIO is quiet for a
cycle. -/
def State.warmOthers (s : State) : State :=
  let t := s.warmBelfry.tioReset
  let t := (t.ocuReset.resetPage 0x06E msixKeep).resetPage 0x06F msixKeep
  let t := (List.range 16).foldl (fun t p => (t.portReset p).resetPage (0x080 + p) (fun _ => 0)) t
  let t := (List.range 8).foldl (fun t c => t.resetPage (0x0B0 + c) (keepOffs [0x40, 0x58])) t
  let t := (t.lanReset).resetPage 0x0C0 (fun _ => 0)
  (List.range 32).foldl (fun t n => t.warmSpire n) t

/-- The warm reset of every block except the Keep and the PCIe link (R411). -/
def State.warmBlocks (s : State) : State := (List.range 4).foldl (fun t a => t.axlWarm a) s.warmOthers

/-- BLK_RST of a page of the TIO (R345): as its warm reset, but ERR_CNT of its pages is kept (R457). -/
def State.tioBlkRst (s : State) : State :=
  ([0x040, 0x041, 0x042, 0x043].foldl (fun t p => t.resetPage p (keepBlk [])) s).modTio Tio.quieted

/-! ### BLK_RST -/

/-- Key of the island of spire n in State.wakeAt, after those of the vault segments. -/
def islandKey (n : Nat) : Nat := 512 + n

/-- The island of spire n starts to power up: 50 µs (R431). -/
def State.islandOn (s : State) (n : Nat) : State :=
  { s with wakeAt := Tab.set (fun _ => 0) s.wakeAt (islandKey n) (s.tb.now.toNat + 50000) }

/-- The level applied follows the automatic level and FORCE (R436). -/
def State.applyLevel (s : State) : State :=
  s.setFld Reg.KEEP_THR_STAT 0 3 (Nat.max s.keep.autoLevel (s.fld Reg.KEEP_THR_CTL 0 3))

/-- Registers of page 0x000 that record what has happened (R418, R419): the time of READY, and the unit fault with its time and tick. -/
def keepRecords : List Nat := [0x68, 0x6C, 0xC0, 0xC4, 0xC8, 0xCC]

/-- What BLK_RST of page 0x000 keeps (R457): ERR_CNT, LOCK and the read-only fields that show the machine as it is; the records of what has happened
return to 0 (log entry 18). -/
def keepOwn (a : Nat) : Word :=
  if a % 0x1000 < 0x40 then keepBlk [] a
  else if keepRecords.contains a then 0
  else if a = Reg.KEEP_CMD_STAT then 0x80000000
  else match descAt a with
  | some (d, _) => ~~~(d.rw ||| d.rc ||| d.wo ||| d.w1c)
  | none => 0

/-- BLK_RST of the Keep's page (R457): KEEP_SPIRE_PWR returns to all ones, so every island of the grid that is off powers up, and FORCE to 0. -/
def State.keepRst (s : State) : State :=
  let off := (List.range 32).filter (fun n => s.inGrid n && !s.bit Reg.KEEP_SPIRE_PWR n)
  (off.foldl State.islandOn (s.resetPage 0x000 keepOwn)).applyLevel

/-- A BLK_RST of page p that its chapter drops (R76, R166, R215, R233, R292, R293). -/
def State.blkRstDropped (s : State) (p : Nat) : Bool :=
  if isSpirePage p then
    let n := spireOfPage p
    match pageK p with
    | 2 | 3 => !s.cpQuiet n
    | 6 => (s.dome n).inProgress || !(s.core n).dsubs.isEmpty
    | 8 | 9 => (s.dome n).upd != 0
    | 10 => s.strAnyBusy n
    | 11 => (List.range 8).any (fun c => s.dmaBusy (8 * n + c))
    | _ => false
  else if 0x020 ≤ p && p ≤ 0x024 then s.seqRun || s.bit Reg.SEQ_LOAD_CTL 30
  else if 0x028 ≤ p && p < 0x030 then (List.range 4).any (fun c => s.dmaBusy (256 + 4 * (p - 0x028) + c))
  else false

/-- The timebase after BLK_RST of its page (R48): device time, the tick count and the tick that runs go on, and TICK_START reads 0 (log entry 18). -/
def Timebase.blkReset (b : Timebase) : Timebase := { b with startShown := 0, tickEvent := 0, slewPhase := 0, setLo := 0, tickSetLo := 0, syncUnread := false, enAt := none }

/-- BLK_RST of page p when it is not dropped (R457). -/
def State.blkRst (s : State) (p : Nat) : State :=
  if isSpirePage p then
    let n := spireOfPage p
    match pageK p with
    | 0 | 1 => s.cpReset n
    | 2 | 3 => ((s.resetPage (spirePage n 2) (keepBlk [])).resetPage (spirePage n 3) (keepBlk []))
    | 4 => ((s.resetPage (spirePage n 4) (keepBlk [0x40, 0x44])).resetPage (spirePage n 5) (keepBlk []))
    | 6 => (s.resetPage p (keepBlk winOffs)).modDome n Dome.idle
    | 8 | 9 => (((s.resetPage (spirePage n 8) (keepBlk [])).resetPage (spirePage n 9) (keepBlk [])).modDome n
        (fun d => { d with stats := [], propClip := [], upd := 0 }))
    | 10 => (List.range 4).foldl (fun t i => t.setStrm n i StreamSt.reset) (s.resetPage p (keepBlk []))
    | 11 => (List.range 8).foldl (fun t c => t.setDma (8 * n + c) DmaSt.reset) (s.resetPage p (keepBlk []))
    | 12 | 13 => s.resetPage p (fun a => evtKeep a ||| keepBlk [] a)
    | _ => s.resetPage p (keepBlk [])
  else if p = 0x000 then s.keepRst
  else if p = 0x010 then (s.modTb Timebase.blkReset).resetPage p (fun a => if a = Reg.TIME_SYNC_SEQ then 0xFFFF else keepBlk (if s.seqRun then [0x6C] else []) a)
  else if 0x028 ≤ p && p < 0x030 then
    (List.range 4).foldl (fun t c => t.setDma (256 + 4 * (p - 0x028) + c) DmaSt.reset) (s.resetPage p (keepBlk []))
  else if 0x040 ≤ p && p < 0x044 then s.tioBlkRst
  else if 0x060 ≤ p && p < 0x063 then s.ocuReset
  else if p = 0x06E || p = 0x06F then s
  else if 0x080 ≤ p && p < 0x090 then (s.portReset (p - 0x080)).resetPage p (keepBlk [])
  else if 0x0A0 ≤ p && p < 0x0A4 then (s.axlEn (p - 0x0A0) false).resetPage p (keepBlk [])
  else if 0x0B0 ≤ p && p < 0x0B8 then s.resetPage p (keepBlk [0x40, 0x58])
  else if p = 0x0C0 then (s.lanReset).resetPage p (keepBlk [])
  else s.resetPage p (keepBlk [])

/-! ### Cold reset (R387, R410, R447 to R449) -/

/-- Model address of the boot flash (R386); the flash is in no address range of R20 (log entry 4). -/
def flashAddr : Nat := 0x1000000000000 + 2 ^ 34

/-- Model address of the boot ROM (R385). -/
def romAddr : Nat := sramAddr + 2 ^ 20

/-- What is outside the reach of a cold reset: the boot ROM and flash. -/
def outlives (a : Nat) : Bool := (romAddr ≤ a && a < romAddr + 2 ^ 16) || flashAddr ≤ a

/-- Fused bits of the register at a (R347, R388, R412): OCU_PCI_ID.VID, KEEP_BOOT.ENFORCE, KEEP_SVN_MIN and the die identifier. -/
def fusedBits (a : Nat) : Word :=
  if a = Reg.OCU_PCI_ID then 0xFFFF else if a = Reg.KEEP_BOOT then 0x80000000
  else if a = Reg.KEEP_SVN_MIN || a = Reg.KEEP_DIE_ID_LO || a = Reg.KEEP_DIE_ID_HI then 0xFFFFFFFF else 0

/-- A cold reset: everything returns to its reset value but fuses, boot ROM and flash, the levels of pins and rails, and what has already gone to
the host. The waiting commands stay, since they come from outside. A link that was up goes down. -/
def State.coldReset (s : State) : State :=
  { State.reset with
    regs := s.regs.filterMap (fun e =>
      let v := maskMix (fusedBits e.1) e.2 (regReset e.1)
      if v = regReset e.1 then none else some (e.1, v))
    mem := s.mem.filter (fun c => outlives c.1)
    hostOut := s.hostOut
    host := { HostIf.reset with perstN := s.host.perstN }
    keep := { KeepSt.reset with resetN := s.keep.resetN, rails := s.keep.rails, keyHash := s.keep.keyHash }
    free := s.free
    pending := s.pending }

end Sys2Proof.Machine
end

