-- ==== Sys2Proof/Machine/Keep.lean ====
section
/-! DEFINITION. The Keep: secure boot, the repair map, KEEP_CMD commands, and unit faults (R384 to R389, R405, R406, R410 to R419). -/

namespace Sys2Proof.Machine

/-- Applies f to the Keep. -/
def State.modKeep (s : State) (f : KeepSt → KeepSt) : State := { s with keep := f s.keep }

/-- KEEP_STATE fields: STAGE, MODE (R390, R412). -/
def State.setStage (s : State) (v : Nat) : State := s.setFld Reg.KEEP_STATE 8 8 v
def State.bootMode (s : State) : Nat := s.fld Reg.KEEP_STATE 16 2
def State.setMode (s : State) (v : Nat) : State := s.setFld Reg.KEEP_STATE 16 2 v

/-- A member of R407 fails a stage (R408): STAGE stays at the stage reached, and the TIO becomes quiet (R339). -/
def State.bringupFail (s : State) : State := (s.setChip 5).tioSettle

/-! ### Image slots (R386 to R389) -/

/-- LEN of the image at a. -/
def State.imgLen (s : State) (a : Nat) : Nat := s.numLE (a + 0x0C) 4

/-- Step 1 of R388 passes for the image at a. -/
def State.imgFormOk (s : State) (a : Nat) : Bool :=
  let len := s.imgLen a
  s.numLE a 4 == 0x4B515655 && s.numLE (a + 4) 2 == 1 && 4 ≤ len && len ≤ 458752 && len % 4 == 0 &&
  decide (s.numLE (a + 0x10) 4 < len) && s.numLE (a + 0x14) 4 / 2 ^ 12 == 0

/-- The bytes that the signature covers (R388 step 4). -/
def State.imgSigned (s : State) (a : Nat) : List Byte :=
  s.bytes a 0x78 ++ s.bytes (a + 0x100) (s.imgLen a) ++ s.bytes (a + 0xD8) 0x28

/-- SIG verifies under ECDSA P-384 against PUBKEY (R387, R388 step 4). -/
def State.imgSigOk (s : State) (a : Nat) : Bool :=
  ecdsaOk (beNum (s.bytes (a + 0x18) 48)) (beNum (s.bytes (a + 0x48) 48)) (beNum (s.bytes (a + 0x78) 48)) (beNum (s.bytes (a + 0xA8) 48))
    (sha384 (s.imgSigned a))

/-- The steps of R388 that the image at a fails: step 1 alone, or those of steps 2 to 4. -/
def State.imgFails (s : State) (a : Nat) : List Nat :=
  if !s.imgFormOk a then [1]
  else
    (if sha384 (s.bytes (a + 0x18) 96) = s.keep.keyHash.toNat then [] else [2]) ++
    (if (s.reg Reg.KEEP_SVN_MIN).toNat ≤ s.numLE (a + 8) 4 then [] else [3]) ++
    (if s.imgSigOk a then [] else [4])

/-- The enforcement fuse is blown. -/
def State.enforced (s : State) : Bool := s.bit Reg.KEEP_BOOT 31

/-- An image that fails these steps may be run (R388). -/
def State.mayRun (s : State) (fails : List Nat) : Bool := if s.enforced then fails.isEmpty else !fails.contains 1

/-! ### The repair map (R405, R406) -/

/-- Flash address of copy k of the map. -/
def mapAddr (k : Nat) : Nat := flashAddr + 0xF00000 + 0x10000 * k

/-- Entry e of the map at a. -/
def State.mapRow (s : State) (a e : Nat) : SpareRow :=
  let w := s.numLE (a + 0x240 + 4 * e) 4
  { spire := w / 2 ^ 26 % 64, bank := w / 2 ^ 20 % 64, row := w / 2 ^ 12 % 256, spare := w / 2 ^ 10 % 4 }

/-- Order of map entries. -/
def SpareRow.key (r : SpareRow) : Nat := (r.spire * 64 + r.bank) * 256 + r.row

/-- Entries are sorted, name no spare twice and no failed spire (R406). -/
def rowsOk (failed : Nat) : List SpareRow → Bool
  | [] => true
  | r :: t =>
    !failed.testBit r.spire && !(t.any (fun x => x.spire == r.spire && x.bank == r.bank && x.spare == r.spare)) &&
    (match t with
     | [] => true
     | x :: _ => r.key ≤ x.key) && rowsOk failed t

/-- The CRC of a map of n bytes at a, its own field taken as 0. -/
def State.mapCrc (s : State) (a n : Nat) : Word := crc32 (s.bytes a 0x24 ++ [0, 0, 0, 0] ++ s.bytes (a + 0x28) (n - 0x28))

/-- Copy k of the map, or why it is rejected: 1 MAGIC or CRC, 2 identity, 3 entries, 0 for a version or size that does not fit, whose DETAIL the
spec does not state (R392, R405, R412). -/
def State.readMap (s : State) (k : Nat) : Except Nat RepairMap :=
  let a := mapAddr k
  let n := s.numLE (a + 6) 2
  if s.numLE a 4 ≠ 0x4D525155 then .error 1
  else if s.numLE (a + 4) 2 ≠ 1 || 65536 < 0x240 + 4 * n then .error 0
  else if (s.mapCrc a (0x240 + 4 * n)).toNat ≠ s.numLE (a + 0x24) 4 then .error 1
  else
    let rows := (List.range n).map (s.mapRow a)
    let failed := s.numLE (a + 0x18) 8
    if 8704 < n || !rowsOk failed rows then .error 3
    else if s.numLE (a + 8) 8 ≠ s.reg64 Reg.KEEP_DIE_ID_LO || s.numLE (a + 0x10) 1 ≠ 2 || s.numLE (a + 0x11) 1 ≠ 0xB0 then .error 2
    else .ok { copy := k, dramOk := s.numLE (a + 0x12) 1, bypA := s.numLE (a + 0x13) 1, bypB := s.numLE (a + 0x14) 1, failed := failed,
               gen := s.numLE (a + 0x20) 4, train := s.bytes (a + 0x40) 512, rows := rows }

/-- A rejected copy is reported (R412). -/
def State.mapReject (s : State) (k why : Nat) : State :=
  (if why = 0 then s.errFree 0x000 0xE2 k else s.err 0x000 0xE2 k why).raise 0x000 4

/-- Reads copy k: the map, and the state after a rejection. -/
def State.tryMap (s : State) (k : Nat) : Option RepairMap × State :=
  match s.readMap k with
  | .ok m => (some m, s)
  | .error e => (none, s.mapReject k e)

/-- Selects the map in use (R405): the higher GEN, copy 0 first when equal. -/
def State.selectMap (s : State) : State :=
  let (m0, s0) := s.tryMap 0
  let (m1, s1) := s0.tryMap 1
  s1.modKeep (fun k => { k with map := match m0, m1 with
    | some a, some b => if a.gen < b.gen then some b else some a
    | some a, none => some a
    | none, b => b })

/-- An entry as a word (R406). -/
def SpareRow.word (r : SpareRow) : Nat := r.spire <<< 26 + r.bank <<< 20 + r.row * 2 ^ 12 + r.spare * 2 ^ 10

/-- The bytes of a map of this chip (R406). -/
def State.mapBytes (s : State) (m : RepairMap) : List Byte :=
  let front := leBytes 0x4D525155 4 ++ leBytes 1 2 ++ leBytes m.rows.length 2 ++ leBytes (s.reg64 Reg.KEEP_DIE_ID_LO) 8 ++
    [0x02, 0xB0, BitVec.ofNat 8 m.dramOk, BitVec.ofNat 8 m.bypA, BitVec.ofNat 8 m.bypB, 0, 0, 0] ++ leBytes m.failed 8 ++ leBytes m.gen 4
  let rest := List.replicate 24 0 ++ m.train ++ (m.rows.map (fun r => leBytes r.word 4)).flatten
  front ++ leBytes (crc32 (front ++ [0, 0, 0, 0] ++ rest)).toNat 4 ++ rest

/-- The map of the running full start: GEN one above the map in use, or 1, in the other copy, or copy 0 when none is in use (R405). -/
def State.newMap (s : State) : RepairMap :=
  { copy := match s.keep.map with
      | some m => 1 - m.copy
      | none => 0
    dramOk := s.fld Reg.KEEP_DRAM 8 8, bypA := s.fld Reg.KEEP_SPIRES 0 5, bypB := s.fld Reg.KEEP_SPIRES 8 5, failed := s.keep.failed.toNat
    gen := match s.keep.map with
      | some m => (m.gen + 1) % 2 ^ 32
      | none => 1
    train := s.keep.train, rows := s.keep.rows }

/-- The map in use as it is to be stored (R405, R410): after a quick start the accepted copy it used, else what the start has found. -/
def State.mapToStore (s : State) : RepairMap :=
  match s.keep.map with
  | some m => if s.bootMode = 2 then { m with copy := 1 - m.copy, gen := (m.gen + 1) % 2 ^ 32 } else s.newMap
  | none => s.newMap

/-- Writes the map in use into its other copy; that copy is then the one in use (log entry 44). -/
def State.storeMap (s : State) : State :=
  let m := s.mapToStore
  let b := s.mapBytes m
  ((s.clearRange (mapAddr m.copy) (mapAddr m.copy + 0x10000)).setBytes (mapAddr m.copy) b).modKeep (fun k => { k with map := some m })

/-- A failed write of the map copy leaves free bytes in it. -/
def State.mapLost (s : State) (a n : Nat) : State :=
  let (l, t) := s.freeBytes n
  t.setBytes a l

/-! ### Running an image (R388, R392) -/

/-- Runs the image at a, which failed these steps; slot names it in the captures, or none in RECOVERY. -/
def State.runImage (s : State) (a : Nat) (slot : Option Nat) (fails : List Nat) : State :=
  let code := s.bytes (a + 0x100) (s.imgLen a)
  let entry := s.numLE (a + 0x10) 4
  let cfg := w32 (s.numLE (a + 0x14) 4)
  let t := (s.setReg Reg.KEEP_SVN (w32 (s.numLE (a + 8) 4))).setFld Reg.KEEP_BOOT 0 1 (slot.getD 0)
  let t := t.modKeep (fun k => { k with cfg := cfg, ssid := w32 (s.numLE (a + 0xD8) 4) })
  let t := if fails.isEmpty then t else (t.setBit Reg.KEEP_BOOT 30 true).raise 0x000 3
  let t := fails.foldl (fun t f =>
    match slot with
    | some k => t.err 0x000 0xE1 k f
    | none => let (v, u) := t.fresh
              u.err 0x000 0xE1 (v.toNat % 256) f) t
  let t := (t.clearRange sramAddr (sramAddr + 2 ^ 19)).setBytes sramAddr code
  let t := t.setCore 32 { Core.reset with st := 1, pc := w32 entry }
  let t := t.selectMap
  let quick := bitOf cfg 0 && t.keep.map.isSome
  ((t.setStage 1).setMode (if quick then 2 else 1)).modKeep (fun k => { k with next := 2 })

/-- The ROM enters RECOVERY (R389): PCIe is enabled with subsystem IDs 0 and WSL = 6. -/
def State.recovery (s : State) : State :=
  (((s.setStage 0x0F).setMode 3).setFld Reg.OCU_WBASE_LO 0 4 6).modKeep (fun k => { k with ssid := 0 }) |>.modHost (fun h => { h with trainEn := true })

/-- SECURE_BOOT (R388 to R390): stage LOAD runs once both PLLs of the chip have locked after a cold reset. -/
def State.secureBoot (s : State) : State :=
  if s.chip ≠ 0 || s.stage ≠ 0 || !s.keep.resetN || s.fld Reg.KEEP_CLK_STAT 0 2 ≠ 3 then s
  else
    let a := flashAddr
    let b := flashAddr + 0x800000
    let fa := s.imgFails a
    let t := s.setFld Reg.KEEP_BOOT 4 4 (fa.headD 0)
    if t.mayRun fa then t.runImage a (some 0) fa
    else
      let fb := t.imgFails b
      let u := t.setFld Reg.KEEP_BOOT 8 4 (fb.headD 0)
      if u.mayRun fb then u.runImage b (some 1) fb else u.recovery

/-- A write of KEEP_REC_DATA (R389, R412). -/
def State.recData (s : State) (req : Nat) (v : Word) : State :=
  if s.stage = 0x0F then
    let o := (s.reg Reg.KEEP_REC_ADDR).toNat
    (s.setBytes (sramAddr + o) (leBytes v.toNat 4)).setReg Reg.KEEP_REC_ADDR (w32 ((o + 4) % 2 ^ 19))
  else s.err 0x000 0x50 0 0xA4 req

/-! ### KEEP_CMD (R410, R411) -/

/-- The running command ends with RESULT r. -/
def State.cmdEnd (s : State) (r : Nat) : State := (s.setReg Reg.KEEP_CMD_STAT (w32 r)).raise 0x000 2

/-- A refused command (R410). -/
def State.cmdRefuse (s : State) (req cmd r : Nat) : State := (s.setFld Reg.KEEP_CMD_STAT 0 8 r).err 0x000 0xE0 cmd r req

/-- A warm reset (R411): the registers of page 0x000 are kept but for KEEP_CMD_STAT and the mailboxes, and the chip returns to READY or LIMITED. -/
def State.warmReset (s : State) : State :=
  let t := s.warmBlocks
  let t := t.resetPage 0x000 (fun a => if a = Reg.KEEP_CMD_STAT || (0x80 ≤ a && a < 0xA0) then 0 else 0xFFFFFFFF)
  ((if t.chip = 3 then t.setChip 2 else t).tioSettle).cmdEnd 0

/-- A write of KEEP_CMD (R410). -/
def State.keepCmd (s : State) (req : Nat) (v : Word) : State :=
  let cmd := bitsOf v 28 4
  let serving := 2 ≤ s.chip && s.chip ≤ 4
  if s.bit Reg.KEEP_CMD_STAT 31 then s.cmdRefuse req cmd 2
  else if cmd = 0 || 5 < cmd then s.cmdRefuse req cmd 3
  else if cmd = 1 then (if serving then s.warmReset else s.cmdRefuse req 1 1)
  else if cmd = 2 then (if s.chip = 0 then s.cmdRefuse req 2 1 else s.coldReset)
  else if cmd = 3 then
    (if serving then (s.setReg Reg.KEEP_CMD_STAT 0x80000000).modKeep (fun k => { k with flash := k.flash ++ [.store] }) else s.cmdRefuse req 3 1)
  else if cmd = 4 then
    (if s.chip = 0 && s.stage ≠ 0x0F then s.cmdRefuse req 4 1
     else
      let e : List Byte := [0xFF, 0xFF, 0xFF, 0xFF]
      ((((s.setReg Reg.KEEP_CMD_STAT 0x80000000).setBytes (mapAddr 0) e).setBytes (mapAddr 1) e).modKeep
        (fun k => { k with flash := k.flash ++ [.drop] })))
  else
    (if s.stage ≠ 0x0F then s.cmdRefuse req 5 1
     else
      let f := s.imgFails sramAddr
      if s.mayRun f then (s.runImage sramAddr none f).cmdEnd 0 else s.cmdEnd 5)

/-- MAP_WRITE_DONE (R405, R410): the oldest write of the map copies completes, or fails. -/
def State.mapWriteDone (s : State) (ok : Bool) : State :=
  match s.keep.flash with
  | [] => s
  | op :: rest =>
    let t := s.modKeep (fun k => { k with flash := rest })
    let m := t.mapToStore.copy
    match op with
    | .bringup => if ok then t.storeMap else t.mapLost (mapAddr m) (t.mapBytes t.mapToStore).length
    | .store => if ok then t.storeMap.cmdEnd 0 else (t.mapLost (mapAddr m) (t.mapBytes t.mapToStore).length).cmdEnd 4
    | .drop => if ok then t.cmdEnd 0 else ((t.mapLost (mapAddr 0) 4).mapLost (mapAddr 1) 4).cmdEnd 4

/-! ### Mailboxes and interrupt routing (R412, R423) -/

/-- A write of KEEP_MBOX_IN3 (R412): a host write also rings the Keep. -/
def State.mboxIn3 (s : State) (req : Nat) (v : Word) : State :=
  let t := s.setReg (Reg.KEEP_MBOX_IN 3) v
  if req = 40 then t.ocuHdb 0x00800000 else t

/-- A register that only the Keep writes (R412, R428): a write of another requester is dropped. -/
def State.keepWrite (s : State) (req a : Nat) (v : Word) : State := if req = 41 then s.setReg a v else s.err 0x000 0x50 0 (a % 0x1000) req

/-- A vector is sent again for each bit of w whose group is pending and enabled, group 9 excepted (R423). -/
def State.resend (s : State) (w : Word) : State :=
  (List.range 32).foldl (fun t v => if v ≠ 9 && bitOf w v && t.groupPend v && t.bit Reg.KEEP_IRQ_HOST v then t.sendVec v else t) s

/-- A write of KEEP_IRQ_EOI (R423). -/
def State.irqEoi (s : State) (v : Word) : State := s.resend v

/-- A write of KEEP_IRQ_HOST (R423): a bit written to 1 while its group is pending sends the vector. -/
def State.irqHost (s : State) (v : Word) : State := (s.setReg Reg.KEEP_IRQ_HOST v).resend v

/-- A write of KEEP_IRQ_KEEP (R424). -/
def State.irqKeep (s : State) (v : Word) : State := (s.setReg Reg.KEEP_IRQ_KEEP v).keepFault

/-- KEEP_IRQ_SPIRE and KEEP_IRQ_MISC (R426). -/
def State.irqSpire (s : State) : Word :=
  (List.range 32).foldl (fun w n => if (List.range 16).any (fun k => s.intPend (spirePage n k) != 0) then putBit w n true else w) 0
def State.irqMisc (s : State) : Word :=
  let put := fun (base cnt lo : Nat) (w : Word) => (List.range cnt).foldl (fun w i => if s.intPend (base + i) != 0 then putBit w (lo + i) true else w) w
  put 0x0B0 8 20 (put 0x0A0 4 16 (put 0x080 16 0 0))

/-! ### Unit faults (R418, R419) -/

/-- UNIT_FAULT (R413, R418, R419): a driven fault line reaches the state machine. The first one after a cold reset is recorded. -/
def State.unitFault (s : State) (cause unit : Nat) : State :=
  if !s.faultLines.contains (cause, unit) then s
  else
    let t := { s with faultLines := s.faultLines.erase (cause, unit) }
    if t.chip < 2 then t
    else
      let u := if t.bit Reg.KEEP_FAULT 31 then t
        else ((t.setReg Reg.KEEP_FAULT (w32 (2 ^ 31 + (cause % 8) <<< 24 + unit % 256 * 2 ^ 16))).setReg64 Reg.KEEP_FAULT_T_LO t.tb.now).setReg
          Reg.KEEP_FAULT_TICK (t.tb.tickCnt.extractLsb' 0 32)
      (u.setChip 5).tioSettle

end Sys2Proof.Machine
end

