-- ==== Sys2Proof/Machine/Bringup.lean ====
section
/-! DEFINITION. The bring-up stages PCIE to MAP, spare mapping and the logical grid (R390 to R398, R407 to R409). Each STAGE command runs its
stage as a whole; what its tests find comes with the command. -/

namespace Sys2Proof.Machine

/-- The stage due next. -/
def State.stageDue (s : State) (v : Nat) : Bool := s.keep.next == v && (s.chip == 0 || s.chip == 1)

/-- The start is a quick one. -/
def State.quick (s : State) : Bool := s.bootMode == 2

/-- A quick start falls back (R392): it continues as a full start from stage LOGIC. -/
def State.fallBack (s : State) : State :=
  (((s.setBit Reg.KEEP_STATE 19 true).setMode 1).setStage 4).modKeep (fun k => { k with next := 4 })

/-- Stage v is done and the next one is due. -/
def State.stageDone (s : State) (v : Nat) : State := s.modKeep (fun k => { k with next := v + 1 })

/-- STAGE_PCIE (R390, R391). -/
def State.stagePcie (s : State) : State :=
  if !s.stageDue 2 then s
  else
    let t := (s.setStage 2).setFld Reg.OCU_WBASE_LO 0 4 (bitsOf s.keep.cfg 8 4)
    ((t.modHost (fun h => { h with trainEn := true })).setChip 1).stageDone 2

/-- STAGE_SRAM (R390, R396, R408): physical spires with an SRAM that cannot be repaired, and whether the members of R407 passed. -/
def State.stageSram (s : State) (failed : BitVec 34) (service : Bool) : State :=
  if !s.stageDue 3 then s
  else
    let t := (s.setStage 3).modKeep (fun k => { k with failed := k.failed ||| failed })
    if service then t.stageDone 3 else t.bringupFail

/-! ### Routes (R295, R296) -/

/-- Router of a node, as y × 8 + x. -/
def routerOf (nd : Nat) : Nat :=
  if nd < 32 then nd else if nd < 40 then nd - 32 else if nd = 40 then 8 else if nd = 41 then 16 else if nd = 42 then 15 else if nd = 43 then 23
  else if nd = 44 then 0 else if nd = 45 then 24 else if nd = 46 then 7 else if nd = 47 then 31
  else if nd = 48 then 11 else if nd = 49 then 12 else if nd = 50 then 19 else if nd = 51 then 20 else 24 + (nd - 52) % 8

/-- b lies between a and c, ends included. -/
def between (a b c : Nat) : Bool := (a ≤ b && b ≤ c) || (c ≤ b && b ≤ a)

/-- The route from node a to node c passes through router r: along x in the source's row, then along y in the destination's column. -/
def routeHas (a c r : Nat) : Bool :=
  let ra := routerOf a
  let rc := routerOf c
  (r / 8 == ra / 8 && between (ra % 8) (r % 8) (rc % 8)) || (r % 8 == rc % 8 && between (ra / 8) (r / 8) (rc / 8))

/-- Some failed router lies on a route between a and c, one way or the other. -/
def routeBad (routers : Word) (a c : Nat) : Bool :=
  (List.range 32).any (fun r => bitOf routers r && (routeHas a c r || routeHas c a r))

/-- STAGE_LOGIC (R390, R392, R396, R408): physical spires whose logic BIST fails, routers that fail, and whether the chip blocks of R407 passed. -/
def State.stageLogic (s : State) (failed : BitVec 34) (routers : Word) (service : Bool) : State :=
  if !s.stageDue 4 then s
  else
    let t := s.setStage 4
    let mapFailed := match s.keep.map with
      | some m => m.failed
      | none => 0
    if s.quick && failed.toNat ≠ mapFailed then t.fallBack
    else
      let t := t.modKeep (fun k => { k with failed := k.failed ||| failed, routers := routers })
      if !service || [32, 40, 41, 42].any (fun a => [32, 40, 41, 42].any (fun c => routeBad routers a c)) then t.bringupFail else t.stageDone 4

/-! ### DRAM and links (R397, R398) -/

/-- Channels fitted (CFG.DRAM_FIT). -/
def State.dramFit (s : State) : Nat := 2 ^ bitsOf s.keep.cfg 2 2

/-- STAGE_DRAM_TRAIN (R390, R392, R397, R398, R453): the channels that train, and their density as DRC_STAT.DENS has it. -/
def State.stageDramTrain (s : State) (trained : Byte) (dens : Nat) : State :=
  if !s.stageDue 5 then s
  else
    let t := (s.setStage 5).modKeep (fun k => { k with dramResetN := true })
    let t := (List.range 4).foldl (fun t a => if bitOf s.keep.cfg (4 + a) then t.axlEn a true else t) t
    let ok := trained.toNat % 2 ^ s.dramFit
    let bad := match s.keep.map with
      | some m => (List.range s.dramFit).any (fun c => m.dramOk.testBit c && !ok.testBit c)
      | none => false
    let t := (t.setFld Reg.KEEP_DRAM 0 4 s.dramFit).setFld Reg.KEEP_DRAM 16 8 ok
    let t := (List.range s.dramFit).foldl (fun t c =>
      (t.setReg (Reg.DRC_STAT c) (w32 ((if ok.testBit c then 64 else 0) + dens % 4 * 16))).setReg (Reg.DRC_DRIFT c) 0) t
    let (l, t) := if s.quick then ((match s.keep.map with
        | some m => m.train
        | none => []), t) else t.freeBytes 512
    let t := t.modKeep (fun k => { k with train := l })
    if s.quick && bad then t.fallBack
    else if !ok.testBit 0 then t.bringupFail
    else t.stageDone 5

/-! ### Vault test (R394) -/

/-- Order of rows. -/
def badKey (r : BadRow) : Nat := (r.spire.val * 64 + r.bank.val) * 256 + r.row.toNat

/-- Inserts a row in order, once. -/
def insertRow (r : BadRow) : List BadRow → List BadRow
  | [] => [r]
  | x :: t => if badKey r < badKey x then r :: x :: t else if badKey r = badKey x then x :: t else x :: insertRow r t

/-- Spare rows mapped in for sorted failed rows: in order of row within each bank (the spec does not say which spare serves which row). -/
def assignSpares : List BadRow → List SpareRow → List SpareRow
  | [], acc => acc.reverse
  | r :: t, acc =>
    let n := match acc with
      | x :: _ => if x.spire = r.spire.val ∧ x.bank = r.bank.val then x.spare + 1 else 0
      | [] => 0
    assignSpares t ({ spire := r.spire.val, bank := r.bank.val, row := r.row.toNat, spare := n } :: acc)

/-- Physical spires with a bank of more than 4 failed rows. -/
def rowFails (rows : List SpareRow) : BitVec 34 :=
  rows.foldl (fun b r => if 4 ≤ r.spare then b ||| (1 <<< r.spire) else b) 0

/-- STAGE_VAULT (R392, R394): the rows that the march and retention tests mark failed, or in a quick start the outcome of the check. -/
def State.stageVault (s : State) (rows : List BadRow) (checkOk : Bool) : State :=
  if !s.stageDue 6 then s
  else
    let t := s.setStage 6
    if s.quick then
      if checkOk then
        let l := match s.keep.map with
          | some m => m.rows
          | none => []
        ((t.modKeep (fun k => { k with rows := l })).setReg Reg.KEEP_VREP (w32 l.length)).stageDone 6
      else t.fallBack
    else
      let all := assignSpares (rows.foldl (fun l r => insertRow r l) []) []
      let failed := s.keep.failed ||| rowFails all
      let l := all.filter (fun r => !failed.getLsbD r.spire)
      ((t.modKeep (fun k => { k with rows := l, failed := failed })).setReg Reg.KEEP_VREP (w32 l.length)).stageDone 6

/-- The largest power of two, at most the fitted count, for which channels 0 to U - 1 are all good (R397). -/
def dramUsed (fit good : Nat) : Nat :=
  ([8, 4, 2, 1].find? (fun u => u ≤ fit && (List.range u).all (fun c => good.testBit c))).getD 0

/-- STAGE_DRAM_TEST (R397, R408): the channels that pass the test of a full start. DRAM is zero filled. -/
def State.stageDramTest (s : State) (passed : Byte) : State :=
  if !s.stageDue 7 then s
  else
    let good := s.fld Reg.KEEP_DRAM 16 8 &&& (if s.quick then 0xFF else passed.toNat)
    let u := dramUsed s.dramFit good
    let dens := s.fld (Reg.DRC_STAT 0) 4 2
    let t := (s.setStage 7).clearRange 0 0x001000000000
    let t := ((t.setFld Reg.KEEP_DRAM 8 8 good).setFld Reg.KEEP_DRAM 4 4 u).setFld Reg.KEEP_DRAM 24 8 (u * 2 ^ dens)
    let t := (List.range u).foldl (fun t c => t.setBit (Reg.DRC_STAT c) 7 true) t
    if u = 0 then t.bringupFail else t.stageDone 7

/-! ### The grid (R395, R396, R409) -/

/-- Physical position of chain index j of a half (false A, true B) (R395). -/
def chainPhys (half : Bool) (j : Nat) : Nat :=
  if half then (if j = 0 then 17 else if j ≤ 8 then j + 17 else 42 - j) else (if j ≤ 7 then j else 24 - j)

/-- Logical spire of chain position i of a half (R395). -/
def chainLogical (half : Bool) (i : Nat) : Nat :=
  if half then (if i ≤ 7 then 16 + i else 39 - i) else (if i ≤ 7 then i else 23 - i)

/-- The bypass of a half (R396). -/
def bypass (failed : BitVec 34) (half : Bool) : Nat :=
  ((List.range 17).find? (fun j => failed.getLsbD (chainPhys half j))).getD (if half then 0 else 16)

/-- Chain index on which position i of a half runs (R396). -/
def chainIndex (failed : BitVec 34) (half : Bool) (i : Nat) : Nat := if i < bypass failed half then i else i + 1

/-- Logical spires whose physical spire works (R396). -/
def physGrid (failed : BitVec 34) : Word :=
  [false, true].foldl (fun w half => (List.range 16).foldl (fun w i =>
    if failed.getLsbD (chainPhys half (chainIndex failed half i)) then w else putBit w (chainLogical half i) true) w) 0

/-- A failed router takes out logical spire n (R396): it is at its position, or on a route to or from some node. -/
def routerOut (routers : Word) (n : Nat) : Bool := bitOf routers n || (routers != 0 && (List.range 60).any (fun x => routeBad routers n x))

/-- The logical grid. -/
def gridOf (failed : BitVec 34) (routers : Word) : Word :=
  (List.range 32).foldl (fun w n => if routerOut routers n then putBit w n false else w) (physGrid failed)

/-- Number of bits set. -/
def popCount (w : Word) : Nat := ((List.range 32).filter (fun n => bitOf w n)).length

/-- What the end of MAP leaves of the register at a (R393): every register outside page 0x000 returns to its reset value, but for what the stages
before it and the state of the hardware have put there (log entry 94): BAR2's size, the state of the PCIe link and the fused Vendor ID, EN with the
state and the far end of a link (R398), and the training of the DRAM channels. The MSI-X table returns to reset only under R347 (R361). -/
def mapKeep (a : Nat) : Word :=
  let p := a / 0x1000
  if p = 0 || 0x300 ≤ p then 0xFFFFFFFF
  else if p = 0x06E || p = 0x06F then msixKeep a
  else if a = Reg.OCU_WBASE_LO then 0xF
  else if a = Reg.OCU_LINK || a = Reg.OCU_PCI_ID then 0xFFFFFFFF
  else if 0x0A0 ≤ p && p < 0x0A4 then
    if a = hdr p 8 then 1 else if a = Reg.AXL_STAT (p - 0x0A0) || a = Reg.AXL_PEER (p - 0x0A0) then 0xFFFFFFFF else 0
  else if 0x0B0 ≤ p && p < 0x0B8 then (if a = Reg.DRC_STAT (p - 0x0B0) || a = Reg.DRC_DRIFT (p - 0x0B0) then 0xFFFFFFFF else 0)
  else 0

/-- Registers outside page 0x000 take their reset values at the end of MAP (R393): the blocks as at a warm reset, the links with what has trained of
them, the tick count and the last capture of time, then what those keep (log entry 94). -/
def State.mapReset (s : State) : State :=
  let t := ((List.range 4).foldl (fun t a => t.axlMap a) s.warmOthers).modTb (fun b => { b with tickCnt := 0 })
  { t with contended := [], regs := t.regs.filterMap (fun e =>
      let v := maskMix (mapKeep e.1) e.2 (regReset e.1)
      if v = regReset e.1 then none else some (e.1, v)) }

/-- STAGE_MAP (R393, R395, R396, R409): the grid is set and the chip is READY or LIMITED, or FAILED when no spire is left. In a full start with
CFG.STORE a write of the repair map then begins. -/
def State.stageMap (s : State) : State :=
  if !s.stageDue 8 then s
  else
    let f := s.keep.failed
    let g := gridOf f s.keep.routers
    let cnt := popCount g
    let t := (s.setStage 8).setReg Reg.KEEP_GRID g
    let t := t.setReg Reg.KEEP_SPIRES (w32 (cnt * 2 ^ 16 + bypass f true * 2 ^ 8 + bypass f false))
    let t := t.setReg64 Reg.KEEP_PFAIL_LO (f.setWidth 64)
    if cnt = 0 then t.bringupFail
    else
      let lim := (if cnt < 32 then 1 else 0) + (if s.fld Reg.KEEP_DRAM 4 4 < s.dramFit then 2 else 0)
      let t := t.mapReset.clearRange (vaultAddr 0 0) (vaultAddr 32 0)
      let t := (List.range 32).foldl (fun t n => t.setReg (Reg.VLT_SEG_STAT n) 2) t
      let t := (t.setReg Reg.KEEP_SPIRE_PSTAT g).setReg64 Reg.KEEP_READY_LO t.tb.now
      let t := ((t.setFld Reg.KEEP_STATE 20 2 lim).setStage 9).modKeep (fun k => { k with next := 9 })
      let t := if bitOf s.keep.cfg 1 && s.bootMode = 1 then t.modKeep (fun k => { k with flash := k.flash ++ [.bringup] }) else t
      t.setChip (if lim = 0 then 2 else 4)

end Sys2Proof.Machine
end

