-- ==== Sys2Proof/Machine/Power.lean ====
section
/-! DEFINITION. Power, clocks, thermal control and the reset pin (R428 to R437, R447 to R449, R451, R455). -/

namespace Sys2Proof.Machine

/-! ### Voltage (R428, R429) -/

/-- A write of KEEP_AVS (R428, R429). -/
def State.avsWrite (s : State) (req : Nat) (v : Word) : State :=
  if req = 41 then s.setFld Reg.KEEP_AVS 0 5 (Nat.min 24 (bitsOf v 0 5)) else s.err 0x000 0x50 0 0x140 req

/-- AVS_STEP (R429). -/
def State.avsStep (s : State) : State :=
  let cur := s.fld Reg.KEEP_AVS 8 5
  let tgt := s.fld Reg.KEEP_AVS 0 5
  if s.fld Reg.KEEP_THR_STAT 0 3 ≠ 0 then s
  else s.setFld Reg.KEEP_AVS 8 5 (if cur < tgt then cur + 1 else if tgt < cur then cur - 1 else cur)

/-- KEEP_AVS as it reads: BUSY while CUR differs from TGT. -/
def State.avsRead (s : State) : Word := putBit (s.reg Reg.KEEP_AVS) 31 (s.fld Reg.KEEP_AVS 8 5 != s.fld Reg.KEEP_AVS 0 5)

/-! ### Spire islands (R430, R431) -/

/-- The island of spire n holds the state of a cold reset; what R431 leaves undefined reads as memory that nothing has written. -/
def State.islandReset (s : State) (n : Nat) : State :=
  let t := [0, 1, 2, 3, 6, 7, 8, 9, 10, 11].foldl (fun t k => t.resetPage (spirePage n k) (fun _ => 0)) s
  let t := ((t.setCore n Core.reset).setDome n Dome.reset).clearRange (0x1000000000000 + 2 ^ 32 + n <<< 18) (0x1000000000000 + 2 ^ 32 + (n + 1) <<< 18)
  let t := (List.range 4).foldl (fun t i => t.setStrm n i StreamSt.reset) t
  (List.range 8).foldl (fun t c => t.setDma (8 * n + c) DmaSt.reset) t

/-- The island of spire n powers down. -/
def State.islandOff (s : State) (n : Nat) : State :=
  let t := s.islandReset n
  { (t.modBel (fun b => { b with hbDue := putBit b.hbDue n false })).setBit Reg.KEEP_SPIRE_PSTAT n false with wakeAt := Tab.set (fun _ => 0) t.wakeAt (islandKey n) 0 }

/-- A write of KEEP_SPIRE_PWR that would leave v in it (R430): accepted while no schedule runs in READY or LIMITED, for spires of the grid. -/
def State.spirePower (s : State) (req : Nat) (v : Word) : State :=
  if s.bit Reg.SEQ_STATE 3 || !(s.chip == 2 || s.chip == 4) then s.err 0x000 0x50 0 0x158 req
  else
    let old := s.reg Reg.KEEP_SPIRE_PWR
    let new := maskMix (s.reg Reg.KEEP_GRID) v old
    (List.range 32).foldl (fun t n =>
      if bitOf old n == bitOf new n then t else if bitOf new n then t.islandOn n else t.islandOff n) (s.setReg Reg.KEEP_SPIRE_PWR new)

/-- SPIRE_POWER_READY (R431): a powering island is ready once its time has passed. -/
def State.islandReady (s : State) (n : Nat) : State :=
  let at' := Tab.get (fun _ => 0) s.wakeAt (islandKey n)
  if at' = 0 || s.tb.now.toNat < at' then s
  else
    let t := s.islandReset n
    { t.setBit Reg.KEEP_SPIRE_PSTAT n true with wakeAt := Tab.set (fun _ => 0) t.wakeAt (islandKey n) 0 }

/-! ### Thermal control (R435, R436, R451) -/

/-- A write of KEEP_THR_CTL: 5 to 7 store 4. -/
def State.thrCtl (s : State) (v : Word) : State := (s.setReg Reg.KEEP_THR_CTL (w32 (Nat.min 4 (bitsOf v 0 3)))).applyLevel

/-- A write of KEEP_THERM_CFG (R437): TRIP is limited to 0xB9; a THROT at or above TRIP is dropped. -/
def State.thermCfg (s : State) (req : Nat) (v : Word) : State :=
  let trip := Nat.min 0xB9 (bitsOf v 24 8)
  if trip ≤ bitsOf v 16 8 then s.err 0x000 0x50 0 0x148 req
  else s.setReg Reg.KEEP_THERM_CFG (putFld (v &&& 0xFFFFFF00) 24 8 trip)

/-- A trip of sensor i (R418, R436, R451). -/
def State.thermTrip (s : State) (i : Nat) : State := ((s.faultLine 5 i).classCnt 3).modKeep (fun k => { k with thermN := true })

/-- THERMAL_READING (R435, R436). -/
def State.thermal (s : State) (temps : List Byte) : State :=
  let l := (temps.zipIdx).take 12
  let t := l.foldl (fun t e => t.setReg (Reg.KEEP_THERM e.2) (w32 e.1.toNat)) s
  let t := t.setFld Reg.KEEP_THR_STAT 8 8 (l.foldl (fun m e => Nat.max m e.1.toNat) 0)
  l.foldl (fun t e => if t.fld Reg.KEEP_THERM_CFG 24 8 ≤ e.1.toNat then t.thermTrip e.2 else t) t

/-- THROTTLE_LEVEL (R436). -/
def State.throttle (s : State) : State :=
  let tmax := s.fld Reg.KEEP_THR_STAT 8 8
  let throt := s.fld Reg.KEEP_THERM_CFG 16 8
  let a := s.keep.autoLevel
  let a' := if throt ≤ tmax then Nat.min 4 (a + 1) else if tmax + s.fld Reg.KEEP_THERM_CFG 8 8 < throt then a - 1 else a
  (s.modKeep (fun k => { k with autoLevel := a' })).applyLevel

/-- KEEP_THR_US counts each µs of device time at a level above 0 (R436); one TCLK passes. -/
def State.thrTick (s : State) : State :=
  if s.fld Reg.KEEP_THR_STAT 0 3 = 0 || !s.tb.running then s
  else if 999 ≤ s.keep.thrNs then (s.bump Reg.KEEP_THR_US).modKeep (fun k => { k with thrNs := 0 })
  else s.modKeep (fun k => { k with thrNs := k.thrNs + 1 })

/-! ### DRAM training (R403) -/

/-- Channel c loses training (R403): reported once, and a unit fault when it is in use. -/
def State.trainLost (s : State) (c : Nat) : State :=
  if s.bit (Reg.DRC_STAT c) 6 then
    let p := 0x0B0 + c
    let t := ((s.err p 0xF1 0 (s.fld (Reg.DRC_DRIFT c) 0 16)).raise p 2).setBit (Reg.DRC_STAT c) 6 false
    if t.bit (Reg.DRC_STAT c) 7 then t.faultLine 4 c else t
  else s

/-! ### Clocks and reset (R432, R433, R447, R448) -/

/-- Bit of a PLL in KEEP_CLK_STAT. -/
def pllBit : Pll → Nat
  | .time => 0
  | .core => 1
  | .mem => 2
  | .pcie => 3
  | .link a => 4 + a.val

/-- PLL_LOCK (R31, R432): device time counts once the time PLL has locked; the cold reset hold ends when the time and core PLLs both have. -/
def State.pllLock (s : State) (p : Pll) : State :=
  if !s.keep.resetN then s
  else
    let t := s.setBit Reg.KEEP_CLK_STAT (pllBit p) true
    match p with
    | .time => t.modTb (fun b => { b with running := true })
    | _ => t

/-- PLL_LOSS_OF_LOCK (R433). -/
def State.pllLoss (s : State) (p : Pll) : State :=
  let t := s.setBit Reg.KEEP_CLK_STAT (pllBit p) false
  match p with
  | .time | .core => s.coldReset
  | .mem => (List.range 8).foldl (fun t c => t.trainLost c) t
  | .pcie => t.dlDown
  | .link a => if t.axlState a.val = 0 then t else t.linkDown a.val (t.fld (Reg.AXL_STAT a.val) 20 8) true

/-- RESET_N (R447, R448): low for 10 µs is a cold reset at any time, which lasts until it rises. -/
def State.resetPin (s : State) (rise : Bool) : State :=
  if rise then s.modKeep (fun k => { k with resetN := true })
  else (s.modKeep (fun k => { k with resetN := false })).coldReset

/-- RAIL_RANGE_CHANGE (R447 to R449): the device does not monitor its rails, and only the TIO balls follow them. What it does between a rail that
leaves its range and RESET_N low is undefined, and the model lets it run on (log entry 85). -/
def State.railChange (s : State) (r : Rail) (l : RailLevel) : State :=
  let others := s.keep.rails.filter (fun e => e.1 != r)
  s.modKeep (fun k => { k with rails := match l with
    | .within => others
    | _ => others ++ [(r, l == .below)] })

/-- The level at the balls DRc_RESET_N (R453): low from the start of a cold reset until stage DRAM_TRAIN. -/
def State.drcResetN (s : State) : Bool := s.keep.dramResetN

/-- The level at ball TIO_OUTc (R449): none when high impedance, low while RESET_N is low. -/
def State.tioBall (s : State) (c : Nat) : Option Bool :=
  if s.keep.rails.contains (Rail.vddCore, true) || s.keep.rails.contains (Rail.vddio33, true) then none
  else some (s.keep.resetN && s.tioOut c)

/-- PERST_N_RISE (R455). -/
def State.perstRise (s : State) : State := s.modHost (fun h => { h with perstN := true })

end Sys2Proof.Machine
end

