-- ==== Sys2Proof/Machine/Dram.lean ====
section
/-! DEFINITION. The DRAM channels in service (R21, R22, R399 to R404, R460). -/

namespace Sys2Proof.Machine

/-- Channel c beside its registers. -/
def State.dch (s : State) (c : Nat) : DramCh := Tab.get (fun _ => DramCh.reset) s.dram c

/-- Applies f to channel c. -/
def State.modDch (s : State) (c : Nat) (f : DramCh → DramCh) : State :=
  { s with dram := Tab.set (fun _ => DramCh.reset) s.dram c (f (s.dch c)) }

/-- The channel is in use and trained: READY (R399). -/
def State.drcReady (s : State) (c : Nat) : Bool := s.bit (Reg.DRC_STAT c) 7 && s.bit (Reg.DRC_STAT c) 6

/-- What a read of [a, a + len) at a DRAM channel returns (R22, R400, R403): bytes, poisoned words, and the state after it. -/
def State.dramRead (s : State) (c a len req : Nat) : List Byte × List Nat × State :=
  if s.dramCap < a + len then
    let (b, t) := s.freeBytes len
    (b, wordsOf a len, t.unmapped req a)
  else if !s.drcReady c then
    let (b, t) := s.freeBytes len
    (b, wordsOf a len, t)
  else s.readMem a len req

/-- The node to which the acknowledgement of a write goes: that of the DMA channel whose write it is, else the sender (R273, R302). -/
def ackNode (src : Nat) : Tag → Nat
  | .dma ch _ _ _ => if ch.val < 256 then ch.val / 8 else 42
  | _ => src

/-- Acknowledges a PW or INC m from node nd. -/
def State.ackMsg (s : State) (nd : Nat) (m : Msg) (tag : Tag) : State := s.post nd (ackNode m.src.val tag) (.ack m.id tag)

/-- Answers a read request with writes cut at the 256-byte boundaries of the destination (R298): data from address a, poisoned words bad. -/
def State.answerWrites (s : State) (nd a dst : Nat) (data : List Byte) (bad : List Nat) (tag : Tag) : State :=
  (cutBlocks dst data.length).foldl (fun t q =>
    let o := q.1 - dst
    let pois := poisMove (a + o) q.1 q.2 bad
    let tag' := match tag with
      | .dma ch _ _ _ => .dma ch q.2 (q.1 / 256) (!pois.isEmpty)
      | x => x
    t.post nd (t.nodeOf q.1) (.pw (cellsAt q.1 ((data.drop o).take q.2)) pois none false tag') false) s

/-- The read credit of m goes back to its sender (R300). -/
def State.credBack (s : State) (nd : Nat) (m : Msg) : State := s.post nd m.src.val .rcred

/-- The bytes of a queued request: start and length. -/
def reqRange : Body → Nat × Nat
  | .rreq a n _ _ => (a, n)
  | .rd a n _ => (a, n)
  | _ => (0, 0)

/-- Request i of the queue may be served (R301, R460): no earlier one of its source waits, and a read waits for every earlier write of its bytes. -/
def mayServe (q : List Msg) (i : Nat) (m : Msg) : Bool :=
  (q.take i).all (fun x => x.src != m.src &&
    (match x.body with
     | .pw cells _ _ _ _ => !(cells.any (fun c => (reqRange m.body).1 ≤ c.1 && c.1 < (reqRange m.body).1 + (reqRange m.body).2))
     | _ => true))

/-- Channel c serves request m (R22, R400, R403, R460). -/
def State.dramServe (s : State) (c : Nat) (m : Msg) : State :=
  match m.body with
  | .pw cells pois _ _ _ =>
    (match cells with
     | [] => s
     | (a, _) :: _ =>
       if s.dramCap ≤ a then s.unmapped m.src.val a
       else if !s.drcReady c then s
       else (s.writeMem cells pois m.src.val).count (Reg.DRC_WR_BLK c))
  | .rreq a len dst tag =>
    let (b, bad, t) := (s.credBack (32 + c) m).dramRead c a len m.src.val
    (if s.drcReady c then t.count (Reg.DRC_RD_BLK c) else t).answerWrites (32 + c) a dst b bad tag
  | .rd a len tag =>
    let (b, bad, t) := (s.credBack (32 + c) m).dramRead c a len m.src.val
    (if s.drcReady c then t.count (Reg.DRC_RD_BLK c) else t).post (32 + c) m.src.val (.rdr a b bad false tag)
  | _ => s

/-- DRAM_REQUEST_SERVE (R460). -/
def State.dramRequestServe (s : State) (c i : Nat) : State :=
  let q := (s.dch c).queue
  match q[i]? with
  | none => s
  | some m =>
    if mayServe q i m then (s.modDch c (fun d => { d with queue := d.queue.eraseIdx i })).dramServe c m else s

/-- A request reaches channel c (R302, R401, R460): a write is acknowledged when it is taken, and cancels a scrub write-back of its block. -/
def State.dramTake (s : State) (c : Nat) (m : Msg) : State :=
  let t := s.modDch c (fun d => { d with queue := d.queue ++ [m] })
  match m.body with
  | .pw cells _ _ _ tag => (t.cancelScrub cells).ackMsg (32 + c) m tag
  | _ => t

/-- Channel c has room for one more request (R460). -/
def State.dramRoom (s : State) (c : Nat) : Bool := (s.dch c).queue.length < 64

/-! ### Scrubbing, refresh and training (R401 to R403) -/

/-- Blocks of channel c. -/
def State.drcBlocks (s : State) (c : Nat) : Nat := (2 ^ s.fld (Reg.DRC_STAT c) 4 2) <<< 22

/-- Block b of the DRAM in use lies in channel c (R21). -/
def State.drcOwns (s : State) (c b : Nat) : Bool := b < 2 ^ 28 && b % Nat.max 1 (s.fld Reg.KEEP_DRAM 4 4) == c

/-- DRAM_SCRUB (R401): the channel writes back what its last scrub read found and no write has cancelled, and reads its next block. Requests from
the mesh come first. -/
def State.dramScrub (s : State) (c : Nat) : State :=
  if !s.drcReady c || !(s.dch c).queue.isEmpty then s
  else
    let s := s.scrubWriteBack (s.drcOwns c)
    if !s.bit (Reg.DRC_SCRUB_CTL c) 31 then s else
    let k := (s.reg (Reg.DRC_SCRUB_POS c)).toNat
    let b := k * s.fld Reg.KEEP_DRAM 4 4 + c
    let t := s.scrubBlock b (32 + c)
    if k + 1 < s.drcBlocks c then t.setReg (Reg.DRC_SCRUB_POS c) (w32 (k + 1))
    else ((t.setReg (Reg.DRC_SCRUB_POS c) 0).count (Reg.DRC_SCRUB_PASS c)).raise (0x0B0 + c) 4

/-- A write of DRC_SCRUB_CTL: an INTERVAL of 0 stores 1. -/
def State.drcScrubCtl (s : State) (c : Nat) (v : Word) : State :=
  s.setReg (Reg.DRC_SCRUB_CTL c) (if bitsOf v 0 16 = 0 then putFld (v &&& 0x80000000) 0 16 1 else v &&& 0x8000FFFF)

/-- MR4_READ (R402): HIGH is set when a device reports the code of JESD209-5B for a temperature above its operating range, 0b11111 (log entry 41). -/
def State.mr4 (s : State) (c a b : Nat) : State :=
  if !s.bit (Reg.DRC_STAT c) 6 then s
  else
    let t := (s.setFld (Reg.DRC_TEMP c) 0 5 a).setFld (Reg.DRC_TEMP c) 8 5 b
    if a = 31 || b = 31 then (t.setBit (Reg.DRC_TEMP c) 16 true).raise (0x0B0 + c) 3 else t

/-- DELAY_CORRECTION (R403): the drift measured, or none when the oscillator reading fails. -/
def State.delayCorrection (s : State) (c : Nat) (drift : Option (BitVec 16)) : State :=
  if !s.bit (Reg.DRC_STAT c) 6 then s
  else match drift with
  | none =>
    if (s.dch c).oscFail then (s.modDch c (fun d => { d with oscFail := false })).trainLost c
    else s.modDch c (fun d => { d with oscFail := true })
  | some d =>
    let t := ((s.modDch c (fun x => { x with oscFail := false })).setReg (Reg.DRC_DRIFT c) (w32 d.toNat)).bump (Reg.DRC_ADJ_CNT c)
    if 32 < d.toInt.natAbs then t.trainLost c else t

/-- REFRESH (R402): no state of the model changes. -/
def State.refresh (s : State) (_ : Nat) : State := s

end Sys2Proof.Machine
end

