-- ==== Sys2Proof/Machine/TioIn.lean ====
section
/-! DEFINITION. The input side of the timed I/O unit (R340 to R345): timed inputs, captures and quadrature encoders. -/

namespace Sys2Proof.Machine

/-- The resolved time of a level that has held for held ns under a filter of filt ns: the crossing of the threshold plus FILT, none for a pulse
that is too short (R340, log entry 93). -/
def State.resolved (s : State) (filt held : Nat) : Option (BitVec 64) :=
  if filt ≤ held then some (s.tb.now - BitVec.ofNat 64 (held - filt)) else none

/-- The capture FIFO of input i. -/
def State.caps (s : State) (i : Nat) : List TioCap := Tab.get (fun _ => []) s.tio.caps i

/-- Sets the capture FIFO of input i. -/
def State.setCaps (s : State) (i : Nat) (l : List TioCap) : State :=
  s.modTio (fun t => { t with caps := Tab.set (fun _ => []) t.caps i l })

/-- The 16-byte record of a capture (R342). -/
def capRecord (i : Nat) (rise : Bool) (tm : BitVec 64) (cseq : Nat) : List Byte :=
  leBytes tm.toNat 8 ++ [BitVec.ofNat 8 i, if rise then 1 else 0] ++ leBytes cseq 2 ++ [0, 0, 0, 0]

/-- The posted write of a capture (R342): one to a spire outside the grid is dropped. -/
def State.capPost (s : State) (i : Nat) (rise : Bool) (tm : BitVec 64) (cseq : Nat) : State :=
  let cfg := s.reg (Reg.TIO_IN_CFG i)
  if bitOf cfg 28 && s.inGrid (bitsOf cfg 19 5) then
    let n := bitsOf cfg 19 5
    let o := (s.fld (Reg.TIO_IN_RING i) 0 16 * 256 + cseq % 2 ^ bitsOf cfg 24 4 * 16) % 2 ^ 24
    s.post 43 n (.pw (cellsAt (vaultAddr n o) (capRecord i rise tm cseq)) [] (some ⟨bitsOf cfg 10 9 % 512, Nat.mod_lt _ (by decide)⟩) false .plain)
  else s

/-- An edge is captured: into the FIFO, or dropped and counted when it is full (R341). -/
def State.capture (s : State) (i : Nat) (rise : Bool) (tm : BitVec 64) : State :=
  let st := Reg.TIO_IN_CAP_STAT i
  let cseq := s.fld st 0 16
  if 4 ≤ (s.caps i).length then
    ((s.setFld st 24 8 (Nat.min 255 (s.fld st 24 8 + 1))).err 0x042 0xC4 i cseq).raise 0x042 1
  else
    (((s.setCaps i (s.caps i ++ [{ time := tm, rise := rise }])).setFld st 0 16 (cseq + 1)).raise 0x042 0).capPost i rise tm cseq

/-- EDGE of input i selects this polarity (R341). -/
def State.edgeSel (s : State) (i : Nat) (rise : Bool) : Bool :=
  let e := s.fld (Reg.TIO_IN_CFG i) 29 2
  (e == 0 && rise) || (e == 1 && !rise) || e == 2

/-- INPUT_EDGE: the ball of input i has held its new level for held ns (R340). The change is accepted when it has held for FILT ns, and is then an
edge at its resolved time (R341). -/
def State.inputEdge (s : State) (i : Nat) (rise : Bool) (held : Nat) : State :=
  match s.resolved (s.fld (Reg.TIO_IN_CFG i) 0 8) held with
  | none => s
  | some tm =>
    if rise == s.tio.inLvl.contains i then s
    else
      let t := s.modTio (fun x => { x with inLvl := if rise then NatSet.insert x.inLvl i else NatSet.erase x.inLvl i })
      if s.bit (Reg.TIO_IN_CFG i) 31 && s.edgeSel i rise then (t.capture i rise tm).triggerTick i rise tm else t

/-- A read of TIO_INi_CAP_HI removes the head capture (R341). -/
def State.capPop (s : State) (i : Nat) : State := s.setCaps i (s.caps i).tail

/-- The time of the head capture; with none held the registers read 0. -/
def State.capTime (s : State) (i : Nat) : BitVec 64 := ((s.caps i).head?.map (·.time)).getD 0

/-- TIO_INi_CAP_STAT as read (R345). -/
def State.capStat (s : State) (i : Nat) : Word :=
  putBit (putFld (s.reg (Reg.TIO_IN_CAP_STAT i)) 16 3 (s.caps i).length) 19 (((s.caps i).head?.map (·.rise)).getD false)

/-- A write of a configuration register a that holds EN in bit 31, while EN is 1 (R345): EN = 0 clears EN; the fields of mask keep are
dropped, captured when they differ or, with strict, whenever EN is written 1. -/
def State.enWrite (s : State) (req a : Nat) (v keep : Word) (strict : Bool) : State :=
  let old := s.reg a
  let differ := (old ^^^ v) &&& keep != 0
  let t := if differ || (strict && bitOf v 31) then s.err (a / 0x1000) 0x50 0 (a % 0x1000) req else s
  t.setReg a (maskMix keep old v)

/-- A write of TIO_INi_CFG (R345). -/
def State.inCfgWrite (s : State) (req i : Nat) (v : Word) : State :=
  let a := Reg.TIO_IN_CFG i
  let v := v &&& 0xFFFFFCFF
  if s.bit a 31 then s.enWrite req a v 0x7FFFFFFF true else s.setReg a v

/-- A write of TIO_INi_RING (R345). -/
def State.inRingWrite (s : State) (req i : Nat) (v : Word) : State :=
  if s.bit (Reg.TIO_IN_CFG i) 31 then s.err 0x042 0x50 0 (Reg.TIO_IN_RING i % 0x1000) req else s.setReg (Reg.TIO_IN_RING i) (v &&& 0xFFFF)

/-- A write of TIO_ENCe_CFG (R345): while EN stays 1 ZEN can change, and DIR and FILT cannot. -/
def State.encCfgWrite (s : State) (req e : Nat) (v : Word) : State :=
  let a := Reg.TIO_ENC_CFG e
  let v := v &&& 0xE00000FF
  if s.bit a 31 then s.enWrite req a v (if bitOf v 31 then 0x400000FF else 0x600000FF) false else s.setReg a v

/-- The accepted levels of A and B of encoder e. -/
def State.encLvl (s : State) (e : Nat) : Bool × Bool := Tab.get (fun _ => (false, false)) s.tio.encLvl e

/-- One count of encoder e at resolved time tm (R343, R344). -/
def State.encCount (s : State) (e : Nat) (fwd : Bool) (tm : BitVec 64) : State :=
  let p := s.reg (Reg.TIO_ENC_POS e)
  ((s.setReg (Reg.TIO_ENC_POS e) (if fwd then p + 1 else p - 1)).setReg64 (Reg.TIO_ENC_TLO e) tm).encoderTick e fwd tm

/-- The accepted levels of A and B of encoder e become a and b at resolved time tm (R343). -/
def State.encStep (s : State) (e : Nat) (a b : Bool) (tm : BitVec 64) : State :=
  let (a0, b0) := s.encLvl e
  let t := s.modTio (fun x => { x with encLvl := Tab.set (fun _ => (false, false)) x.encLvl e (a, b) })
  let cfg := s.reg (Reg.TIO_ENC_CFG e)
  if !bitOf cfg 31 || (a == a0 && b == b0) then t
  else if a != a0 && b != b0 then
    ((t.bump (Reg.TIO_ENC_ERR e)).err 0x043 0xC5 e (t.fld (Reg.TIO_ENC_POS e) 0 16)).raise 0x043 e
  else
    let fwd0 := if a != a0 then a != b else a == b
    t.encCount e (fwd0 != bitOf cfg 30) tm

/-- The resolved time of a change of an encoder's input from the accepted level old to new, which has held for held ns: none when there is none, or when
it has not held for FILT (R340, R343). -/
def State.encChange (s : State) (e : Nat) (old new : Bool) (held : Nat) : Option (BitVec 64) :=
  if old == new then none else s.resolved (s.fld (Reg.TIO_ENC_CFG e) 0 8) held

/-- ENCODER_COUNT: the balls of A and B of encoder e have held levels a and b, each for its own time, and each is filtered alone (R340, R343). Changes of
both that are accepted in one TCLK of 2 ns make no count; otherwise the earlier counts first. -/
def State.encoderCount (s : State) (e : Nat) (a b : Bool) (heldA heldB : Nat) : State :=
  let (a0, b0) := s.encLvl e
  match s.encChange e a0 a heldA, s.encChange e b0 b heldB with
  | none, none => s
  | some tm, none => s.encStep e a b0 tm
  | none, some tm => s.encStep e a0 b tm
  | some x, some y =>
    if x.toNat / 2 = y.toNat / 2 then s.encStep e a b x
    else if x.toNat < y.toNat then (s.encStep e a b0 x).encStep e a b y
    else (s.encStep e a0 b y).encStep e a b x

/-- INDEX: Z of encoder e has held a level for held ns (R340); an accepted rising edge loads ZPOS and ZTIME under ZEN (R344). -/
def State.encIndex (s : State) (e : Nat) (high : Bool) (held : Nat) : State :=
  match s.encChange e (s.tio.encZ.contains e) high held with
  | none => s
  | some tm =>
    let t := s.modTio (fun x => { x with encZ := if high then NatSet.insert x.encZ e else NatSet.erase x.encZ e })
    if high && s.bit (Reg.TIO_ENC_CFG e) 29 then
      ((t.setReg (Reg.TIO_ENC_ZPOS e) (s.reg (Reg.TIO_ENC_POS e))).setReg64 (Reg.TIO_ENC_ZTLO e) tm).raise 0x043 (8 + e)
    else t

end Sys2Proof.Machine
end

