-- ==== Sys2Proof/Machine/Registers.lean ====
section
/-! DEFINITION. Reads and writes of register pages by any requester (R4 to R14, R17, R22 to R25, R457 and each chapter's register section). A register is
named by its BAR0 offset a; req is the mesh node of the requester (R295). -/

namespace Sys2Proof.Machine

/-! ### Pages and blocks -/

/-- Page p is listed in R23 and assigned by its chapter (R24, R25, R76, R345, R361). -/
def pageListed (p : Nat) : Bool :=
  p == 0x000 || p == 0x010 || (0x020 ≤ p && p ≤ 0x024) || (0x028 ≤ p && p < 0x030) || (0x040 ≤ p && p < 0x044) || (0x060 ≤ p && p < 0x063)
    || p == 0x06E || p == 0x06F || (0x080 ≤ p && p < 0x090) || (0x0A0 ≤ p && p < 0x0A4) || (0x0B0 ≤ p && p < 0x0B8) || p == 0x0C0
    || (isSpirePage p && pageK p < 14)

/-- First page of the block of page p (R14, R23, R25, R76). -/
def blockBase (p : Nat) : Nat :=
  if isSpirePage p then
    p - (match pageK p with
      | 1 => 1 | 5 => 1 | 7 => 1 | 8 => 2 | 9 => 3 | 13 => 1 | _ => 0)
  else if 0x020 ≤ p && p < 0x028 then 0x020
  else if 0x028 ≤ p && p < 0x030 then 0x028
  else if 0x040 ≤ p && p < 0x050 then 0x040
  else if 0x060 ≤ p && p < 0x070 then 0x060
  else p

/-- Page that holds the captures of errors of page p (R76, R361, and the error code tables of R104, R233). -/
def errPage (p : Nat) : Nat :=
  if isSpirePage p then (if pageK p = 1 || pageK p = 9 then p - 1 else p)
  else if 0x020 ≤ p && p < 0x025 && p ≠ 0x022 then 0x020
  else if 0x060 ≤ p && p < 0x070 then 0x060
  else p

/-- BLK_TYPE of page p (R5). -/
def blkType (p : Nat) : Nat :=
  if isSpirePage p then
    match pageK p with
    | 0 => 0x10 | 1 => 0x10 | 2 => 0x11 | 3 => 0x12 | 4 => 0x13 | 5 => 0x13 | 6 => 0x14 | 7 => 0x14 | 8 => 0x14 | 9 => 0x14 | 10 => 0x15
    | 11 => 0x16 | _ => 0x17
  else if p = 0 then 1 else if p = 0x010 then 2 else if p < 0x028 then 3 else if p < 0x030 then 0x16 else if p < 0x050 then 4
  else if p < 0x070 then 5 else if p < 0x090 then 6 else if p < 0x0A4 then 7 else if p < 0x0B8 then 8 else 9

/-- INSTANCE of page p (R5, R76). -/
def blkInst (p : Nat) : Nat :=
  if isSpirePage p then spireOfPage p else if 0x028 ≤ p && p < 0x030 then 0x20 else if 0x080 ≤ p && p < 0x0C0 then p % 16 else 0

/-- BLK_ID of page p. -/
def blkId (p : Nat) : Word := w32 (blkType p * 2 ^ 16 + (p - blockBase p) * 2 ^ 8 + blkInst p)

/-- BLK_VER (R1); BLK_REV is not stated and is 0 in the model. -/
def blkVer : Word := 0x0200B000

/-- Defined interrupt bits of page p, CAPT included (R5, R77 and each chapter). -/
def intBits (p : Nat) : Word :=
  0x80000000 |||
  (if isSpirePage p then
    match pageK p with
    | 0 => 7 | 4 => 0x1F | 6 => 0x1F | 8 => 0xFF | 10 => 0xFFFF | 11 => 0xFFFF | 12 => 7 | _ => 0
  else if p = 0 then 0x1F else if p = 0x010 then 0x7BF else if p = 0x020 then 0x3FFF else if p = 0x022 then 1
  else if 0x028 ≤ p && p < 0x030 then 0xFF
  else if p = 0x040 then 0x1F else if p = 0x042 then 3 else if p = 0x043 then 0xFFFF
  else if p = 0x060 then 0x7F
  else if 0x080 ≤ p && p < 0x090 then 0xFFF
  else if 0x0A0 ≤ p && p < 0x0A4 then 0xFF7F
  else if 0x0B0 ≤ p && p < 0x0B8 then 0x1F
  else if p = 0x0C0 then 0xF else 0)

/-- LOCKED of the block of page p (R14). -/
def State.lockedPage (s : State) (p : Nat) : Bool := s.bit (hdr (blockBase p) 0x2C) 0

/-- Page p of a spire is open: the spire mapping is complete, and pages of its compute island answer only while it has power (R17, R431). -/
def State.spireOpen (s : State) (p : Nat) : Bool :=
  s.reg Reg.KEEP_GRID != 0 &&
    (s.bit Reg.KEEP_SPIRE_PSTAT (spireOfPage p) || pageK p = 4 || pageK p = 5 || 12 ≤ pageK p)

/-- Page p answers requester req (R17, R389, R408, R431). -/
def State.pageOpen (s : State) (req p : Nat) : Bool :=
  (p == 0 || req != 40 || !s.keepOnly) && (!isSpirePage p || s.spireOpen p)

/-- An access of requester req can reach the register pages: a host access needs the link and D0 (R346, R425). -/
def State.reaches (s : State) (req : Nat) : Bool := req != 40 || s.hostLive

/-! ### Block status -/

/-- BLK_STAT.BUSY of page p: as its chapter states; where none does, work in progress in the block (log entry 42). -/
def State.blkBusy (s : State) (p : Nat) : Bool :=
  if isSpirePage p then
    let n := spireOfPage p
    match pageK p with
    | 0 => (s.core n).st == 1 | 1 => (s.core n).st == 1
    | 2 => !(s.core n).vpend.isEmpty
    | 6 => s.domeBusy n
    | 8 => (s.dome n).upd != 0 | 9 => (s.dome n).upd != 0
    | 10 => s.strAnyBusy n
    | 11 => (List.range 8).any (fun c => s.dmaBusy (8 * n + c))
    | _ => false
  else if p = 0 then s.bit Reg.KEEP_CMD_STAT 31
  else if p = 0x010 then s.reg Reg.TIME_ADJ != 0
  else if 0x020 ≤ p && p < 0x028 then s.seqRun || s.bit Reg.SEQ_LOAD_CTL 30
  else if 0x028 ≤ p && p < 0x030 then (List.range 4).any (fun c => s.dmaBusy (256 + 4 * (p - 0x028) + c))
  else if 0x040 ≤ p && p < 0x050 then s.qany
  else if 0x060 ≤ p && p < 0x070 then !s.host.handovers.isEmpty || !s.host.doorbells.isEmpty
  else if 0x080 ≤ p && p < 0x090 then s.spBusy (p - 0x080)
  else if 0x0A0 ≤ p && p < 0x0A4 then (List.range 4).any (fun c => s.rdBusy (p - 0x0A0) c)
  else if 0x0B0 ≤ p && p < 0x0B8 then !(s.dch (p - 0x0B0)).queue.isEmpty
  else if p = 0x0C0 then s.lanBusy
  else false

/-- BLK_STAT.READY of page p: of a vault (R189), a DRAM channel (R400) and the Keep (R412) as stated; of the others from stage DONE (log entry 42). -/
def State.blkReady (s : State) (p : Nat) : Bool :=
  if isSpirePage p && (pageK p == 4 || pageK p == 5) then s.inGrid (spireOfPage p) && s.fld (Reg.VLT_SEG_STAT (spireOfPage p)) 0 2 == 2
  else if 0x0B0 ≤ p && p < 0x0B8 then s.drcReady (p - 0x0B0)
  else s.stage == 9

/-- BLK_STAT of page p. -/
def State.blkStat (s : State) (p : Nat) : Word :=
  putBit (putBit (putBit (putBit 0 0 (s.blkReady p)) 1 (s.blkBusy p)) 2 (s.lockedPage p)) 3 (s.bit (hdr p 0x10) 31)

/-! ### Reads -/

/-- The 64-bit counts that are not held as registers (R8): device time, the tick count and the tick times. -/
def State.wideVal (s : State) (a : Nat) : Option Word :=
  let half := fun (v : BitVec 64) (hi : Bool) => if hi then v.extractLsb' 32 32 else v.extractLsb' 0 32
  if a = Reg.TIME_NOW_LO then some (half s.tb.now false) else if a = Reg.TIME_NOW_HI then some (half s.tb.now true)
  else if a = Reg.TICK_CNT_LO then some (half (s.tb.tickCnt.setWidth 64) false)
  else if a = Reg.TICK_CNT_HI then some (half (s.tb.tickCnt.setWidth 64) true)
  else if a = Reg.TICK_START_LO then some (half s.tb.startShown false) else if a = Reg.TICK_START_HI then some (half s.tb.startShown true)
  else if a = Reg.TICK_EVENT_LO then some (half s.tb.tickEvent false) else if a = Reg.TICK_EVENT_HI then some (half s.tb.tickEvent true)
  else if isSpirePage (a / 0x1000) && pageK (a / 0x1000) == 1 then
    let n := spireOfPage (a / 0x1000)
    let (cnt, start) := (s.tb.tickCnt, s.tb.tickStart)
    if a = Reg.CP_TIME_LO n then some (half s.tb.now false) else if a = Reg.CP_TIME_HI n then some (half s.tb.now true)
    else if a = Reg.CP_TICK_LO n then some (half (cnt.setWidth 64) false) else if a = Reg.CP_TICK_HI n then some (half (cnt.setWidth 64) true)
    else if a = Reg.CP_TSTART_LO n then some (half start false) else if a = Reg.CP_TSTART_HI n then some (half start true)
    else none
  else if 0x42000 ≤ a && a < 0x43000 then
    let i := (a % 0x1000 - 0x40) / 32
    if a = Reg.TIO_IN_CAP_LO i then some (half (s.capTime i) false) else if a = Reg.TIO_IN_CAP_HI i then some (half (s.capTime i) true) else none
  else none

/-- Word k of the table entry at SEQ_TBL_IDX. -/
def State.tblWord (s : State) (k : Nat) : Word := w32 (s.entry (s.fld Reg.SEQ_TBL_IDX 0 17) / 2 ^ (32 * k))

/-- Registers of spire pages that are computed when they are read. -/
def State.spireVal (s : State) (a : Nat) : Option Word :=
  let n := spireOfPage (a / 0x1000)
  if a = Reg.CP_STAT n then some (s.cpStat n)
  else if a = Reg.CP_IRQ_PEND n then some (s.reg (Reg.CP_IRQ_RAW n) &&& s.reg (Reg.CP_IRQ_EN n))
  else if a = Reg.CP_IST_PC n then some (((s.core n).stack.head?.map (fun e => putBit e.1 1 false)).getD 0)
  else if a = Reg.CP_IST_SR n then some (((s.core n).stack.head?.map (·.2)).getD 0)
  else if a = Reg.CP_NPC n then some (putBit (s.reg a) 1 false)
  else if a = Reg.DOME_STAT n then some (s.domeStat n)
  else if a = Reg.DOME_UPD_CTL n then some (putBit (s.reg a) 30 ((s.dome n).upd != 0))
  else if a = Reg.EVT_OUTST n then some (w32 (Nat.min 0xFF (s.outstanding n).length))
  else none

/-- Registers of the other pages that are computed when they are read. -/
def State.chipVal (s : State) (a : Nat) : Option Word :=
  let p := a / 0x1000
  if a = Reg.KEEP_IRQ_SUM then some s.irqSum else if a = Reg.KEEP_IRQ_SPIRE then some s.irqSpire else if a = Reg.KEEP_IRQ_MISC then some s.irqMisc
  else if a = Reg.KEEP_AVS then some s.avsRead
  else if a = Reg.KEEP_SPIRE_PWR then some (s.reg a &&& s.reg Reg.KEEP_GRID)
  else if Reg.SEQ_TBL_W0 ≤ a && a ≤ Reg.SEQ_TBL_W3 then some (s.tblWord ((a - Reg.SEQ_TBL_W0) / 4))
  else if a = Reg.TIO_STAT then some s.tioStat
  else if p = 0x041 && 0x40 ≤ a % 0x1000 && a % 0x1000 < 0x1C0 then some (s.ocfgRead ((a % 0x1000 - 0x40) / 4))
  else if p = 0x042 && 0x40 ≤ a % 0x1000 && a % 32 = 16 && a % 0x1000 < 0x440 then some (s.capStat ((a % 0x1000 - 0x40) / 32))
  else if p = 0x062 && 0x40 ≤ a % 0x1000 && a % 0x1000 < 0x240 then
    some ((List.range 32).foldl (fun w j => if s.devOwns (32 * ((a % 0x1000 - 0x40) / 4) + j) then putBit w j true else w) 0)
  else if a = Reg.LAN_STAT then some s.lanStat
  else if 0x080 ≤ p && p < 0x090 && a = Reg.SP_STAT (p - 0x080) then some (s.spStat (p - 0x080))
  else none

/-- Registers of odd sensor ports that only even ports have (R328): unassigned. -/
def spiAbsent (a : Nat) : Bool := 0x080 ≤ a / 0x1000 && a / 0x1000 < 0x090 && a / 0x1000 % 2 = 1 && 0xA0 ≤ a % 0x1000 && a % 0x1000 < 0xAC

/-- A header register (R5) of page p at offset o. -/
def State.hdrVal (s : State) (p o : Nat) : Word :=
  if o = 0 then blkId p else if o = 4 then blkVer else if o = 8 then s.reg (hdr p 8) &&& 1 else if o = 0xC then s.blkStat p
  else if o = 0x10 then s.reg (hdr p 0x10) else if o = 0x14 then s.reg (hdr p 0x14) else if o = 0x18 then s.intPend p
  else if o = 0x20 || o = 0x24 || o = 0x28 then s.reg (hdr p o) else if o = 0x2C then (if s.lockedPage p then 1 else 0) else 0

/-- The body register at a as a read returns it, without its side effects; an unassigned offset reads 0 (R11). -/
def State.bodyVal (s : State) (a : Nat) : Word :=
  if isMsix a then s.reg a
  else if spiAbsent a then 0
  else match descAt a with
  | none => 0
  | some (d, _) =>
    let v := match s.wideVal a with
      | some v => v
      | none => match (if 0x100 ≤ a / 0x1000 then s.spireVal a else s.chipVal a) with
        | some v => v
        | none => s.reg a
    v &&& ~~~d.wo

/-- The alias offsets of R9 name the register below them when it is S/C. -/
def aliasOf (a : Nat) : Option Nat :=
  let o := a % 0x1000
  if o < 0x800 || isMsix a then none
  else
    let b := a - o + o % 0x400
    match descAt b with
    | some (d, _) => if d.sc then some b else none
    | none => none

/-- The register at a of an open page as a read returns it. -/
def State.regVal (s : State) (a : Nat) : Word :=
  let o := a % 0x1000
  if o < 0x40 then s.hdrVal (a / 0x1000) o
  else if o < 0x800 || isMsix a then s.bodyVal a
  else match aliasOf a with
  | some b => s.bodyVal b
  | none => 0

/-- Bits that a read of the register at a clears (R6). -/
def rcBits (a : Nat) : Word :=
  if a % 0x1000 = 0x28 then 0xFFFFFFFF
  else if a % 0x1000 < 0x40 || spiAbsent a then 0
  else match descAt a with
  | some (d, _) => d.rc
  | none => 0

/-- The register at a is the low word of a 64-bit value (R8). -/
def isLow (a : Nat) : Bool :=
  let p := a / 0x1000
  let o := a % 0x1000
  if 0x100 ≤ p then
    match pageK p with
    | 0 => o == 0x54
    | 1 => o == 0x84 || o == 0x8C || o == 0x94
    | 3 => 0xC0 ≤ o && o < 0xE0 && o % 8 == 0
    | 10 => 0x40 ≤ o && o < 0x140 && (o % 64 == 0 || o % 64 == 8)
    | 11 => 0x40 ≤ o && o < 0x240 && (o % 64 == 0 || o % 64 == 8)
    | _ => false
  else if p = 0 then o == 0x58 || o == 0x68 || o == 0xA8 || o == 0xC4
  else if p = 0x010 then o == 0x40 || o == 0x48 || o == 0x50 || o == 0x58 || o == 0x9C
  else if p = 0x023 then o == 0x60
  else if p = 0x024 then 0x40 ≤ o && o < 0x140 && o % 16 == 0
  else if 0x028 ≤ p && p < 0x030 then 0x40 ≤ o && o < 0x140 && (o % 64 == 0 || o % 64 == 8)
  else if p = 0x042 then 0x40 ≤ o && o < 0x440 && o % 32 == 8
  else if p = 0x043 then 0x40 ≤ o && o < 0x240 && (o % 64 == 8 || o % 64 == 0x18)
  else if p = 0x060 then o == 0x44
  else if 0x0A0 ≤ p && p < 0x0A4 then (0x100 ≤ o && o < 0x200 && (o % 64 == 0 || o % 64 == 8)) || (0x400 ≤ o && o < 0x800 && o % 16 == 0)
  else if 0x0B0 ≤ p && p < 0x0B8 then o == 0x4C
  else if p = 0x0C0 then o == 0x48
  else false

/-- Key of the shadow of the high word at a for requester req (R8). -/
def shadowKey (req a : Nat) : Nat := req <<< 26 + a

/-- Bits of the register at a that count cycles in which a request lost arbitration in a vault or an event was held. The commands carry no such
cycles: once there has been such a request, a read returns a free value for them (log entry 6). -/
def waitBits (a : Nat) : Word :=
  let o := a % 0x1000
  if isSpirePage (a / 0x1000) then
    match pageK (a / 0x1000) with
    | 5 => if 0x40 ≤ o && o < 0x60 && o % 4 = 0 then 0xFFFFFFFF else if o = 0x60 then 0x0007FFFF else 0
    | 12 => if o = 0x47C then 0xFFFFFFFF else 0
    | _ => 0
  else 0

/-- What else a read of the register at a by requester req does (R6, R330, R341): a read of TIME_SYNC_HI by the host ends R47's wait, and a read of a table
entry with an uncorrectable error is reported (R52). -/
def State.readEffect (s : State) (req a : Nat) : State :=
  let p := a / 0x1000
  let t := if rcBits a = 0 then s else { s.setReg a (s.reg a &&& ~~~rcBits a) with contended := NatSet.erase s.contended a }
  if a = Reg.TIME_SYNC_HI then (if req = 40 then t.modTb (fun b => { b with syncUnread := false }) else t)
  else if p = 0x042 && 0x40 ≤ a % 0x1000 && a % 0x1000 < 0x440 && a % 32 = 12 then t.capPop ((a % 0x1000 - 0x40) / 32)
  else if 0x080 ≤ p && p < 0x090 && a = Reg.SP_TBL_DATA (p - 0x080) then (t.tblDataRead (p - 0x080)).2
  else if Reg.SEQ_TBL_W0 ≤ a && a ≤ Reg.SEQ_TBL_W3 && t.entryUe (t.fld Reg.SEQ_TBL_IDX 0 17) then
    (t.seqErr 0x2A 0 (t.fld Reg.SEQ_TBL_IDX 0 17) req).raise 0x020 13
  else t

/-- A read of the aligned word at BAR0 offset a by requester req: the value, and the state after it (R6, R8, R11, R17, R22, R24). -/
def State.readReg (s : State) (req a : Nat) : Word × State :=
  let p := a / 0x1000
  if !s.pageOpen req p then (0, s)
  else if !pageListed p then (0, s.unmapped req (0x020000000000 + a))
  else if 0x080 ≤ p && p < 0x090 && a = Reg.SP_TBL_DATA (p - 0x080) then s.tblDataRead (p - 0x080)
  else
    let b := (aliasOf a).getD a
    let low := 4 ≤ b && isLow (b - 4) && b = a
    let k := shadowKey req b
    let held := s.shadow.find? (fun e => e.1 == k)
    match low, held with
    | true, some e => (e.2, ({ s with shadow := s.shadow.erase e }).readEffect req b)
    | _, _ =>
      let v := s.regVal a
      let t := if isLow b then { s with shadow := (s.shadow.filter (fun e => e.1 != shadowKey req (b + 4))) ++ [(shadowKey req (b + 4), s.bodyVal (b + 4))] } else s
      let u := t.readEffect req b
      if waitBits b = 0 || !s.contended.contains b then (v, u)
      else
        let f := u.fresh
        (maskMix (waitBits b) (f.1.setWidth 32) v, f.2)

/-! ### Writes -/

/-- A plain write: the RW bits of the register take the value. -/
def State.plainWrite (s : State) (a : Nat) (v : Word) : State := s.setReg a (maskMix (rwBits a) v (s.reg a))

/-- A write of the Keep's page 0x000 (R389, R410, R412, R423, R428, R430, R436, R437). -/
def State.keepBody (s : State) (req a : Nat) (v : Word) : State :=
  if a = Reg.KEEP_CMD then s.keepCmd req v
  else if a = Reg.KEEP_MBOX_IN 3 then s.mboxIn3 req v
  else if 0x90 ≤ a && a < 0xA0 then s.keepWrite req a v
  else if a = Reg.KEEP_APER then s.keepWrite req a (v &&& 0xFFFFFF)
  else if a = Reg.KEEP_REC_DATA then s.recData req v
  else if a = Reg.KEEP_IRQ_HOST then s.irqHost v
  else if a = Reg.KEEP_IRQ_KEEP then s.irqKeep v
  else if a = Reg.KEEP_IRQ_EOI then s.irqEoi v
  else if a = Reg.KEEP_AVS then s.avsWrite req v
  else if a = Reg.KEEP_THERM_CFG then s.thermCfg req v
  else if a = Reg.KEEP_THR_CTL then s.thrCtl v
  else if a = Reg.KEEP_SPIRE_PWR then s.spirePower req v
  else s.plainWrite a v

/-- A write of the timebase page (R41, R48, R49, R51): POLICY 0b11 is dropped (R44). LOCKED stays as it is (log entry 83). -/
def State.timeBody (s : State) (req a : Nat) (v : Word) : State :=
  if a = Reg.TIME_SRC then s.timeSrcWrite req false v
  else if a = Reg.TIME_ENC_N then s.timeSrcWrite req true v
  else if a = Reg.TIME_ADJ then s.timeAdj req v
  else if a = Reg.TIME_SET_LO then s.modTb (fun b => { b with setLo := v })
  else if a = Reg.TIME_SET_HI then s.timeSet req v
  else if a = Reg.TICK_SET_LO then s.modTb (fun b => { b with tickSetLo := v })
  else if a = Reg.TICK_SET_HI then s.tickSet req v
  else if a = Reg.TIME_OVR_POLICY && bitsOf v 0 2 = 3 then s
  else s.plainWrite a v

/-- A write of a Belfry page (R68, R69, R73, R76). -/
def State.belBody (s : State) (req a : Nat) (v : Word) : State :=
  let o := a % 0x1000
  let d := (o - 0x40) / 16
  if a = Reg.SEQ_CMD then s.seqCmd req v
  else if a / 0x1000 = 0x021 && 0x40 ≤ o && o < 0xC0 then
    (if o % 16 = 12 then s.descCtl req d v else s.descField req d a (v &&& rwBits a))
  else if a = Reg.SEQ_TBL_W3 then s.tblCommit req v
  else if a = Reg.SEQ_LOAD_CTL then s.loadCtl v
  else s.plainWrite a v

/-- A write of a DMA page: channel ch, register r of 0x40 (R274, R276). -/
def State.dmaBody (s : State) (req ch a : Nat) (v : Word) : State :=
  if a % 64 = 0x14 then s.dmaCtlWrite ch v req
  else if rwBits a = 0 then s
  else if s.dmaBusy ch then s.err (dmaPage ch) 0x50 (dmaUnit ch) (a % 0x1000) req
  else s.plainWrite a v

/-- A write of a TIO page (R333, R338, R339, R345). -/
def State.tioBody (s : State) (req a : Nat) (v : Word) : State :=
  let p := a / 0x1000
  let o := a % 0x1000
  if a = Reg.TIO_CTL then s.tioCtl v
  else if a = Reg.TIO_INJ_W3 then s.tioInj v
  else if p = 0x041 then s.ocfgWrite req ((o - 0x40) / 4) v
  else if p = 0x042 && o % 32 = 0 then s.inCfgWrite req ((o - 0x40) / 32) v
  else if p = 0x042 && o % 32 = 4 then s.inRingWrite req ((o - 0x40) / 32) v
  else if p = 0x043 && o % 64 = 0 then s.encCfgWrite req ((o - 0x40) / 64) v
  else s.plainWrite a v

/-- A write of OCU_RINGr_LEN (R359): the field of an enabled ring is dropped and captured; a length outside 1 to 4,096 is dropped. -/
def State.ringLen (s : State) (req r : Nat) (v : Word) : State :=
  let a := Reg.OCU_RING_LEN r
  let n := bitsOf v 0 13
  if s.bit (Reg.OCU_RING_CFG r) 31 then s.err 0x060 0x50 0 (a % 0x1000) req
  else if n = 0 || 4096 < n then s
  else s.setFld a 0 13 n

/-- A write of a host page (R349, R354, R357, R359, R361). -/
def State.ocuBody (s : State) (req a : Nat) (v : Word) : State :=
  let o := a % 0x1000
  if a = Reg.OCU_CTL then s.ocuCtl req v
  else if a = Reg.OCU_WBASE_LO || a = Reg.OCU_WBASE_HI then
    (if s.bit Reg.OCU_CTL 0 then s.err 0x060 0x50 0 o req else s.plainWrite a v)
  else if a = Reg.OCU_HAND then s.ocuHand req v
  else if a = Reg.OCU_HDB then s.ocuHdb v
  else if a = Reg.OCU_DDB then s.ocuDdb req v
  else if a / 0x1000 = 0x061 && 0x80 ≤ o && o % 8 = 0 then s.ringCfg req ((o - 0x80) / 8) v
  else if a / 0x1000 = 0x061 && 0x80 ≤ o then s.ringLen req ((o - 0x80) / 8) v
  else s.plainWrite a v

/-- A write of the MSI-X table (R350): clearing a mask sends what is pending. -/
def State.msixWrite (s : State) (a : Nat) (v : Word) : State :=
  if 0x6F000 ≤ a then s
  else if a % 16 = 12 then (s.setReg a (v &&& msixBits a)).flushVecs
  else s.setReg a (v &&& msixBits a)

/-- A write of a sensor port page (R260, R262, R318, R325 to R331). -/
def State.spBody (s : State) (req p a : Nat) (v : Word) : State :=
  if spiAbsent a then s
  else if a = Reg.SP_CFG p then s.spCfgWrite req p v
  else if a = Reg.SP_LINE p then s.spLineWrite req p v
  else if a = Reg.SP_GRID p then s.spGridWrite req p v
  else if a = Reg.SP_TRIG_CFG p then s.spTrigWrite req p v
  else if a = Reg.SP_TBL_DATA p then s.tblDataWrite req p v
  else if a = Reg.SP_I2C_CMD p then s.i2cCmd req p v
  else if a = Reg.SP_I2C_TX p then s.i2cTx req p v
  else if a = Reg.SP_SPI_CTL p then s.spiCtl p v
  else s.plainWrite a v

/-- A write of an Axsin link page (R373, R374, R377, R381, R382). -/
def State.axlBody (s : State) (req l a : Nat) (v : Word) : State :=
  let o := a % 0x1000
  if a = Reg.AXL_CTL l then s.axlCtl l v
  else if a = Reg.AXL_TPRB l then s.setReg a (if v &&& 0xFFFF = 0 then 1 else v &&& 0xFFFF)
  else if 0x100 ≤ o && o < 0x200 then
    (if o % 64 = 0x14 then s.rdCtl req l ((o - 0x100) / 64) v
     else if rwBits a = 0 && !s.rdBusy l ((o - 0x100) / 64) then s else s.rdField req l ((o - 0x100) / 64) a (v &&& rwBits a))
  else if 0x400 ≤ o then
    (if o % 16 = 12 then s.winCtl req l ((o - 0x400) / 16) v else s.winField req l ((o - 0x400) / 16) a (v &&& rwBits a))
  else s.plainWrite a v

/-- A write of CP pages 0 and 1 of spire n (R83, R96, R100, R102, R104, R459). -/
def State.cpBody (s : State) (n a : Nat) (v : Word) : State :=
  if a = Reg.CP_CTL n then s.setHalt n (bitOf v 0)
  else if a = Reg.CP_TCMP_HI n then s.tcmpArm n v
  else if a = Reg.CP_IC_CTL n then s.icCtl n v
  else if a = Reg.CP_IRQ_RAW n then s.setReg a (s.reg a &&& ~~~v)
  else if a = Reg.CP_IRQ_SET n then s.setReg (Reg.CP_IRQ_RAW n) (s.reg (Reg.CP_IRQ_RAW n) ||| (v &&& 0xFFFFFFC0))
  else if a = Reg.CP_NMI n then s.cpNmi n v
  else if a = Reg.CP_IST_PC n then s.modCore n (fun c => { c with stack := match c.stack with
      | [] => []
      | e :: t => (putBit v 1 false, e.2) :: t })
  else if a = Reg.CP_IST_SR n then s.modCore n (fun c => { c with stack := match c.stack with
      | [] => []
      | e :: t => (e.1, srWrite v) :: t })
  else if a = Reg.CP_NPC n then s.setReg a (putBit v 1 false)
  else if a = Reg.CP_NSR n then s.setReg a (srWrite v)
  else s.plainWrite a v

/-- VL clamped to VLMAX of SEW (R138): 256, 128 or 64. -/
def vlMax (sew : Nat) : Nat := if sew = 0 then 256 else if sew = 1 then 128 else 64

/-- VTYPE takes SEW, and VL is clamped to its VLMAX (R139, R166). -/
def State.setSew (s : State) (n sew : Nat) : State :=
  let t := s.setReg (Reg.VU_VTYPE n) (w32 sew)
  t.setReg (Reg.VU_VL n) (w32 (Nat.min (t.fld (Reg.VU_VL n) 0 9) (vlMax sew)))

/-- A write of the vector and MAC pages of spire n (R166). -/
def State.vuBody (s : State) (req n a : Nat) (v : Word) : State :=
  if !s.cpQuiet n then s.err (a / 0x1000) 0x50 0 (a % 0x1000) req
  else if a = Reg.VU_VL n then s.setReg a (w32 (Nat.min (bitsOf v 0 9) (vlMax (s.fld (Reg.VU_VTYPE n) 0 2))))
  else if a = Reg.VU_VTYPE n then (if bitsOf v 0 2 = 3 then s else s.setSew n (bitsOf v 0 2))
  else s.plainWrite a v

/-- A write of the vault page 4 of spire n (R180, R184, R188). -/
def State.vltBody (s : State) (req n a : Nat) (v : Word) : State :=
  let o := a % 0x1000
  if a = Reg.VLT_SEG_PWR n then s.segPower n (v &&& 0xFFFE ||| 1)
  else if 0x50 ≤ o && o < 0x70 then
    (if !s.cpQuiet n then s.err (spirePage n 4) 0x50 0 o req
     else if o % 8 = 4 then s.setReg a (w32 (Nat.min 0x400 (bitsOf v 12 11) * 4096))
     else s.plainWrite a v)
  else if a = Reg.VLT_SCRUB_CTL n then s.setReg a (if v &&& 0xFFFF = 0 then v &&& 0x80000000 ||| 1 else v &&& 0x8000FFFF)
  else s.plainWrite a v

/-- A write of the dome pages 6 to 9 of spire n (R209, R223, R224, R227, R228, R233). -/
def State.domeBody (s : State) (req n a : Nat) (v : Word) : State :=
  let p := a / 0x1000
  let o := a % 0x1000
  if a = Reg.DOME_CTL n then s.domeCtl n v
  else if pageK p = 8 && o < 0x240 then
    (if o % 8 = 0 then s.tnsCfgWrite n ((o - 0x40) / 8) v else s.expWrite req n ((o - 0x40) / 8) v)
  else if pageK p = 9 && o = 0x440 then s.adpCtlWrite req n v
  else if pageK p = 9 && o = 0x448 then s.setReg a (if v &&& 0xFFFF = 0 then 1 else v &&& 0xFFFF)
  else if pageK p = 9 && o = 0x44C then (if s.bit (Reg.DOME_ADP_CTL n) 1 then s else s.plainWrite a v)
  else if pageK p = 9 && 0x460 ≤ o && o < 0x4A0 then (if rwBits a = 0 then s else s.wregWrite req n ((o - 0x460) / 16) a v)
  else if a = Reg.DOME_UPD_CTL n then s.updCtlWrite req n v
  else if pageK p = 9 && 0x4A4 ≤ o && o < 0x4D8 then s.updRegWrite req n a (rwBits a) v
  else s.plainWrite a v

/-- A write of EVT_CTR_CMD (R315): OP 0 sets the counter CTR to EVT_CTR_VAL, OP 1 adds bits [15:0] of it. -/
def State.ctrCmd (s : State) (n : Nat) (v : Word) : State :=
  let k := bitsOf v 0 9
  let x := s.reg (Reg.EVT_CTR_VAL n)
  if bitOf v 31 then s.evtAdd n k (bitsOf x 0 16) else s.evtSet n k x

/-- A write of the events page of spire n (R310, R311, R315). -/
def State.evtBody (s : State) (n a : Nat) (v : Word) : State :=
  let o := a % 0x1000
  if a = Reg.EVT_CTR_CMD n then s.ctrCmd n v
  else if 0x450 ≤ o && o < 0x470 then (s.plainWrite a v).watches n
  else if 0x4C0 ≤ o && o < 0x540 && o % 8 = 0 then
    let t := s.plainWrite a v
    if bitOf v 31 then t.setReg (a + 4) (t.reg (evtReg n (bitsOf v 16 9))) else t
  else s.plainWrite a v

/-- A write of the body register at a, without the lock (R6, R11). -/
def State.bodyWrite (s : State) (req a : Nat) (v : Word) : State :=
  let p := a / 0x1000
  let o := a % 0x1000
  if isMsix a then s.msixWrite a v
  else match descAt a with
  | none => s
  | some _ =>
    if isSpirePage p then
      let n := spireOfPage p
      match pageK p with
      | 0 => s.cpBody n a v | 1 => s.cpBody n a v
      | 2 => s.vuBody req n a v | 3 => s.vuBody req n a v
      | 4 => s.vltBody req n a v
      | 6 => s.domeBody req n a v | 7 => s.domeBody req n a v | 8 => s.domeBody req n a v | 9 => s.domeBody req n a v
      | 10 => if rwBits a = 0 && !s.strBusy n ((o - 0x40) / 64) then s else s.strWrite req n ((o - 0x40) / 64) a (v &&& rwBits a)
      | 11 => s.dmaBody req (8 * n + (o - 0x40) / 64) a v
      | 12 => s.evtBody n a v
      | _ => s.plainWrite a v
    else if p = 0 then s.keepBody req a v
    else if p = 0x010 then s.timeBody req a v
    else if p < 0x028 then s.belBody req a v
    else if p < 0x030 then (if o < 0x140 then s.dmaBody req (256 + 4 * (p - 0x028) + (o - 0x40) / 64) a v else s)
    else if p < 0x050 then s.tioBody req a v
    else if p < 0x070 then s.ocuBody req a v
    else if p < 0x090 then s.spBody req (p - 0x080) a v
    else if p < 0x0B0 then s.axlBody req (p - 0x0A0) a v
    else if p < 0x0C0 then (if a = Reg.DRC_SCRUB_CTL (p - 0x0B0) then s.drcScrubCtl (p - 0x0B0) v else s.plainWrite a v)
    else if a = Reg.LAN_CTL then s.lanCtl req v
    else if 0x48 ≤ o && o ≤ 0x50 then s.lanPreWrite req a (rwBits a) v
    else s.plainWrite a v

/-! ### The lock (R14) -/

/-- The write of v to a, which without the lock makes u of s, changes a locked bit: an RW bit of the register (of a watch, although the watch fires at once
and clears ARM again), or the table entry or table word it reaches with its index. -/
def State.locksOut (s u : State) (a : Nat) (v : Word) : Bool :=
  (s.reg a ^^^ u.reg a) &&& rwBits a != 0
    || (a == Reg.SEQ_TBL_W3 && s.entry (s.fld Reg.SEQ_TBL_IDX 0 17) != u.entry (s.fld Reg.SEQ_TBL_IDX 0 17))
    || (0x080 ≤ a / 0x1000 && a / 0x1000 < 0x090 && a == Reg.SP_TBL_DATA (a / 0x1000 - 0x080)
        && ((s.port (a / 0x1000 - 0x080)).tables != (u.port (a / 0x1000 - 0x080)).tables
          || s.reg (Reg.SP_TBL_IDX (a / 0x1000 - 0x080)) != u.reg (Reg.SP_TBL_IDX (a / 0x1000 - 0x080))))
    || (isSpirePage (a / 0x1000) && pageK (a / 0x1000) == 12 && 0x450 ≤ a % 0x1000 && a % 0x1000 < 0x470 && (s.reg a ^^^ v) &&& rwBits a != 0)
    || (a == Reg.SEQ_TBL_W3 && s.reg Reg.SEQ_TBL_IDX != u.reg Reg.SEQ_TBL_IDX)
    || (isSpirePage (a / 0x1000) && (a == Reg.CP_IST_PC (spireOfPage (a / 0x1000)) || a == Reg.CP_IST_SR (spireOfPage (a / 0x1000)))
        && (s.core (spireOfPage (a / 0x1000))).stack != (u.core (spireOfPage (a / 0x1000))).stack)

/-- The register at a is OCU_RINGr_CFG (R361). -/
def isRingCfg (a : Nat) : Bool := a / 0x1000 == 0x061 && 0x80 ≤ a % 0x1000 && a % 0x1000 < 0xC0 && a % 8 == 0

/-- An error has been captured or counted for page p between s and u (R13). -/
def State.newError (s u : State) (p : Nat) : Bool :=
  [p, errPage p, blockBase p].any (fun q => u.bit (hdr q 0x10) 31 != s.bit (hdr q 0x10) 31 || u.reg (hdr q 0x28) != s.reg (hdr q 0x28))

/-- A write to a body register of a locked block (R14): its locked fields keep their values, its write-only fields act; off is the page offset written.
A write that changes no locked bit even without the lock, and that its chapter refuses with a capture, is refused so here. -/
def State.lockedWrite (s : State) (req a off : Nat) (v : Word) : State :=
  let u := s.bodyWrite req a v
  let t := match descAt a with
    | some (d, _) => if d.wo = 0 && d.w1c = 0 then s else s.bodyWrite req a (maskMix d.rw (s.reg a) v)
    | none => s
  if s.locksOut u a v then t.err (errPage (a / 0x1000)) 0xFE req (off % 0x1000) req
  else if s.newError u (a / 0x1000) then (if isRingCfg a then u.ringKept s ((a % 0x1000 - 0x80) / 8) else u)
  else t

/-- A write to a body register through page offset off (R9, R14). -/
def State.bodyStore (s : State) (req a off : Nat) (v : Word) : State :=
  if s.lockedPage (a / 0x1000) then s.lockedWrite req a off v else s.bodyWrite req a v

/-! ### Header writes -/

/-- EN of page p becomes en, with what its chapter attaches to it (R36, R76, R104, R325, R339, R370). -/
def State.setEn (s : State) (p : Nat) (en : Bool) : State :=
  if p = 0x010 then s.timebaseEn en
  else if p = 0x020 then s.belfryEn en
  else if p = 0x040 then (s.setBit (hdr p 8) 0 en).tioSettle
  else if 0x080 ≤ p && p < 0x090 then s.portEn (p - 0x080) en
  else if 0x0A0 ≤ p && p < 0x0A4 then s.axlEn (p - 0x0A0) en
  else if isSpirePage p && pageK p == 0 then (s.setBit (hdr p 8) 0 en).setHalt (spireOfPage p) (!en)
  else s.setBit (hdr p 8) 0 en

/-- A BLK_RST of page p that its chapter drops is captured with 0x50 on the page written, or for the Belfry's pages under R76. -/
def State.blkRstRefused (s : State) (req p : Nat) : State := s.err (if p < 0x025 then errPage p else p) 0x50 0 8 req

/-- A write of BLK_CTL of page p (R14, R457): a lock keeps from acting only what would have acted, which BLK_RST of pages 0x06E
and 0x06F does not (R361). -/
def State.blkCtl (s : State) (req p : Nat) (v : Word) : State :=
  if s.lockedPage p then
    (if bitOf v 1 && s.blkRstDropped p then s.blkRstRefused req p
     else if bitOf v 1 && (p = 0x06E || p = 0x06F) then s
     else if bitOf v 1 || bitOf v 0 != s.bit (hdr p 8) 0 then s.err (errPage p) 0xFE req 8 req else s)
  else if bitOf v 1 then (if s.blkRstDropped p then s.blkRstRefused req p else s.blkRst p)
  else s.setEn p (bitOf v 0)

/-- A write of INT_RAW of page p clears the bits written 1 (R12); CAPT re-arms the capture. -/
def State.intClear (s : State) (p : Nat) (v : Word) : State := s.setReg (hdr p 0x10) (s.reg (hdr p 0x10) &&& ~~~v)

/-- A write of INT_EN of page p (R12, R423). -/
def State.intEn (s : State) (p : Nat) (v : Word) : State := (s.setReg (hdr p 0x14) (v &&& intBits p)).routed s (groupOf p)

/-- A write of INT_FORCE of page p (R12): each bit acts as its hardware event. -/
def State.intForce (s : State) (p : Nat) (v : Word) : State :=
  (List.range 32).foldl (fun t b => if bitOf v b && bitOf (intBits p) b then t.raise p b else t) s

/-- A write of LOCK of page p (R14): only on the first page of a block, and only 1 acts. -/
def State.lockWrite (s : State) (p : Nat) (v : Word) : State :=
  if p = blockBase p && bitOf v 0 then s.setReg (hdr p 0x2C) 1 else s

/-- A write of header offset o of page p. -/
def State.hdrWrite (s : State) (req p o : Nat) (v : Word) : State :=
  if o = 8 then s.blkCtl req p v
  else if o = 0x10 then s.intClear p v
  else if o = 0x14 then s.intEn p v
  else if o = 0x1C then s.intForce p v
  else if o = 0x2C then s.lockWrite p v
  else s

/-- A 32-bit write to an aligned word of an open page (R9, R11, R359). -/
def State.openWrite (s : State) (req a : Nat) (v : Word) : State :=
  let p := a / 0x1000
  let o := a % 0x1000
  if o < 0x40 then s.hdrWrite req p o v
  else if o < 0x800 || isMsix a then s.bodyStore req a o v
  else match aliasOf a with
  | some b =>
    let t := s.bodyStore req b o (if o < 0xC00 then s.bodyVal b ||| v else s.bodyVal b &&& ~~~v)
    if isRingCfg b && !bitOf v 31 then t.ringKept s ((b % 0x1000 - 0x80) / 8) else t
  | none => s

/-- A 32-bit write to the aligned word at BAR0 offset a by requester req (R17, R22, R24). -/
def State.writeReg (s : State) (req a : Nat) (v : Word) : State :=
  let p := a / 0x1000
  if !s.pageOpen req p then s
  else if !pageListed p then s.unmapped req (0x020000000000 + a)
  else s.openWrite req a v

/-- A write of width bytes at BAR0 offset a by requester req: only aligned 32-bit writes act (R7). -/
def State.regWrite (s : State) (req a width : Nat) (v : Word) : State :=
  if !s.reaches req || width != 4 || a % 4 != 0 then s else s.writeReg req a v

/-- The lanes of a word that a read of width bytes at offset a names, from the byte at a up (R7). A read of a requester other than the host that reaches past
the word gets the lanes of that one word (log entry 82). -/
def laneWord (a width : Nat) (v : Word) : Word := w32 (v.toNat / 2 ^ (8 * (a % 4)) % 2 ^ (8 * width))

/-- The first byte and the bytes of each 32-bit word that a read of width bytes at a touches. -/
def readParts (a width : Nat) : List (Nat × Nat) :=
  (List.range ((a + width + 3) / 4 - a / 4)).map (fun i =>
    let lo := Nat.max a ((a / 4 + i) * 4)
    (lo, Nat.min (a + width) ((a / 4 + i + 1) * 4) - lo))

/-- A read of width bytes at a in one word, its lanes stored in readData under the requester and the address (R7). -/
def State.wordRead (s : State) (req a width : Nat) : State :=
  let (v, t) := s.readReg req (a - a % 4)
  { t with readData := Tab.set (fun _ => 0) t.readData (shadowKey req a) (laneWord a width v) }

/-- A read of width bytes at BAR0 offset a by requester req (R7). One of the host over several words is served word by word, in ascending address order
(R348). -/
def State.regRead (s : State) (req a width : Nat) : State :=
  if !s.reaches req then s
  else if req = 40 then (readParts a width).foldl (fun t p => t.wordRead req p.1 p.2) s
  else s.wordRead req a width

end Sys2Proof.Machine
end

