-- ==== Sys2Proof/Machine/Mesh.lean ====
section
/-! DEFINITION. Messages that arrive at their nodes (R298 to R303), held events (R302, R306) and heartbeats (R312). A PW arrival is its grant or acceptance. -/

namespace Sys2Proof.Machine

/-! ### Refused messages (R303, R418) -/

/-- First page of node nd, and for a spire its events page (R303). -/
def nodePage (nd : Nat) : Nat :=
  if nd < 32 then spirePage nd 12
  else if nd < 40 then 0x0B0 + (nd - 32)
  else if nd = 40 then 0x060 else if nd = 41 then 0x000 else if nd = 42 then 0x020 else if nd = 43 then 0x040
  else if nd < 48 then 0x0A0 + (nd - 44)
  else if nd < 52 then 0x0C0
  else 0x080 + 2 * (nd - 52)

/-- Node that refuses a message whose destination reads nd: a reserved number is refused at the router r that reads it first (R303). -/
def refuseNode (r nd : Nat) : Nat := if nd < 60 then nd else r

/-- Node nd refuses a message of kind k from node src, both as read (R303): a spire on its events page, every other node on its first page
(log entry 73). -/
def State.refuseMsg (s : State) (nd src k : Nat) : State :=
  let p := nodePage nd
  ((if nd < 32 then s.bump (Reg.EVT_REFUSED nd) else s).err p 0x82 src k).raise p 2

/-- The words of list l that cells touch. -/
def flitWords (l : List Nat) (cells : List (Nat × Byte)) : List Nat := l.filter (fun w => cells.any (fun c => c.1 / 8 == w))

/-- The words of a message's data that reach its receiver poisoned: those sent so, and those with a double-bit error in a flit (R298). -/
def flitPois (h : Header) (cells : List (Nat × Byte)) (pois : List Nat) : List Nat :=
  match h with
  | .data _ _ two => pois ++ (flitWords two cells).filter (fun w => !pois.contains w)
  | _ => pois

/-- The corrected words of a message of cells (R298, R417). -/
def flitFixed (h : Header) (cells : List (Nat × Byte)) : Nat :=
  match h with
  | .data hdr one two => (if hdr then 1 else 0) + (flitWords (one.filter (fun w => !two.contains w)) cells).eraseDups.length
  | .corrected => 1
  | _ => 0

/-! ### Register accesses over the mesh -/

/-- Cells of an aligned 32-bit word: its address and value. -/
def wordCells (cells : List (Nat × Byte)) : Option (Nat × Word) :=
  match cells with
  | (a, b0) :: (a1, b1) :: (a2, b2) :: (a3, b3) :: [] =>
    if a % 4 = 0 && a1 = a + 1 && a2 = a + 2 && a3 = a + 3 then some (a, w32 (leNum [b0, b1, b2, b3])) else none
  | _ => none

/-- A PW to register pages from node src: any other width or alignment than an aligned word is dropped (R7). -/
def State.pwReg (s : State) (src : Nat) (cells : List (Nat × Byte)) : State :=
  match wordCells cells with
  | some (a, v) => s.writeReg src (a % 0x04000000) v
  | none => s

/-- A fire record arrives at the TIO (R333, R334): its words, and whether it is one flit with all 16 bytes enabled. Bytes not enabled are free values. -/
def State.pwFire (s : State) (cells : List (Nat × Byte)) : State :=
  let base := (cells.head?.map (·.1)).getD 0 / 16 * 16
  let here := fun i => cells.find? (fun c => c.1 == base + i)
  let whole := cells.length == 16 && (List.range 16).all (fun i => (here i).isSome)
  let (free, t) := if whole then ([], s) else s.freeBytes 16
  let at' := fun i => ((here i).map (·.2)).getD (free.getD i 0)
  let w := fun k => w32 (leNum ((List.range 4).map (fun i => at' (4 * k + i))))
  t.modTio (fun x => { x with inbox := x.inbox ++ [{ w0 := w 0, w1 := w 1, w2 := w 2, w3 := w 3, whole := whole }] })

/-- A PW of cells takes effect at node nd (R181, R183, R302, R460). -/
def State.pwArrive (s : State) (m : Msg) (cells : List (Nat × Byte)) (pois : List Nat) (arr : Option Ctr) (landing : Bool) (tag : Tag) : State :=
  let nd := m.dst.val
  let a := (cells.head?.map (·.1)).getD 0
  match s.regionOf a with
  | .vault n => (s.vaultArrive n cells pois arr (if landing then 5 else 3)).ackMsg nd m tag
  | .regs => (s.pwReg m.src.val cells).ackMsg nd m tag
  | .dram => if 32 ≤ nd && nd < 40 then s.dramTake (nd - 32) m else if nd = 43 then (s.pwFire cells).ackMsg nd m tag else s.ackMsg nd m tag
  | .none => if nd = 43 then (s.pwFire cells).ackMsg nd m tag
             else if 32 ≤ nd && nd < 40 then s.dramTake (nd - 32) m
             else (s.unmapped m.src.val a).ackMsg nd m tag

/-! ### Reads -/

/-- What node nd reads at [a, a + n) for node src: bytes, poisoned words, whether a vault refused it (R22, R183, R185), and the state after it.
Of a register page it reads the lanes of one 32-bit word, also for n above 4 (log entry 82). -/
def State.nodeRead (s : State) (src a n : Nat) : List Byte × List Nat × Bool × State :=
  match s.regionOf a with
  | .vault v =>
    let p := a - vaultAddr v 0
    (match s.vaultRead v p n 3 with
     | some (b, bad, t) => (b, bad, false, t)
     | none =>
       let (b, t) := (s.offAccess v p 3 false).freeBytes n
       (b, wordsOf a n, true, t))
  | .regs =>
    let (v, t) := s.readReg src (a % 0x04000000 / 4 * 4)
    (((leBytes v.toNat 4).drop (a % 4)).take n, [], false, t)
  | _ =>
    let (b, t) := (s.unmapped src a).freeBytes n
    (b, wordsOf a n, false, t)

/-- A read request is at a DRAM channel. -/
def atDram (nd : Nat) : Bool := 32 ≤ nd && nd < 40

/-- An RREQ arrives (R298, R300): a DRAM channel queues it, every other node answers its blocks with posted writes and returns the credit. -/
def State.rreqArrive (s : State) (m : Msg) (a len dst : Nat) (tag : Tag) : State :=
  let nd := m.dst.val
  if atDram nd then s.dramTake (nd - 32) m
  else
    (cutBlocks a len).foldl (fun (t : State) q =>
      let (b, bad, _, u) := t.nodeRead m.src.val q.1 q.2
      u.answerWrites nd q.1 (dst + (q.1 - a)) b bad tag) (s.credBack nd m)

/-- An RD arrives (R298, R300): a DRAM channel queues it, and a Lantern bank the block fetch of a LOADW (R288). -/
def State.rdArrive (s : State) (m : Msg) (a len : Nat) (tag : Tag) : State :=
  let nd := m.dst.val
  if atDram nd then s.dramTake (nd - 32) m
  else if let .loadw n blk := tag then s.lanAsk [{ spire := n.val, blk := blk, addr := a }]
  else
    let (b, bad, off, t) := (s.credBack nd m).nodeRead m.src.val a len
    t.post nd m.src.val (.rdr a b bad off tag)

/-- Read data waits for the event at which the unit that asked takes it. -/
def State.giveBack (s : State) (tag : Tag) (a : Nat) (data : List Byte) (pois : List Nat) (off : Bool) : State :=
  { s with returned := s.returned ++ [{ tag := tag, addr := a, data := data, pois := pois, off := off }] }

/-- An RDR arrives (R298): the unit that asked takes the data, at once or when its own event comes. Data of a table load that a reset
abandoned is dropped (R75). -/
def State.rdrArrive (s : State) (a : Nat) (data : List Byte) (pois : List Nat) (off : Bool) (tag : Tag) : State :=
  match tag with
  | .stream n st row _ => s.streamData n.val st.val row a data pois
  | .rdma l c key _ => s.rdData l.val c.val key a data pois off
  | .host g o _ => s.hostCpl g o data (!pois.isEmpty)
  | .keep => s.aperData a data (!pois.isEmpty)
  | .loadw n blk => s.lanGot n.val blk a data (!pois.isEmpty)
  | .loader k => if k = s.bel.loads then s.giveBack tag a data pois off else s
  | _ => s.giveBack tag a data pois off

/-! ### Events -/

/-- An INC arrives at spire n (R305, R308): applied and acknowledged. -/
def State.incArrive (s : State) (m : Msg) (k : Nat) (amt : Nat) : State :=
  let n := m.dst.val
  ((s.count (Reg.EVT_RX n)).evtAdd n k amt).ackMsg n m .plain

/-- An ACK of message id arrives at node nd (R273, R302, R375). -/
def State.ackArrive (s : State) (nd id : Nat) (tag : Tag) : State :=
  let t := { s with unacked := s.unacked.erase (nd, id) }
  let t := if nd = 40 then t.modHost (fun h => { h with bar2Out := h.bar2Out.erase id }) else if nd = 41 then t.aperAck id else t
  match tag with
  | .dma ch bytes blk pois => t.dmaAck ch.val bytes blk pois
  | .rwr l key => t.rwrAck l.val key
  | _ => t

/-- A read credit of node nd towards node src comes back (R300): what waited for one is presented. -/
def State.rcredArrive (s : State) (nd src : Nat) : State :=
  let t := s.setCred nd src (s.credUsed nd src - 1)
  if nd = 40 then t.hostReadsGo
  else if nd < 32 then ((List.range 4).foldl (fun t st => t.strSend nd st) t).lanSend nd 33
  else if 48 ≤ nd && nd < 52 then t.lanGo (nd - 48)
  else if nd = 42 && t.bel.loader.wait then t.loaderRead
  else t

/-- A TC of spire n reaches the Belfry (R43). -/
def State.tcArrive (s : State) (n : Nat) : State := s.count (Reg.SEQ_TC_DONE n)

/-- An HB of spire n reaches the Belfry (R313). -/
def State.hbArrive (s : State) (n : Nat) : State := s.setBit Reg.SEQ_HB_SEEN n true

/-- Message m, whose data are cells, arrives as h says, its kind being body kind ok, and f its effect (R298, R303): a message that may not yet arrive, or of
another kind, changes nothing. Each word or header corrected counts (R417). -/
def State.arrive (s : State) (m : Msg) (h : Header) (ok : Bool) (cells : List (Nat × Byte)) (f : State → State) : State :=
  if !ok || !s.mayArrive m then s
  else match h with
  | .reservedKind k => (s.takeMsg m).refuseMsg (refuseNode (routerOf m.src.val) m.dst.val) m.src.val k.toNat
  | .uncorrectable src k dst r =>
    let nd := refuseNode r.val dst.val
    ((s.takeMsg m).refuseMsg nd src.val k.toNat).faultLine 3 nd
  | _ => f ((List.range (flitFixed h cells)).foldl (fun t _ => t.corrected) (s.takeMsg m))

/-! ### The nine kinds -/

/-- The node to which m goes takes a request now: a DRAM channel holds at most 64 (R460), and one that it cannot hold yet waits in front of it, a read
request in its reserved place of the node (R300). -/
def State.takesNow (s : State) (m : Msg) : Bool := !(atDram m.dst.val && !s.dramRoom (m.dst.val - 32))

/-- PW. -/
def State.meshPw (s : State) (m : Msg) (h : Header) : State :=
  match m.body with
  | .pw cells pois arr landing tag =>
    let bad := flitPois h cells pois
    s.arrive m h (s.takesNow m) cells
      (fun t => t.pwArrive { m with body := .pw cells bad arr landing tag } cells bad arr landing tag)
  | _ => s

/-- RREQ. -/
def State.meshRreq (s : State) (m : Msg) (h : Header) : State :=
  match m.body with
  | .rreq a len dst tag => s.arrive m h (s.takesNow m) [] (fun t => t.rreqArrive m a len dst tag)
  | _ => s

/-- RD. -/
def State.meshRd (s : State) (m : Msg) (h : Header) : State :=
  match m.body with
  | .rd a len tag => s.arrive m h (s.takesNow m) [] (fun t => t.rdArrive m a len tag)
  | _ => s

/-- RDR. -/
def State.meshRdr (s : State) (m : Msg) (h : Header) : State :=
  match m.body with
  | .rdr a data pois off tag =>
    s.arrive m h true (cellsAt a data) (fun t => t.rdrArrive a data (flitPois h (cellsAt a data) pois) off tag)
  | _ => s

/-- INC: only spires hold counters. -/
def State.meshInc (s : State) (m : Msg) (h : Header) : State :=
  match m.body with
  | .inc k amt => s.arrive m h (m.dst.val < 32) [] (fun t => t.incArrive m k.val amt.toNat)
  | _ => s

/-- ACK. -/
def State.meshAck (s : State) (m : Msg) (h : Header) : State :=
  match m.body with
  | .ack id tag => s.arrive m h true [] (fun t => t.ackArrive m.dst.val id tag)
  | _ => s

/-- RCRED. -/
def State.meshRcred (s : State) (m : Msg) (h : Header) : State :=
  match m.body with
  | .rcred => s.arrive m h true [] (fun t => t.rcredArrive m.dst.val m.src.val)
  | _ => s

/-- TC. -/
def State.meshTc (s : State) (m : Msg) (h : Header) : State :=
  match m.body with
  | .tc => s.arrive m h (m.dst.val == 42 && m.src.val < 32) [] (fun t => t.tcArrive m.src.val)
  | _ => s

/-- HB. -/
def State.meshHb (s : State) (m : Msg) (h : Header) : State :=
  match m.body with
  | .hb => s.arrive m h (m.dst.val == 42 && m.src.val < 32) [] (fun t => t.hbArrive m.src.val)
  | _ => s

/-! ### Sending -/

/-- OUTBOUND_EVENT_RELEASE (R302): the oldest held INC or TC of node src is presented once nothing it waits for is unacknowledged. The events held behind
an INC then wait for it too. -/
def State.releaseHeld (s : State) (src : Nat) : State :=
  match s.held.find? (fun h => h.node == src) with
  | none => s
  | some h =>
    if h.waits.any (fun i => s.unacked.contains (src, i)) then s
    else
      let rest := s.held.erase h
      let rest := match h.body with
        | .inc .. => rest.map (fun x => if x.node == src then { x with waits := x.waits ++ [s.msgId] } else x)
        | _ => rest
      ({ s with held := rest }).post src h.dst.val h.body

end Sys2Proof.Machine
end

