-- ==== Sys2Proof/Machine/CpMem.lean ====
section
/-! DEFINITION. The narrow port and the local view of a control processor (R26, R86 to R90, R114, R136, R155, R177, R185, R385): local map, checks,
reads merged with the store buffer, stores, instruction cache fills. -/

namespace Sys2Proof.Machine

/-- Model address of the X-RAM of spire n; its Y-RAM follows at 0x20000 (R26, log entry 4). -/
def xramAddr (n : Nat) : Nat := 0x1000000000000 + 2 ^ 32 + n <<< 18

/-- What a part of a local access reaches: bytes of a memory by address, a register page by BAR0 offset, the Keep's aperture by global address
(R385), or a refusal: BOUND or VAULT_OFF. -/
inductive LocalPart
  | mem (a : Nat)
  | page (off : Nat)
  | aper (g : Nat)
  | bound
  | off
  deriving DecidableEq, Repr

/-- The local view of core n at [a, a + len), for permission perm (0 read, 1 write, 2 fetch) (R26, R178, R185, R385). -/
def State.localPart (s : State) (n a len perm : Nat) : LocalPart :=
  if n = 32 then
    if a + len ≤ 0x80000 then .mem (sramAddr + a)
    else if 0x01000000 ≤ a && a + len ≤ 0x01010000 then (if perm = 1 then .bound else .mem (romAddr + a % 0x01000000))
    else if 0x02000000 ≤ a && a + len ≤ 0x02001000 then (if perm = 2 then .bound else .page (a % 0x01000000))
    else if 0x04000000 ≤ a && a + len ≤ 0x05000000 then
      (if perm = 2 then .bound else .aper (s.fld Reg.KEEP_APER 0 24 <<< 24 + a % 0x01000000))
    else .bound
  else if a + len ≤ 0x01000000 then
    match s.translate n a len perm with
    | some p => if s.segsOn n p len then .mem (vaultAddr n p) else .off
    | none => .bound
  else if perm = 2 then .bound
  else if 0x01000000 ≤ a && a + len ≤ 0x01040000 then .mem (xramAddr n + a % 0x01000000)
  else if 0x02000000 ≤ a && a + len ≤ 0x02010000 then .page (spirePage n 0 * 0x1000 + a % 0x01000000)
  else .bound

/-- A narrow access cut at the 4-byte boundary it crosses (R87). -/
def narrowParts (a len : Nat) : List (Nat × Nat) :=
  if a % 4 + len ≤ 4 then [(a, len)] else [(a, 4 - a % 4), ((a + (4 - a % 4)) % 2 ^ 32, len - (4 - a % 4))]

/-- Source of the fault of an access in parts (R87, R96): 0 none, 1 BOUND, 2 VAULT_OFF; BOUND on either part comes first. -/
def State.partsFault (s : State) (n perm : Nat) (ps : List (Nat × Nat)) : Nat :=
  let l := ps.map (fun p => s.localPart n p.1 p.2 perm)
  if l.any (· == .bound) then 1 else if l.any (· == .off) then 2 else 0

/-- Byte of address a that the store buffer covers: the newest store's (R89). -/
def sbByte : List SbEntry → Nat → Option Byte
  | [], _ => none
  | e :: t, a =>
    match sbByte t a with
    | some b => some b
    | none =>
      match e with
      | .bytes cells => (cells.find? (fun c => c.1 == a)).map (·.2)
      | .reg _ _ => none

/-- Word of register page offset a that the store buffer holds: the newest store's (R89). -/
def sbReg : List SbEntry → Nat → Option Word
  | [], _ => none
  | e :: t, a =>
    match sbReg t a with
    | some v => some v
    | none =>
      match e with
      | .reg o v => if o = a then some v else none
      | .bytes _ => none

/-- The requester number under which core n reaches register pages. -/
def cpReq (n : Nat) : Nat := if n = 32 then 41 else n

/-- A word of its own pages as core n reads it (R8, R89, R114, R136): a read of CP_TICK_LO latches the tick count and start that later reads return. -/
def State.cpPageRead (s : State) (n a : Nat) : Word × State :=
  match sbReg (s.core n).sbuf a with
  | some v => (v, s)
  | none =>
    let (v, t) := s.readReg (cpReq n) a
    if n < 32 && a = Reg.CP_TICK_LO n then
      (v, t.modCore n (fun c => { c with tickLatch := some (s.tb.tickCnt, s.tb.tickStart) }))
    else if n < 32 && (a = Reg.CP_TICK_HI n || a = Reg.CP_TSTART_LO n || a = Reg.CP_TSTART_HI n) then
      match (s.core n).tickLatch with
      | none => (v, t)
      | some (cnt, st) =>
        (if a = Reg.CP_TICK_HI n then (cnt.extractLsb' 32 16).setWidth 32
         else if a = Reg.CP_TSTART_LO n then st.extractLsb' 0 32 else st.extractLsb' 32 32, t)
    else (v, t)

/-- The access of the Keep's bundle to [g, g + len) through the aperture (R385). -/
def Core.aperOf (c : Core) (g len : Nat) (write : Bool) : Option AperAcc := c.aper.find? (fun x => x.g == g && x.len == len && x.write == write)

/-- The Keep's bundle asks for an access through the aperture: b is the data of a write. It is presented from node 41 as a PW, or as an RD once a read
credit is free (R298, R300, R385), when it has not been; true when it is complete. -/
def State.aperAsk (s : State) (n g len : Nat) (write : Bool) (b : List Byte) : Bool × State :=
  match (s.core n).aperOf g len write with
  | some x => (x.done, s)
  | none =>
    let a : AperAcc := { g := g, len := len, write := write, id := s.msgId, done := false, data := [], pois := false }
    let t := s.modCore n (fun c => { c with aper := c.aper ++ [a] })
    if write then (false, t.post 41 (s.nodeOf g) (.pw (cellsAt g b) [] none false .plain))
    else if s.credUsed 41 (s.nodeOf g) < 2 then (false, t.postRead 41 (s.nodeOf g) (.rd g len .keep))
    else (false, s)

/-- One part of a narrow read of core n whose checks have passed (R89, R90, R114). The cycles that it loses come with its bundle (R79). -/
def State.partRead (s : State) (n a len : Nat) : List Byte × Bool × State :=
  match s.localPart n a len 0 with
  | .mem p =>
    let (b, bad, t) := s.readGranted p len 6
    let sb := (s.core n).sbuf
    ((b.zipIdx.map (fun x => (sbByte sb (p + x.2)).getD x.1)),
      (List.range len).any (fun i => bad.contains ((p + i) / 8) && (sbByte sb (p + i)).isNone), t)
  | .page off =>
    let (v, t) := s.cpPageRead n (off / 4 * 4)
    (((leBytes v.toNat 4).drop (off % 4)).take len, false, t)
  | .aper g =>
    (match (s.core n).aperOf g len false with
     | some x => (x.data, x.pois, s)
     | none => ([], false, s))
  | _ => ([], false, s)

/-- A narrow read of len bytes at local address a: value, whether it is poisoned, and the state after it. -/
def State.narrowRead (s : State) (n a len : Nat) : Word × Bool × State :=
  let (b, bad, t) := (narrowParts a len).foldl (fun (x : List Byte × Bool × State) p =>
    let (b, bad, t) := x.2.2.partRead n p.1 p.2
    (x.1 ++ b, x.2.1 || bad, t)) ([], false, s)
  (w32 (leNum b), bad, t)

/-! ### The store buffer (R88, R185) -/

/-- A cell lies in a vault; every other cell lies in a memory that the port reaches without arbitration. -/
def inVault (c : Nat × Byte) : Bool := c.1 < 0x1000000000000

/-- A cell of a vault whose segment is ON, or of another memory. -/
def State.cellOn (s : State) (n : Nat) (c : Nat × Byte) : Bool := !inVault c || s.segOn n (c.1 - vaultAddr n 0)

/-- A store buffer entry of core n is presented (R88): refused bytes are dropped and reported (R185). -/
def State.sbPresent (s : State) (n : Nat) (e : SbEntry) : State :=
  match e with
  | .reg off v => s.writeReg (cpReq n) off v
  | .bytes cells =>
    let t := s.writeMem (cells.filter (s.cellOn n)) [] 6
    match cells.find? (fun c => !s.cellOn n c) with
    | some c => (t.bump (Reg.VLT_OFF_DROP n)).offAccess n (c.1 - vaultAddr n 0) 6 true
    | none => t

/-- STORE_BUFFER_WRITE (R88): the oldest waiting entry of core n is presented. -/
def State.sbWrite (s : State) (n : Nat) : State :=
  match (s.core n).sbuf with
  | [] => s
  | e :: t => (s.modCore n (fun c => { c with sbuf := t })).sbPresent n e

/-- Every waiting entry is presented, oldest first, at most k of them. -/
def State.sbDrain (s : State) (n : Nat) : Nat → State
  | 0 => s
  | k + 1 => (s.sbWrite n).sbDrain n k

/-- The entry needs no arbitration in a vault. -/
def SbEntry.free : SbEntry → Bool
  | .reg _ _ => true
  | .bytes cells => !cells.any inVault

/-- Entries that need no arbitration are presented as they come to the head (R88, R114, R155), at most k of them. -/
def State.sbSettle (s : State) (n : Nat) : Nat → State
  | 0 => s
  | k + 1 =>
    match (s.core n).sbuf with
    | [] => s
    | e :: _ => if e.free then (s.sbWrite n).sbSettle n k else s

/-- A store takes an entry; one that finds both entries waiting makes the oldest write first (R88). -/
def State.sbPush (s : State) (n : Nat) (e : SbEntry) : State :=
  let t := if 2 ≤ (s.core n).sbuf.length then s.sbWrite n else s
  t.modCore n (fun c => { c with sbuf := c.sbuf ++ [e] })

/-- The bytes that part p of a store of the low len bytes of v at a takes (R87). -/
def partBytes (v : Word) (a len : Nat) (p : Nat × Nat) : List Byte := ((leBytes v.toNat len).drop (if p.1 = a then 0 else 4 - a % 4)).take p.2

/-- A store of the low len bytes of v at local address a, its checks passed (R7, R87, R88, R119). A store through the aperture of the Keep has been sent
while its bundle stood in AG (R385). -/
def State.narrowStore (s : State) (n a len : Nat) (v : Word) : State :=
  let parts := narrowParts a len
  let cells := parts.flatMap (fun p =>
    match s.localPart n p.1 p.2 1 with
    | .mem q => cellsAt q (partBytes v a len p)
    | _ => [])
  let t := parts.foldl (fun (t : State) p =>
    match s.localPart n p.1 p.2 1 with
    | .page off => if len = 4 && off % 4 = 0 && p.2 = 4 then t.sbPush n (.reg off v) else t
    | _ => t) s
  if cells.isEmpty then t else t.sbPush n (.bytes cells)

/-! ### Fetch (R83 to R85, R177, R458) -/

/-- The cache line or line buffer that holds local address a. -/
def Core.lineOf (c : Core) (a : Nat) : Option IcLine :=
  match c.icache.find? (fun l => l.addr == a / 64 * 64) with
  | some l => some l
  | none => c.lineBuf.filter (fun l => l.addr == a / 64 * 64)

/-- The bad words of the fetch group at local address g as FG reads it (R83, R178, R458): none when it misses. A group outside the vault range is read as
one of bad words, without a fill. -/
def State.groupAt (s : State) (n g : Nat) : Option (List (Nat × Bool)) :=
  match (s.core n).lineOf g with
  | some l => some ((l.bad.filter (fun b => b.1 / 8 == g % 64 / 32)).map (fun b => (b.1 % 8, b.2)))
  | none =>
    match s.localPart n g 4 2 with
    | .mem _ => none
    | .off => none
    | _ => some ((List.range 8).map (fun k => (k, false)))

/-- The line of local address a becomes the most recently used (R83). -/
def Core.touch (c : Core) (a : Nat) : Core :=
  match c.icache.find? (fun l => l.addr == a / 64 * 64) with
  | some l => { c with icache := c.icache.erase l ++ [l] }
  | none => c

/-- FG reads the group at g into the group buffer behind gs, when it hits (R83, R458). -/
def State.readGroup (s : State) (n g : Nat) (gs : List FetchGroup) : State :=
  match s.groupAt n g with
  | some b => s.modCore n (fun c => { c.touch g with groups := gs ++ [{ addr := g, bad := b }] })
  | none => s.modCore n (fun c => { c with groups := gs })

/-- The group buffer when the bundle at the PC of core n comes to issue (R458): groups passed have left it, and FG reads the PC's group and the group after
it into free places. -/
def State.fetch (s : State) (n : Nat) : State :=
  let g := (s.core n).pc.toNat / 32 * 32
  let gs := (s.core n).groups.dropWhile (fun x => x.addr != g)
  let t := if gs.isEmpty then s.readGroup n g [] else s.modCore n (fun c => { c with groups := gs })
  if (t.core n).groups.length = 1 then t.readGroup n ((g + 32) % 2 ^ 32) (t.core n).groups else t

/-- Why word k of the group at the head of the buffer cannot issue (R83): 5 FETCH_FAULT, 2 VAULT_OFF, 0 none. -/
def FetchGroup.fault (g : FetchGroup) (k : Nat) : Nat :=
  match g.bad.find? (fun b => b.1 == k) with
  | some (_, true) => 2
  | some (_, false) => 5
  | none => 0

/-- The instruction word at local address a as a fetch finds it. -/
def State.codeWord (s : State) (n a : Nat) : Word :=
  match (s.core n).lineOf a with
  | some l => l.words.getD (a % 64 / 4) 0
  | none =>
    match s.localPart n a 4 2 with
    | .mem p => w32 (leNum (s.bytes p 4))
    | _ => 0

/-- Words of the bundle that stands in memory at local address a, looking at k words at most (R106). -/
def State.codeLen (s : State) (n a : Nat) : Nat → Nat
  | 0 => 0
  | k + 1 =>
    let w := s.codeWord n a
    let len := if bitOf w 30 then 2 else 1
    if bitOf w 31 then len else len + s.codeLen n (a + 4 * len) k

/-- The address after the bundle in memory at local address a. -/
def State.codeNext (s : State) (n : Nat) (a : Word) : Word := a + w32 (4 * s.codeLen n a.toNat 8)

/-- The sets of the instruction cache: the way that a fill of line a takes (R83). Lines stand in the order of their last fill or hit, oldest first. -/
def Core.fillWay (c : Core) (lock a : Nat) : Option Nat :=
  let here := c.icache.filter (fun l => l.addr / 64 % 256 == a / 64 % 256)
  let free := (List.range 4).filter (fun w => !lock.testBit w)
  match free.find? (fun w => !here.any (fun l => l.way == w)) with
  | some w => some w
  | none => (here.find? (fun l => free.contains l.way)).map (·.way)

/-- FG of core n misses the group of local address a (R83, R84, R458): it is the PC's group or the one after it, it stands neither in the group buffer nor
in a line held, and it lies in the vault range. -/
def State.missAt (s : State) (n a : Nat) : Bool :=
  let c := s.core n
  let g := a / 32 * 32
  let x := c.pc.toNat / 32 * 32
  c.st == 1 && (g == x || g == (x + 32) % 2 ^ 32) && !c.groups.any (fun b => b.addr == g) && (s.groupAt n g).isNone

/-- Issue of core n waits for the group of its PC (R79, R83). -/
def State.stalledFetch (s : State) (n : Nat) : Bool := s.missAt n (s.core n).pc.toNat

/-- The word at local address a as a fill request returns it: the word, and 0 for a good one, 1 for a poisoned and 2 for a refused one (R83, R185). -/
def State.fillWord (s : State) (n a : Nat) : (Word × Nat) × State :=
  match s.localPart n a 4 2 with
  | .mem p =>
    let (b, bad, t) := s.readMem p 4 6
    ((w32 (leNum b), if bad.isEmpty then 0 else 1), t)
  | .off => ((0, 2), s)
  | _ => ((0, 1), s)

/-- k words of the line la from word i on, wrapping within the line, in the order of their requests (R84). -/
def State.fillWords (s : State) (n la : Nat) : Nat → Nat → List (Nat × Word × Nat) × State
  | 0, _ => ([], s)
  | k + 1, i =>
    let (x, t) := s.fillWord n (la + 4 * (i % 16))
    let (l, u) := t.fillWords n la k (i + 1)
    ((i % 16, x) :: l, u)

/-- ICACHE_LINE_FILL (R83, R84, R185): the line whose group at local address a FG misses comes into the line buffer and, when none of its words is bad, into
its way. Its words are requested from the first of the missing group on. A miss counts in CP_IC_MISS, and lost, the cycles in which its requests lost the
port, in CP_FETCH_WAIT. A store that waits in the store buffer has the port before it (R86). The pipeline runs on for the stall cycles in which the PC's
group is missing and no bundle issues (R79). Without a miss nothing is filled. -/
def State.icFill (s : State) (n a lost stall : Nat) : State :=
  let c := s.core n
  let la := a / 64 * 64
  if !s.missAt n a then s
  else
    let r := (s.sbDrain n 2).fillWords n la 16 (a % 64 / 32 * 8)
    let line : IcLine := { way := 0, addr := la,
                           words := (List.range 16).map (fun i => ((r.1.find? (fun x => x.1 == i)).map (·.2.1)).getD 0),
                           bad := (r.1.filter (fun x => x.2.2 != 0)).map (fun x => (x.1, x.2.2 == 2)) }
    let t := (r.2.bump (Reg.CP_IC_MISS n)).bump (Reg.CP_FETCH_WAIT n) lost
    t.modCore n (fun d =>
      let d := if s.stalledFetch n && c.part.isEmpty && c.todo.isEmpty then d.pass stall else d
      match if line.bad.isEmpty then d.fillWay (s.fld (Reg.CP_IC_CTL n) 4 4) la else none with
      | some w =>
        { d with icache := d.icache.filter (fun l => !(l.way == w && l.addr / 64 % 256 == la / 64 % 256)) ++ [{ line with way := w }]
                 lineBuf := some line }
      | none => { d with lineBuf := some line })

end Sys2Proof.Machine
end

