-- ==== Sys2Proof/Machine/Issue.lean ====
section
/-! DEFINITION. Issue of a bundle, operation by operation (R78 to R82, R91, R92, R95, R101, R107, R109, R120 to R126, R132, R151 to R157, R163 to R165):
the checks before it issues, its guards, its end and where issue goes on. -/

namespace Sys2Proof.Machine

/-! ### Operands -/

/-- The guard of operation w passes; guards are read in IS (R109). -/
def Core.passes (c : Core) (w : CpWord) : Bool := c.isv.p w.pred != w.pneg

/-- IX0, or IX1 when b is true. -/
def Scal.ix (x : Scal) (b : Bool) : Word := if b then x.ix1 else x.ix0

/-- DISP: the extension word, or the 12-bit field (R114). -/
def dispOf (w : CpWord) : Word := w.ext.getD (w32 (ofld w.opnd 0 12))

/-- The effective address of operation w: S-slot memory kinds name the base in KIND, others in OPND[12]; it is formed in AG (R78, R114). -/
def Core.ea (c : Core) (w : CpWord) : Word :=
  c.agv.ix (if w.slot = 0 then w.opc % 4 == 3 else ofld w.opnd 12 1 == 1) + dispOf w

/-- VL, the SEW code and VSTART of core n (R138). -/
def State.vl (s : State) (n : Nat) : Nat := (s.reg (Reg.VU_VL n)).toNat % 512
def State.sew (s : State) (n : Nat) : Nat := s.fld (Reg.VU_VTYPE n) 0 2
def State.vstart (s : State) (n : Nat) : Nat := s.fld (Reg.VU_VSTART n) 0 8

/-- Bytes of an element. -/
def State.vesz (s : State) (n : Nat) : Nat := sewBits (s.sew n) / 8

/-- The base address of vector memory operation w (R150). -/
def Core.vbase (c : Core) (w : CpWord) : Word := c.agv.ix (ofld w.opnd 10 1 == 1) + w.ext.getD 0

/-- The bytes that unit-stride or structure operation w of core n transfers, from their first address: start and length (R152, R153). -/
def State.vrange (s : State) (n : Nat) (w : CpWord) : Nat × Nat :=
  let k := vGroup w.opc * s.vesz n
  (((s.core n).vbase w + w32 (s.vstart n * k)).toNat, (s.vl n - s.vstart n) * k)

/-- The parts of [a, a + len), len > 0, that lie in one 256-byte block, addresses modulo 2^32 (R151). -/
def wideParts (a len : Nat) : List (Nat × Nat) := (cutBlocks a len).map (fun p => (p.1 % 2 ^ 32, p.2))

/-- A wide access of [a, a + len) inside one block: 0 none, 1 BOUND, 2 VAULT_OFF; xy says that X-RAM and Y-RAM are reached (R150, R155). -/
def State.widePart (s : State) (n a len perm : Nat) (xy : Bool) : Nat :=
  match s.localPart n a len perm with
  | .mem p => if 0x1000000000000 ≤ p && !xy then 1 else 0
  | .off => 2
  | _ => 1

/-- The narrow accesses of operation w, which is no string operation: local address and bytes (R87, R119, R133). -/
def Core.narrowOf (c : Core) (w : CpWord) : List (Nat × Nat) :=
  let a := (c.ea w).toNat
  if w.isFire then (List.range 4).map (fun i => ((a / 16 * 16 + 4 * i) % 2 ^ 32, 4))
  else narrowParts a (if w.slot = 0 then 4 else 2 ^ (w.opc / 4 % 4))

/-- The fault that operation w of core n finds in AG (R26, R87, R101, R133, R156, R178, R201): source, faulting address and vector cause. -/
def State.agFault (s : State) (n : Nat) (w : CpWord) : Option (Nat × Word × Nat) :=
  let c := s.core n
  if !c.passes w then none
  else if w.isVmem && w.opc < 0x6C then
    let r := s.vrange n w
    let perm := if w.isVstore then 1 else 0
    ((wideParts r.1 r.2).findSome? (fun p =>
      let f := s.widePart n p.1 p.2 perm (w.opc < 0x62)
      if f = 0 then none else some (4, w32 p.1, f)))
  else if w.slot = 5 && w.opc = 0x40 then
    let a := (c.ea w).toNat / 32 * 32
    (match s.widePart n a 32 0 false with
     | 0 => none
     | f => some (f, w32 a, 0))
  else if w.narrow && !w.isString then
    let a := (c.ea w).toNat
    (match s.partsFault n (if w.isNstore then 1 else 0) (c.narrowOf w) with
     | 0 => none
     | f => some (f, w32 (if w.isFire then a / 16 * 16 else a), 0))
  else none

/-! ### Waits (R131, R132, R201, R306) -/

/-- Local counter k as core n reads it; the Keep has no counters, so the value is free there (log entry 3). -/
def State.cntVal (s : State) (n k : Nat) : Word := if n < 32 then s.reg (evtReg n k) else (Config.freeValue s.free).setWidth 32

/-- The condition of a wait holds (R132, R201). -/
def State.waitDone (s : State) (n : Nat) (w : CpWord) : Bool :=
  let c := s.core n
  if w.opc = 2 then
    reached (s.cntVal n (ofld w.opnd 7 9))
      (match ofld w.opnd 5 2 with
       | 0 => w.ext.getD 0
       | 1 => c.isv.acc
       | _ => c.isv.cnt.setWidth 32)
  else if w.opc = 3 then
    decide (s.tb.tickStart.toNat + (if ofld w.opnd 0 2 = 0 then (w.ext.getD 0).toNat else c.isv.acc.toNat) ≤ s.tb.now.toNat)
  else if w.opc = 4 then decide (c.isv.ix1.toNat <<< 32 + c.isv.ix0.toNat ≤ s.tb.now.toNat)
  else if w.opc = 0x40 then decide ((s.dome n).queue.length + c.dsubs.length < 8)
  else if w.opc = 0x41 then !s.domeBusy n && c.dsubs.isEmpty
  else true

/-- The target spire and counter of EVSEND or EVSENDI (R130). -/
def Core.evTarget (c : Core) (w : CpWord) : Nat × Nat :=
  if w.opc = 0 then (ofld w.opnd 11 5, ofld w.opnd 2 9) else (bitsOf c.agv.ix1 9 5, bitsOf c.agv.ix1 0 9)

/-- Events that spire n holds (R306). -/
def State.heldCount (s : State) (n : Nat) : Nat := (s.held.filter (fun h => h.node == n)).length

/-- Mesh node of core n. -/
def cpNode (n : Nat) : Nat := if n = 32 then 41 else n

/-- Operation w keeps its bundle from going on (R132, R201, R306). -/
def State.holds (s : State) (n : Nat) (w : CpWord) : Bool :=
  let c := s.core n
  c.passes w && w.slot == 5 &&
    (if w.opc ≤ 1 then
      let t := (c.evTarget w).1
      t != n && s.inGrid t && 8 ≤ s.heldCount (cpNode n)
     else if 2 ≤ w.opc && w.opc ≤ 4 then !c.go && !s.waitDone n w
     else (w.opc == 0x40 || w.opc == 0x41) && !s.waitDone n w)

/-! ### Rule violations that depend on the state (R92, R107, R121, R122, R126, R140, R148, R164) -/

/-- An active level of core n whose last body bundle stands at x. -/
def State.levelEnds (s : State) (n : Nat) (x : Word) : List Nat :=
  if n < 32 && (s.core n).ilvl == 32 then
    (List.range 3).filter (fun l => s.bit (Reg.MAC_RCTL n) l && s.reg (Reg.MAC_REND n l) == x)
  else []

/-- The bundle at x ends an active LOOP. -/
def Core.loopEnd (c : Core) (x : Word) : Bool := c.lact && c.lend == x

/-- Operation w breaks a rule that depends on where its bundle stands or on the state. The rule of R140 on SEW holds whatever the guard (log entry 52). -/
def State.opBad (s : State) (n : Nat) (w : CpWord) : Bool :=
  let c := s.core n
  (c.slots.isSome && w.badInSlot)
    || ((c.loopEnd c.pc || !(s.levelEnds n c.pc).isEmpty) && w.badAtEnd)
    || !w.sewOk (s.sew n)
    || (c.passes w &&
      ((w.isLoop && c.lact)
        || (w.slot == 0 && w.opc == 0x66 && c.stack.isEmpty)
        || (w.slot == 0 && w.opc == 0x67 && !c.nmiAct)
        || (w.isMrep && (s.bit (Reg.MAC_RCTL n) (ofld w.opnd 14 2) || c.ilvl < 32 || c.nmiAct))
        || (w.slot == 2 && w.opc == 0x4A && ofld w.opnd 10 3 == 1 && bitsOf (c.agv.get (ofld w.opnd 13 3)) 0 2 == 3)))

/-- Operations of l whose words start before word k of the bundle. -/
def opsBefore : List CpWord → Nat → List CpWord
  | [], _ => []
  | w :: t, k => if k = 0 then [] else w :: opsBefore t (k - w.len)

/-- The word that CP_FAULT_OP captures when bundle b at the PC of core n breaks a rule (R107). -/
def State.illegal (s : State) (n : Nat) (b : List CpWord) : Option Word :=
  let c := s.core n
  let room := 8 - c.pc.toNat % 32 / 4
  let l := opsBefore b room
  let p := l.findIdx (fun w => s.opBad n w)
  match firstBad (n == 32) (s.vl n) l [] l with
  | some w => some (if p < l.findIdx (· == w) then (l.getD p w).word else w.word)
  | none =>
    if p < l.length then (l[p]?).map (·.word)
    else if room < bundleLen b then some (wordAt b (room - 1))
    else if 1 < (s.levelEnds n c.pc).length + (if c.loopEnd c.pc then 1 else 0) then some (wordAt b 0)
    else none

/-! ### The start of a bundle -/

/-- The cycle in which a bundle issues: returns come first, and the reads of its stages stand as they are then (R80). A bundle that is kept in AG, for EVSEND
or for the Keep's aperture, has read IS and AG before (R79, R306, R385). -/
def Core.slotStart (c : Core) : Core :=
  let d := c.returns
  if c.todo.isEmpty then { d with wb := d.f, agv := d.h3, isv := d.h4 } else { d with wb := d.f }

/-- Faults found behind the first old ones with k of the further cycles passed, whose vector cycles are still to pass. -/
def Core.lateMore (c : Core) (old k : Nat) : Core :=
  { c with late := c.late.take old ++ (c.late.drop old).map (fun l => { l with slots := l.slots + k }) }

/-- The bundle in issue is kept in AG for k further cycles (R79): M1 to WB keep running, so scalar returns go on and its own write back comes k
cycles later. The vector unit's cycles pass when the bundle ends. -/
def Core.stall (c : Core) : Nat → Nat → Core
  | 0, j => { c with wb := c.f, held := j }
  | k + 1, j => (c.sEnd.sReturns.lateMore c.late.length (j + 1)).stall k (j + 1)

/-- The further cycles for which operation w keeps its bundle in AG: a split access (R87), a long operation (R118, R139, R149), FIRE (R133), and the
requests of a vector memory operation after its first (R152, R153). Indexed and string operations, which stand alone, pass their own cycles. -/
def State.opExtra (s : State) (n : Nat) (w : CpWord) : Nat :=
  let c := s.core n
  if w.isFire then 3
  else if w.slot = 0 && 0x70 ≤ w.opc then longCount w.opc - 1
  else if w.slot = 2 && w.opc = 0x48 then 1
  else if w.slot = 2 && 0x50 ≤ w.opc && w.opc ≤ 0x57 then 7
  else if w.isVmem then (if 0x6C ≤ w.opc then 0 else (wideParts (s.vrange n w).1 (s.vrange n w).2).length - 1)
  else if w.narrow && !w.isString then (narrowParts (c.ea w).toNat (if w.slot = 0 then 4 else 2 ^ (w.opc / 4 % 4))).length - 1
  else 0

/-- Cycles for which a narrow read of operation w loses the port of X-RAM or Y-RAM to a vector operation among l (R155). -/
def State.portLost (s : State) (n : Nat) (l : List CpWord) (w : CpWord) : Nat :=
  let c := s.core n
  let a := (c.ea w).toNat / 0x20000
  if w.narrow && !w.isString && !w.isNstore && (a = 0x80 || a = 0x81) then
    match l.find? (fun v => v.isVmem && c.passes v) with
    | some v => ((wideParts (s.vrange n v).1 (s.vrange n v).2).takeWhile (fun p => p.1 / 0x20000 == a)).length
    | none => 0
  else 0

/-- The further cycles of an issue of the operations l (R79): lost are those in which its accesses lose arbitration or wait for the store buffer. -/
def State.issueExtra (s : State) (n lost : Nat) (l : List CpWord) : Nat :=
  (l.filter (fun w => (s.core n).passes w)).foldl (fun k w => Nat.max k (s.opExtra n w + s.portLost n l w)) 0 + lost

/-- A part of an access of core n lies in a vault, where it can lose bank arbitration. -/
def State.arbitrates (s : State) (n perm : Nat) (ps : List (Nat × Nat)) : Bool :=
  ps.any (fun p =>
    match s.localPart n p.1 p.2 perm with
    | .mem q => q < 0x1000000000000
    | _ => false)

/-- Operation w can lose cycles in AG (R79): a narrow read or a wide access in the vault that loses arbitration (R151, R173), a store that finds both
entries of the store buffer waiting (R88), and an operation that waits until none waits (R131, R151, R201). A string operation counts its own. -/
def State.canLose (s : State) (n : Nat) (w : CpWord) : Bool :=
  let c := s.core n
  c.passes w && !w.isString &&
    (if w.isNstore then 2 ≤ c.sbuf.length
     else if w.narrow then s.arbitrates n 0 (c.narrowOf w)
     else w.drains && (!c.sbuf.isEmpty || 0x6C ≤ w.opc || (w.slot == 5 && w.opc == 0x40)
       || (w.isVmem && s.arbitrates n (if w.isVstore then 1 else 0) (wideParts (s.vrange n w).1 (s.vrange n w).2))))

/-- The cycles of lost that an issue of l can lose. -/
def State.lostBy (s : State) (n lost : Nat) (l : List CpWord) : Nat := if l.any (s.canLose n) then lost else 0

/-- The vault counts the lost cycles of an issue of l (R173): those of one narrow read of one part exactly; which request lost them is open otherwise
(log entry 6). -/
def State.loseIn (s : State) (n lost : Nat) (l : List CpWord) : State :=
  if lost = 0 || n = 32 then s
  else match l.filter (s.canLose n) with
  | [w] =>
    if w.narrow && !w.isNstore then (if ((s.core n).narrowOf w).length = 1 then s.loseArb n 6 lost else s.openConf n 6)
    else if w.isNstore then s else s.openConf n 1
  | _ => (s.openConf n 6).openConf n 1

/-- The fault of the first bad word of bundle b, which stands in the group at the head of the group buffer (R83): 0 for none. -/
def Core.badFetch (c : Core) (b : List CpWord) : Nat :=
  match c.groups with
  | [] => 0
  | g :: _ =>
    let k := c.pc.toNat % 32 / 4
    (((List.range (Nat.min (bundleLen b) (8 - k))).map (fun i => g.fault (k + i))).find? (· != 0)).getD 0

/-- Bundle b reaches IS: false when it does not. A fault found in a return (R101), and an interrupt or a halt at the boundary before it (R97), come first; a
bundle whose group misses waits for the fill (R83, R84); a bundle of bad words or one that breaks a rule is a fault (R83, R107). -/
def State.bundleStart (s : State) (n : Nat) (b : List CpWord) : Bool × State :=
  let c := s.core n
  if c.todo.isEmpty && c.lateDue then (false, s.cpTakeLate n)
  else if s.mustYield n || (!c.todo.isEmpty && c.todo != b) then (false, s)
  else
    let t := s.fetch n
    let pc := c.pc
    if (t.core n).groups.isEmpty then (false, t)
    else
      let f := (t.core n).badFetch b
      if f != 0 then (false, t.cpFault n f pc pc (some pc) none)
      else
        let u := t.modCore n Core.slotStart
        match u.illegal n b with
        | some w => (false, t.cpFault n 0 pc pc none (some w))
        | none => (true, u.modCore n (fun c => { c with todo := b }))

/-- The aperture accesses of operation w of the Keep are asked for (R385): true when every one is complete. -/
def State.aperOp (s : State) (n : Nat) (w : CpWord) : Bool × State :=
  let c := s.core n
  if c.passes w && w.narrow && !w.isString then
    let a := (c.ea w).toNat
    let v := c.agv.get (ofld w.opnd 13 3)
    (c.narrowOf w).foldl (fun (x : Bool × State) p =>
      match x.2.localPart n p.1 p.2 (if w.isNstore then 1 else 0) with
      | .aper g =>
        let y := x.2.aperAsk n g p.2 w.isNstore (partBytes v a (2 ^ (w.opc / 4 % 4)) p)
        (x.1 && y.1, y.2)
      | _ => x) (true, s)
  else (true, s)

/-- A cycle in which operation w keeps its bundle in IS, or in AG (EVSEND), passes with its count (R131, R132, R201, R306): one in IS is an interrupt
boundary. A bundle under RPT stays in issue. -/
def State.holdCycle (s : State) (n : Nat) (b : List CpWord) (w : CpWord) : State :=
  if w.opc ≤ 1 then (s.bump (Reg.CP_STALL n)).modCore n (fun c => if c.rpt.isSome then c.slotEnd.slotStart else c.slotEnd)
  else (if w.opc = 0x40 then s.bump (Reg.DOME_QFULL n) else s).modCore n (fun c =>
    { c.slotEnd with wait := b, todo := [], first := 0 })

/-- The issue of a delay slot with k further cycles settles when BRL.D writes LR (R120): e cycles after the write back of its own bundle, where the
second slot issues so late. Until then LR is the old one, and a load that returns in between is overwritten. The second slot issues k + 1 cycles after the
first, as far as its issue shows. -/
def Core.lrSlot (c : Core) (k : Nat) : Core :=
  match c.lrDue, c.slots with
  | some d, some (j, _) =>
    let e := if 2 ≤ j then d.age + k - 2 else d.age - 3
    let d := { d with made := j < 2 }
    if e = 0 then { c with lrDue := some d }
    else
      let off := fun (r : Scal) => if r.lr = d.val then r.withLr d.old else r
      let base := ((([c.f, c.h1, c.h2, c.h3].drop (d.age - e)).head?).getD c.h4).lr
      let on := fun (i : Nat) (r : Scal) => if d.age < e + i then off r else if r.lr = base then r.withLr d.val else r
      { c with lrDue := some { d with due := if d.age < e then some (e - d.age) else none }, f := on 0 c.f, wb := on 0 c.wb, h1 := on 1 c.h1, h2 := on 2 c.h2
               h3 := on 3 c.h3, h4 := on 4 c.h4, agv := on 3 c.agv, isv := on 4 c.isv }
  | _, _ => c

/-- One issue of the operations l of bundle b, a repetition of RPT or the bundle itself: false when it waits or faults in AG (R101, R132, R156). An access
through the aperture holds its bundle until it is complete, and every later one sees its result (R385). -/
def State.issueStart (s : State) (n lost : Nat) (b l : List CpWord) : Bool × State :=
  match l.find? (fun w => s.holds n w) with
  | some w => (false, s.holdCycle n b w)
  | none => match l.findSome? (fun w => s.agFault n w) with
    | some (src, a, cause) =>
      let pc := (s.core n).pc
      let t := (s.setReg (Reg.CP_PC n) pc).modCore n (fun c => { c with lateC := none })
      let t := t.modCore n (fun c => c.lrSlot 0)
      (false, (if src = 4 then t.vuFault n cause (t.vstart n) pc a else t).cpFault n src pc pc (some a) none)
    | none =>
      let asked := l.foldl (fun (x : Bool × State) w => let y := x.2.aperOp n w; (x.1 && y.1, y.2)) (true, s)
      if !asked.1 then (false, asked.2.modCore n (fun c => if c.rpt.isSome then c.slotEnd.slotStart else c.slotEnd))
      else
        let t := asked.2
        let lost := t.lostBy n lost l
        let k := t.issueExtra n lost l
        let u := ((t.loseIn n lost l).bump (Reg.CP_STALL n) lost).modCore n (fun c =>
          ({ c.lrSlot (k + (if c.aper.isEmpty then 0 else 7)) with
              wait := [], go := false, extra := k + (if c.aper.isEmpty then 0 else 7), lag := lost }).stall k 0)
        (true, if l.any (fun w => (u.core n).passes w && w.drains) then u.sbDrain n 2 else u)

/-! ### The end of a bundle -/

/-- A long scalar operation reads its operands and writes its result as one issued in the last cycle of its count (R118); SETVL (opcode 0x48) writes the granted VL, which
stands in place of SRC (R139). -/
def Core.longWrite (c : Core) : Core :=
  match c.lop with
  | none => c
  | some (opc, dst, src) => 
    { c with f := c.f.set dst (if opc = 0x48 then w32 src else longVal opc (c.f.get dst) (c.f.get src)), lop := none }

/-- k cycles pass in the scalar registers. -/
def Core.sPass (c : Core) : Nat → Core
  | 0 => c
  | k + 1 => (c.sReturns.sEnd).sPass k

/-- k cycles pass in the vector unit. -/
def Core.vPass (c : Core) : Nat → Core
  | 0 => c
  | k + 1 => (c.vReturns.vEnd).vPass k

/-- The cycles of a bundle pass: in the scalar registers those that have not passed in AG, in the vector unit all. -/
def Core.cycles (c : Core) : Core :=
  let d := (c.sReturns.longWrite.sEnd.sPass (c.extra - c.held)).vEnd.vPass c.extra
  { d with extra := 0, held := 0, lag := 0 }

/-- A control register as MFC reads it (R117): the newest write of MTC on its way comes first. PRED shows P0 as 1. -/
def Core.ctlReg (c : Core) (k : Nat) : Word :=
  let p := (c.mtcs.filter (fun m => m.ctl == k)).getLast?
  match k with
  | 0 => (match p with
    | some m => putBit (srWrite m.v) 0 (srC c.sr)
    | none => c.sr)
  | 1 => (c.wb.pred ||| 1).setWidth 32
  | 2 => (p.map (·.v)).getD c.lbeg
  | 3 => (p.map (·.v)).getD c.lend
  | _ => ((p.map (fun m => m.v.setWidth 16)).getD c.ln).setWidth 32

/-- The result m of an MFC finds what the bundle now in issue has written in IS (R78, R117): the register that it wrote takes the new value, and keeps one that
another operation has written since. -/
def Core.mfcSee (c : Core) (m : MfcPend) : Core :=
  let x := if m.ctl = 0 then putBit m.v 6 c.lact else c.ctlReg m.ctl
  if m.ctl = 1 || c.mtcs.any (fun p => p.ctl == m.ctl) || x = m.v then c
  else
    let g := fun (i : Nat) (r : Scal) => if i + m.due ≤ 5 && r.get m.dst = m.v then r.set m.dst x else r
    { c with f := g 0 c.f, h1 := g 1 c.h1, h2 := g 2 c.h2, h3 := g 3 c.h3, h4 := g 4 c.h4,
             mfcs := c.mfcs.map (fun p => if p = m then { p with v := x } else p) }

/-- The MFCs on their way find what LOOP, the end of a LOOP or a taken branch has just written. -/
def Core.mfcSeen (c : Core) : Core := c.mfcs.foldl Core.mfcSee c

/-- A taken branch of core n to x: it leaves LOOP and the levels whose bodies do not hold x (R122, R163). In a handler no level is left, since the
repeat state stays for RETI (R165). -/
def State.leaves (s : State) (n : Nat) (x : Word) : State :=
  let c := s.core n
  let t := if c.lbeg.toNat ≤ x.toNat && x.toNat ≤ c.lend.toNat then s
    else s.modCore n (fun c => { c with sr := putBit c.sr 6 false })
  if n < 32 && c.ilvl == 32 then
    (List.range 3).foldl (fun (t : State) l => if t.bit (Reg.MAC_RCTL n) l && !t.inBody n l x then t.setBit (Reg.MAC_RCTL n) l false else t) t
  else t

/-- The comparison of the issued bundle's address with LEND and the ends of active levels (R125, R163, R164): the next address. -/
def State.loopNext (s : State) (n : Nat) (nxt : Word) : Word × State :=
  let c := s.core n
  if c.loopEnd c.pc then
    if 1 < c.ln.toNat then (c.lbeg, s.setCore n { c with ln := c.ln - 1 })
    else if c.ln = 1 then (nxt, s.setCore n { c with ln := 0, sr := putBit c.sr 6 false })
    else (nxt, s)
  else match s.levelEnds n c.pc with
    | [] => (nxt, s)
    | l :: _ =>
      let k := s.fld (Reg.MAC_LC n l) 0 16
      if 1 < k then (s.reg (Reg.MAC_RBEG n l), s.setReg (Reg.MAC_LC n l) (w32 (k - 1)))
      else if k = 1 then (nxt, (s.setReg (Reg.MAC_LC n l) 0).setBit (Reg.MAC_RCTL n) l false)
      else (nxt, s)

/-- The FIRE record that returns first is sent to the TIO as one posted write, or raises POISON (R133). -/
def State.fireSend (s : State) (n : Nat) : State :=
  match (s.core n).fires with
  | [] => s
  | r :: t =>
    let u := s.modCore n (fun c => { c with fires := t })
    if r.pois then u.modCore n (fun c => c.lateFault { src := 3, pc := r.pc, addr := r.addr, elem := 0, slots := 0 })
    else u.post (cpNode n) 43 (.pw (cellsAt 0x030000000000 r.data) [] none false .plain)

/-- END (R95, R122, R164): the CP returns to IDLE; with TC the tick-complete event follows every write issued before it. -/
def State.endProgram (s : State) (n : Nat) (tc : Bool) : State :=
  let t := s.modCore n (fun c => let d := c.cycles.sync.kill; { d with st := 0, sr := putBit d.sr 6 false })
  let u := if n < 32 then t.setReg (Reg.MAC_RCTL n) 0 else t
  if tc then
    let v := u.sbDrain n 2
    let w := (List.range (v.core n).fires.length).foldl (fun (t : State) _ => t.fireSend n) v
    w.sendEvent (cpNode n) 42 .tc
  else u

/-- The PC of core n becomes x. -/
def Core.goTo (c : Core) (x : Word) : Core := { c with pc := putFld x 0 2 0 }

/-- The LR that BRL.D took from memory becomes x, the address after the second slot as it issued. -/
def Core.patchLr (c : Core) (x : Word) : Core :=
  match c.lrDue with
  | none => c
  | some d =>
    let g := fun (r : Scal) => if r.lr = d.val then r.withLr x else r
    { c with lrDue := none, f := g c.f, h1 := g c.h1, h2 := g c.h2, h3 := g c.h3, h4 := g c.h4 }

/-- Where issue goes on after the last issue of bundle b (R91, R92, R95, R120 to R125, R163). -/
def State.bundleDone (s : State) (n : Nat) (b : List CpWord) : State :=
  let c := s.core n
  let nxt := c.pc + w32 (4 * bundleLen b)
  let close := fun (c : Core) => { c with part := [], todo := [], ctl := .none, rpt := none, bnd := false, first := 0 }
  let turn := fun (c : Core) (y : Word) (k : Nat) => ({ c.goTo y with groups := [] }).passLate k
  match c.ctl with
  | .stop tc => s.endProgram n tc
  | .reti => s.modCore n (fun c => c.cycles.reti)
  | .retn => (s.modCore n Core.cycles).retn n
  | k =>
    let (nx, t) := s.loopNext n nxt
    let target : Option Word := match k with
      | .branch x _ => some x
      | _ => none
    let t := match target with
      | some x => t.leaves n x
      | none => t
    t.modCore n (fun d =>
      let d := d.mfcSeen
      match c.slots with
      | some (k + 2, x) => close { (d.cycles.goTo nx) with slots := some (k + 1, x) }
      | some (_, x) =>
        let e := close { (d.patchLr nxt).cycles with slots := none }
        (match x with
         | some y => turn e y 1
         | none => e.goTo nx)
      | none =>
        if b.any CpWord.isDelayed then close { (d.cycles.goTo nx) with slots := some (2, target) }
        else match target with
          | some y => turn (close d.cycles) y 3
          | none => close (d.cycles.goTo nx))

/-- The last operation of an issue of bundle b has issued: it is repeated under RPT, or is done (R123). A store of it that reset this CP (BLK_RST, R457)
leaves nothing to go on with. A fault found in a return comes before the next repetition (R101). -/
def State.issueNext (s : State) (n : Nat) (b : List CpWord) : State :=
  let t := ((s.setReg (Reg.CP_PC n) (s.core n).pc).modCore n (fun c => { c with aper := [] })).sbSettle n 3
  if (t.core n).part.isEmpty then t
  else match (s.core n).rpt with
  | some (k + 2) =>
    let u := t.modCore n Core.cycles
    if (u.core n).lateDue then u.cpTakeLate n
    else u.modCore n (fun c => { c.slotStart with part := b.take 1, todo := b.drop 1, rpt := some (k + 1), bnd := false, first := 0 })
  | _ => t.bundleDone n b

/-- The end of an issue whose operations have executed: an element operation of it sets VSTART to 0 with the end of its bundle (R138, log entry 96). -/
def State.issueEnd (s : State) (n : Nat) (b : List CpWord) : State :=
  (if b.any (fun w => w.onElements && (s.core n).passes w) then s.setReg (Reg.VU_VSTART n) 0 else s).issueNext n b

/-- What the record of the vector registers takes of operation w, whose effect has come: an element operation whose guard passes, with the elements it
acts on (R138, R142). -/
def State.vEvt (s : State) (n : Nat) (w : CpWord) : List (Nat × VEvt) :=
  if w.beats && (s.core n).passes w then [(0, .op w (sewBits (s.sew n)) (s.vstart n) (s.vl n))] else []

/-- The operation w in issue has had its effect; l are those after it. -/
def State.opDone (s : State) (n : Nat) (w : CpWord) (l : List CpWord) : State :=
  let b := (s.core n).part ++ [w]
  let t := s.modCore n (fun c => { c with part := b, todo := l, vlog := c.vlog ++ s.vEvt n w })
  if l.isEmpty then t.issueEnd n b else t

/-- The count of RPT or RPT.C, read in IS (R123). -/
def Core.rptCount (c : Core) (w : CpWord) : Nat := if w.opc = 0x69 then w.opnd else c.isv.cnt.toNat

/-- RPT or RPT.C issues with its guard passing (R123): without a count its other operations do not execute and the bundle is done, else they follow.
Log entry 90 has a fault after some repetitions. -/
def State.rptStart (s : State) (n : Nat) (w : CpWord) (l : List CpWord) : State :=
  let k := (s.core n).rptCount w
  if k = 0 || l.isEmpty then
    (s.modCore n (fun c => { c with extra := k - 1, part := w :: l, todo := [] })).issueNext n (w :: l)
  else s.modCore n (fun c => { c with part := [w], todo := l, rpt := some k })

/-- An operation of a bundle reaches core o.core, which runs and has issued the operations before it (R78 to R109): slot and opcode of the operation, and its effect where its
guard passes. An effect that takes a fault, or ends a string operation early, leaves nothing of the bundle to do. -/
def State.cpOp (s : State) (o : CpOp) (slot opc : Nat) (eff : State → Nat → CpWord → State) : State :=
  let n := o.core.val
  let w := o.cw slot opc
  let b := o.bundle slot opc
  let c := s.core n
  if c.st != 1 || c.part != o.before || (!c.part.isEmpty && c.todo != w :: o.after) then s
  else
    let x := if c.part.isEmpty then s.bundleStart n b else (true, s)
    if !x.1 then x.2
    else if w.isRpt then (if (x.2.core n).passes w then x.2.rptStart n w o.after else x.2.opDone n w o.after)
    else
      let y := if c.part.all CpWord.isRpt then x.2.issueStart n o.lost b (w :: o.after) else (true, x.2)
      if !y.1 then y.2
      else
        let z := if (y.2.core n).passes w then eff y.2 n w else y.2
        if (z.core n).todo.isEmpty then z else z.opDone n w o.after

/-- The CP of core n makes progress in a cycle (R312): in IDLE; in RUN, entries and waiting cycles counted, unless its bundle is kept in AG or misses its
fetch group. -/
def State.progress (s : State) (n : Nat) : Bool :=
  let c := s.core n
  c.st == 0 || (c.st == 1 &&
    (if c.part.isEmpty then c.todo.isEmpty && (c.first != 0 || !c.wait.isEmpty || !s.stalledFetch n)
     else !(c.rpt.isSome && (c.todo.any (s.holds n) || c.aper.any (fun a => !a.done)))))

/-- HEARTBEAT (R312, R431): spire n, whose heartbeat of this tick is still due and whose island has power, makes progress and sends it. -/
def State.heartbeat (s : State) (n : Nat) : State :=
  if s.bel.hbDue.getLsbD n && s.bit Reg.KEEP_SPIRE_PSTAT n && s.progress n then
    (s.modBel (fun b => { b with hbDue := putBit b.hbDue n false })).post n 42 .hb
  else s

/-- EVWAIT_RELEASE and TWAIT_RELEASE (R132): the condition of the waiting operation, which p picks, holds and its bundle issues; otherwise
a waiting cycle passes. -/
def State.waitRelease (s : State) (n : Nat) (p : CpWord → Bool) : State :=
  let t := s.modCore n Core.slotStart
  let c := t.core n
  match c.wait.find? (fun w => w.slot == 5 && p w && c.passes w) with
  | none => s
  | some w => t.setCore n (if t.waitDone n w then { c with go := true } else c.slotEnd)

/-- INTERRUPT_ENTRY (R98): the interrupt, fault of a return or NMI that waits is taken; else the bundle b, which no command presents operation by operation
when its first word names none, comes to IS and its fault is taken (R83, R107, R134). A bundle that breaks no rule stays as it is. -/
def State.interruptEntry (s : State) (n : Nat) (b : List CpWord) : State :=
  let c := s.core n
  if b.isEmpty || s.mustYield n then s.takeInterrupt n
  else if c.st = 1 && c.part.isEmpty && c.todo.isEmpty then
    let x := s.bundleStart n b
    if x.1 then s else x.2
  else s

end Sys2Proof.Machine
end

