-- ==== Sys2Proof/Machine/Scalar.lean ====
section
/-! DEFINITION. Effects of the S, M and E operations of a bundle (R115 to R133, R201, R284), each on the state in which the operation issues
with its guard passing. Register results are written as of the bundle's write back (R80). -/

namespace Sys2Proof.Machine

/-- Register r of core n takes v as a result of the class "register operands". -/
def State.putReg (s : State) (n r : Nat) (v : Word) : State := s.modCore n (fun c => { c with f := c.f.set r v })

/-- A sign-extended field of a word. -/
def sext (len v : Nat) : Word := (BitVec.ofNat len v).signExtend 32

/-! ### S slot -/

/-- A narrow read of operation w that returns six cycles after it is granted (R81, R87, R155, R174). -/
def State.loadReq (s : State) (n : Nat) (w : CpWord) (len : Nat) (op : LoadOp) : State :=
  let c := s.core n
  let a := c.ea w
  let r := s.narrowRead n a.toNat len
  let split := (narrowParts a.toNat len).length - 1
  r.2.2.modCore n (fun d => { d with loads := d.loads ++ [{ fresh := true, due := 3 + split + c.lag + s.portLost n c.todo w - c.held, op := op, data := r.1, pois := r.2.1, pc := c.pc, addr := a }] })

/-- Source b of a register or immediate kind (R115). -/
def Core.aluSrc (c : Core) (w : CpWord) : Word :=
  if w.opc % 4 = 0 then c.wb.get (ofld w.opnd 10 3) else w.ext.getD (sext 13 (ofld w.opnd 0 13))

/-- An arithmetic or logic operation of function func (R115, R116). -/
def State.alu (s : State) (n func : Nat) (w : CpWord) : State :=
  let dst := ofld w.opnd 13 3
  if w.opc % 4 < 2 then
    s.modCore n (fun c =>
      { c with f := c.f.set dst (aluVal func (c.wb.get dst) (c.aluSrc w) (srC c.sr))
               sr := putBit c.sr 0 (aluC func (c.wb.get dst) (c.aluSrc w) (srC c.sr))
               lateC := if 1 ≤ func && func ≤ 4 then none else c.lateC })
  else s.loadReq n w 4 (.alu func dst)

/-- CMP in both forms (R117). -/
def State.cmp (s : State) (n : Nat) (w : CpWord) : State :=
  s.modCore n (fun c =>
    let a := c.wb.get (ofld w.opnd 13 3)
    let b := if w.opc < 0x48 then c.wb.get (ofld w.opnd 7 3) else w.ext.getD (sext 10 (ofld w.opnd 0 10))
    { c with f := c.f.setP (ofld w.opnd 10 3) (condVal (w.opc % 8) a b) })

/-- PLOG (R117). -/
def State.plog (s : State) (n : Nat) (w : CpWord) : State :=
  s.modCore n (fun c =>
    let i := (if c.wb.p (ofld w.opnd 10 3) then 2 else 0) + (if c.wb.p (ofld w.opnd 7 3) then 1 else 0)
    { c with f := c.f.setP (ofld w.opnd 13 3) (w.opnd.testBit i) })

/-- MFC (R117) reads in WB, and so finds the count of the LOOP that its own bundle ends (R125), and what the four bundles behind it write in IS (log entry 59). -/
def State.mfc (s : State) (n : Nat) (w : CpWord) : State :=
  let v := ((s.loopNext n 0).2.core n).ctlReg (ofld w.opnd 9 4)
  (s.putReg n (ofld w.opnd 13 3) v).modCore n (fun c => { c with mfcs := c.mfcs ++ [{ due := 5, ctl := ofld w.opnd 9 4, dst := ofld w.opnd 13 3, v := v }] })

/-- MTC (R113, R117): PRED and C of SR are written in WB as registers are; the stages before WB see the rest four cycles on. -/
def State.mtc (s : State) (n : Nat) (w : CpWord) : State :=
  s.modCore n (fun c =>
    let v := c.wb.get (ofld w.opnd 13 3)
    let k := ofld w.opnd 9 4
    if k = 1 then { c with f := { c.f with pred := (v.setWidth 8 &&& 0xFE) ||| (c.f.pred &&& 1) } }
    else { c with mtcs := c.mtcs ++ [{ due := 4, ctl := k, v := v }]
                  sr := if k = 0 then putBit c.sr 0 (bitOf v 0) else c.sr
                  lateC := if k = 0 then none else c.lateC })

/-- A long operation (R118). -/
def State.longOp (s : State) (n : Nat) (w : CpWord) : State :=
  s.modCore n (fun c => { c with lop := some (w.opc, ofld w.opnd 13 3, ofld w.opnd 10 3) })

/-- The target of a branch to an offset or an extension word (R120). -/
def Core.brTarget (c : Core) (w : CpWord) : Word := w.ext.getD (c.pc + (sext 16 w.opnd <<< 2))

/-- A branch of core n to x, whose bits [1:0] are ignored (R120; for an extension word this is the model's reading, log entry 60). -/
def State.branch (s : State) (n : Nat) (x : Word) (delayed : Bool) : State :=
  s.modCore n (fun c => { c with ctl := .branch (putFld x 0 2 0) delayed })

/-- The address of the bundle after the one whose operations are those issued, w and l. -/
def Core.nextPc (c : Core) (b : List CpWord) : Word := c.pc + w32 (4 * bundleLen b)

/-- BRL (R120). -/
def State.brl (s : State) (n : Nat) (w : CpWord) : State :=
  let c := s.core n
  (s.putReg n 4 (c.nextPc c.todo)).branch n (c.brTarget w) false

/-- BRL.D (R120): the address after the second slot is taken from the code in memory, and is corrected when the slots have issued; Core.lrSlot has the
write that comes later than the write back of its bundle (log entry 60). -/
def State.brlD (s : State) (n : Nat) (w : CpWord) : State :=
  let c := s.core n
  let x := s.codeNext n (s.codeNext n (c.nextPc c.todo))
  ((s.putReg n 4 x).modCore n (fun d => { d with lrDue := some { val := x, old := c.f.lr, age := 0, due := none, made := false } })).branch n (c.brTarget w) true

/-- BRI and BRI.D: the register is read in IS (R120). -/
def State.bri (s : State) (n : Nat) (w : CpWord) (delayed : Bool) : State :=
  s.branch n ((s.core n).isv.get (ofld w.opnd 13 3)) delayed

/-- RETI, RETN and END act when their bundle ends. -/
def State.setCtl (s : State) (n : Nat) (k : Ctl) : State := s.modCore n (fun c => { c with ctl := k })

/-- LOOP and LOOP.C with a count (R124). -/
def State.loopSet (s : State) (n : Nat) (w : CpWord) (cnt : BitVec 16) : State :=
  let c := s.core n
  let e := c.pc + w32 (4 * w.opnd)
  let t := s.setCore n { c with lbeg := c.nextPc c.todo, lend := e, ln := cnt, sr := putBit c.sr 6 true }
  if cnt = 0 then t.branch n (t.codeNext n e) false else t

/-! ### M slot -/

/-- The base register of operation w takes its effective address (R119). -/
def State.baseUpd (s : State) (n : Nat) (w : CpWord) : State :=
  if w.opc % 2 = 1 then s.putReg n (1 + ofld w.opnd 12 1) ((s.core n).ea w) else s

/-- LD (R119). -/
def State.ld (s : State) (n : Nat) (w : CpWord) : State :=
  let size := w.opc / 4 % 4
  (s.loadReq n w (2 ^ size) (.load (ofld w.opnd 13 3) size (w.opc / 2 % 2 == 1))).baseUpd n w

/-- ST (R88, R119): address and data are read in AG. -/
def State.st (s : State) (n : Nat) (w : CpWord) : State :=
  let c := s.core n
  let a := (c.ea w).toNat
  let len := 2 ^ (w.opc / 4 % 4)
  (s.narrowStore n a len (c.agv.get (ofld w.opnd 13 3))).baseUpd n w

/-- LEA (R119). -/
def State.lea (s : State) (n : Nat) (w : CpWord) : State := s.putReg n (ofld w.opnd 13 3) ((s.core n).ea w)

/-! ### String operations (R127 to R129) -/

/-- Registers of a string operation in progress: addresses and elements left, the fault of the element they describe (source 0 for none), a hit,
an access of the Keep's aperture that is not complete, and the writes of MOVS not yet presented. -/
structure StrSt where
  x0 : Word
  x1 : Word
  left : Nat
  src : Nat
  addr : Word
  hit : Bool
  hold : Bool
  late : List (Word × Word)

/-- A direct write of an element of size bytes, its checks passed: it goes past the empty store buffer (R128). -/
def State.elemStore (s : State) (n size : Nat) (a v : Word) : State := (s.narrowStore n a.toNat size v).sbDrain n 2

/-- The accesses of one element (R127): local addresses and permissions. -/
def strAccess (kind : Nat) (x0 x1 : Word) : List (Word × Nat) :=
  match kind with
  | 0 => [(x0, 0), (x1, 1)]
  | 1 => [(x1, 1)]
  | 2 => [(x0, 0)]
  | _ => [(x0, 0), (x1, 0)]

/-- An access of a string element is asked for when it goes through the Keep's aperture (R385): true when nothing holds it. -/
def State.strAsk (s : State) (n size : Nat) (a : Word) (write : Bool) (v : Word) : Bool × State :=
  match s.localPart n a.toNat size (if write then 1 else 0) with
  | .aper g => s.aperAsk n g size write (leBytes v.toNat size)
  | _ => (true, s)

/-- The element's accesses through the aperture are complete. -/
def State.strAsked (s : State) (n : Nat) : State := s.modCore n (fun c => { c with aper := [] })

/-- One element of FILLS (R127). -/
def State.fillsElem (s : State) (n size : Nat) (acc a : Word) (r : StrSt) : StrSt × State :=
  let (go, t) := s.strAsk n size a true acc
  if go then ({ r with x1 := r.x1 + w32 size, left := r.left - 1 }, (t.strAsked n).elemStore n size a acc) else ({ r with hold := true }, t)

/-- One element of MOVS (R127, R128): the write of an element follows the reads of the three behind it. -/
def State.movsElem (s : State) (n size : Nat) (a b : Word) (r : StrSt) : StrSt × State :=
  let s := match r.late with
    | (a, v) :: _ => if 3 < r.late.length then s.elemStore n size a v else s
    | [] => s
  let r := { r with late := if 3 < r.late.length then r.late.drop 1 else r.late }
  let (go, t) := s.strAsk n size a false 0
  if !go then ({ r with hold := true }, t)
  else
    let (v, p, t) := t.narrowRead n a.toNat size
    if p then ({ r with src := 3, addr := a }, t)
    else
      let (go, t) := t.strAsk n size b true v
      if go then ({ r with x0 := r.x0 + w32 size, x1 := r.x1 + w32 size, left := r.left - 1, late := r.late ++ [(b, v)] }, t.strAsked n)
      else ({ r with hold := true }, t)

/-- One element of SCANS (R127). -/
def State.scansElem (s : State) (n size : Nat) (ne : Bool) (acc a : Word) (r : StrSt) : StrSt × State :=
  let (go, t) := s.strAsk n size a false 0
  if !go then ({ r with hold := true }, t)
  else
    let (v, p, t) := t.narrowRead n a.toNat size
    if p then ({ r with src := 3, addr := a }, t)
    else if (v == w32 (acc.toNat % 2 ^ (8 * size))) != ne then ({ r with hit := true }, t)
    else ({ r with x0 := r.x0 + w32 size, left := r.left - 1 }, t.strAsked n)

/-- One element of CMPS (R127). -/
def State.cmpsElem (s : State) (n size : Nat) (a b : Word) (r : StrSt) : StrSt × State :=
  let (g0, t) := s.strAsk n size a false 0
  let (g1, t) := t.strAsk n size b false 0
  if !(g0 && g1) then ({ r with hold := true }, t)
  else
    let (v, p, t) := t.narrowRead n a.toNat size
    if p then ({ r with src := 3, addr := a }, t)
    else
      let (u, q, t) := t.narrowRead n b.toNat size
      if q then ({ r with src := 3, addr := b }, t)
      else if v != u then ({ r with hit := true }, t)
      else ({ r with x0 := r.x0 + w32 size, x1 := r.x1 + w32 size, left := r.left - 1 }, t.strAsked n)

/-- One element of a string operation of core n (R127 to R129). The checks of its accesses come before a poisoned read (log entry 61). -/
def State.strElem (s : State) (n kind size : Nat) (ne : Bool) (acc : Word) (r : StrSt) : StrSt × State :=
  let a := r.x0 &&& ~~~(w32 (size - 1))
  let b := r.x1 &&& ~~~(w32 (size - 1))
  match (strAccess kind a b).findSome? (fun p =>
    match s.partsFault n p.2 [(p.1.toNat, size)] with
    | 0 => none
    | f => some (f, p.1)) with
  | some (f, x) => ({ r with src := f, addr := x }, s)
  | none =>
    match kind with
    | 0 => s.movsElem n size a b r
    | 1 => s.fillsElem n size acc b r
    | 2 => s.scansElem n size ne acc a r
    | _ => s.cmpsElem n size a b r

/-- k elements at most, up to a hit, a fault or an access that is not complete. -/
def State.strRun (s : State) (n kind size : Nat) (ne : Bool) (acc : Word) : Nat → StrSt → StrSt × State
  | 0, r => (r, s)
  | k + 1, r =>
    let (q, t) := s.strElem n kind size ne acc r
    if q.hit || q.hold || q.src != 0 then (q, t) else t.strRun n kind size ne acc k q

/-- Cycles of a string operation of cnt elements that stopped with left to go (R127). -/
def strCount (kind cnt left : Nat) (hit : Bool) : Nat :=
  if cnt = 0 then 1
  else match kind with
  | 0 => 2 * cnt + 6
  | 1 => cnt
  | 2 => if hit then cnt - left + 7 else cnt + 6
  | _ => if hit then 2 * (cnt - left) + 8 else 2 * cnt + 6

/-- The cycles from the issue of a string operation to the cycle behind its stop, E1 of what stops it (R101, R128, R129): an element that completed the e-th,
or a fault of source src on element e, on the second access of the element when snd says so. -/
def strEndsAt (kind e src : Nat) (snd : Bool) : Nat :=
  let k := if snd then 1 else 0
  match kind with
  | 0 => if src = 0 then 7 + 2 * e else if src = 3 then 8 + 2 * e else if snd then 9 + 2 * e else if e = 0 then 2 else 7 + 2 * e
  | 1 => if src = 0 then 1 + e else 2 + e
  | 2 => if src = 0 then 7 + e else if src = 3 then 8 + e else if e = 0 then 2 else 7 + e
  | _ => if src = 0 then 7 + 2 * e else if src = 3 then 8 + 2 * e + k else if e = 0 then 2 + k else 7 + 2 * e

/-- Registers of r in every stage's view (R127, R128): those that the kind counts, CNT and, when a predicate is written, Pd. -/
def Core.strWrite (c : Core) (kind : Nat) (r : StrSt) (pd : Option (Nat × Bool)) : Core :=
  let g := fun (x : Scal) =>
    let y := { x with ix0 := if kind = 1 then x.ix0 else r.x0, ix1 := if kind = 2 then x.ix1 else r.x1, cnt := BitVec.ofNat 16 r.left }
    match pd with
    | some (k, b) => y.setP k b
    | none => y
  { c with f := g c.f, h1 := g c.h1, h2 := g c.h2, h3 := g c.h3, h4 := g c.h4, agv := g c.agv }

/-- An asynchronous source, the NMI or a halt would be taken at the completion of the first element of a string operation (R97, R129). -/
def State.strStops (s : State) (n : Nat) : Bool :=
  let c := s.core n
  !(s.modCore n (fun c => { c with bnd := false })).heldOff n && (s.haltReq n || (c.nmiPend && !c.nmiAct) || (s.eligible n).isSome)

/-- The elements that a string operation of cnt elements runs (R97, R129): one when an interrupt waits at its completion, and at most upTo, after which its CP
comes to a boundary. -/
def strLimit (cnt : Nat) (stops : Bool) (upTo : Option Nat) : Nat := Nat.min cnt (if stops then 1 else Nat.max 1 (upTo.getD cnt))

/-- A string operation has lost k cycles (R104); which of its requests in the vault lost them is open (R173, log entry 6). -/
def State.strLoses (s : State) (n k : Nat) : State :=
  if k = 0 then s
  else
    let t := s.bump (Reg.CP_STALL n) k
    if n = 32 then t else t.openConf n 6

/-- The string operation w under REPS (R127 to R129): it runs to its end, a hit or a fault; an interrupt finds it between elements, and its bundle stands to
issue again. An access of the Keep's aperture that is not complete keeps the bundle in AG (R385). lost are the cycles its accesses lose, however it ends.
The returns of the cycles up to its end are those of R100. Operands are read in AG. -/
def State.string (s : State) (n lost : Nat) (upTo : Option Nat) (w : CpWord) : State :=
  let c := s.core n
  match c.part with
  | [] => s
  | rw :: _ =>
    if !c.passes rw then s
    else
      let kind := w.opc % 4
      let size := 2 ^ (w.opc / 4 % 4)
      let cnt := c.agv.cnt.toNat
      let (r, t) := s.strRun n kind size (ofld w.opnd 15 1 == 1) c.agv.acc (strLimit cnt (s.strStops n) upTo)
        { x0 := c.agv.ix0, x1 := c.agv.ix1, left := cnt, src := 0, addr := 0, hit := false, hold := false, late := [] }
      let t := (r.late.foldl (fun (t : State) p => t.elemStore n size p.1 p.2) t).strLoses n (if cnt = 0 then 0 else lost)
      let snd := r.addr != r.x0 &&& ~~~(w32 (size - 1))
      let stopAt := fun (src : Nat) => strEndsAt kind (cnt - r.left) src snd + lost
      let pd := if 2 ≤ kind then some (ofld rw.opnd 13 3, r.hit) else none
      if r.src != 0 then
        let u := (t.modCore n (fun c => { (c.ticks (stopAt r.src - 2)).strWrite kind r none with lateC := none })).setReg (Reg.CP_PC n) c.pc
        u.cpFault n r.src c.pc (if r.src = 3 then c.nextPc (rw :: c.todo) else c.pc) (some r.addr) none
      else if r.hold then t.modCore n (fun d => { d.sync.kill.strWrite kind r none with aper := d.aper, groups := d.groups, todo := rw :: c.todo })
      else if 0 < r.left && !r.hit then (t.modCore n (fun d =>
          let e := (d.ticks (stopAt 0 - 1)).slotEnd
          { e.kill.strWrite kind r none with groups := d.groups, lateC := e.lateC })).setReg (Reg.CP_PC n) c.pc
      else if cnt = 0 then t.modCore n (fun c =>
        match pd with
        | some (k, b) => { c with f := c.f.setP k b, h1 := c.h1.setP k b, h2 := c.h2.setP k b, h3 := c.h3.setP k b, h4 := c.h4.setP k b }
        | none => c)
      else t.modCore n (fun c => (c.pass (strCount kind cnt r.left r.hit + lost - 1)).strWrite kind r pd)

/-! ### E slot -/

/-- EVSEND and EVSENDI (R131, R306, R307). -/
def State.evsend (s : State) (n : Nat) (w : CpWord) : State :=
  let c := s.core n
  let (t, k) := c.evTarget w
  let amt := match ofld w.opnd 0 2 with
    | 0 => 1
    | 1 => c.agv.acc.toNat % 2 ^ 16
    | _ => (w.ext.getD 0).toNat % 2 ^ 16
  if s.inGrid t then s.sendInc (cpNode n) t k amt
  else if n < 32 then ((s.bump (Reg.EVT_DROP n)).err (spirePage n 12) 0x81 t k).raise (spirePage n 12) 1
  else s

/-- FIRE (R133): the record is read with the store buffer merged. -/
def State.fire (s : State) (n : Nat) (w : CpWord) : State :=
  let c := s.core n
  let a := (c.ea w).toNat / 16 * 16
  let r := (List.range 4).foldl (fun (x : List Byte × Bool × State) i =>
    let (v, bad, t) := x.2.2.narrowRead n ((a + 4 * i) % 2 ^ 32) 4
    (x.1 ++ leBytes v.toNat 4, x.2.1 || bad, t)) ([], false, s)
  r.2.2.modCore n (fun d => { d with fires := d.fires ++ [{ data := r.1, pois := r.2.1, pc := c.pc, addr := w32 a }] })

/-- DSUB (R201): one wide read of 32 bytes. -/
def State.dsub (s : State) (n : Nat) (w : CpWord) : State :=
  let c := s.core n
  let a := (c.ea w).toNat / 32 * 32
  match s.localPart n a 32 0 with
  | .mem p =>
    let (b, bad, t) := s.blockRead p 32 1
    t.modCore n (fun d => { d with dsubs := d.dsubs ++ [{ data := b, pois := !bad.isEmpty, pc := c.pc, addr := w32 a }] })
  | _ => s

/-- DESCRIPTOR_ENQUEUE (R201): the descriptor read first returns; a copy enters the dome queue, or POISON is raised. -/
def State.descEnqueue (s : State) (n : Nat) : State :=
  match (s.core n).dsubs with
  | [] => s
  | r :: t =>
    let u := s.modCore n (fun c => { c with dsubs := t })
    if r.pois then u.modCore n (fun c => c.lateFault { src := 3, pc := r.pc, addr := r.addr, elem := 0, slots := 0 })
    else u.modDome n (fun d => { d with queue := d.queue ++ [(List.range 8).map (fun k => leNum ((r.data.drop (4 * k)).take 4))] })

end Sys2Proof.Machine
end

