-- ==== Sys2Proof/Machine/ExecEvents.lean ====
section
/-! DEFINITION. The commands that stand for events: of the timebase and the Belfry, of the processors, the mesh, the vaults, the domes, transfers, ports, timed I/O, host, links, bring-up, power and DRAM: one meaning per command. -/

namespace Sys2Proof.Machine

/-- INTERNAL_GRID_POINT (R39). -/
def execInternalGridPoint (s : State) : Host.Outcome State Fault Refusal :=
  .next (s.gridPoint)

/-- TICK_BOUNDARY (R35). -/
def execTickBoundary (s : State) : Host.Outcome State Fault Refusal :=
  .next (s.tickBoundary)

/-- TICK_STALL (R42). -/
def execTickStall (s : State) : Host.Outcome State Fault Refusal :=
  .next (s.tickStall)

/-- TIME_SYNC_CAPTURE (R47). -/
def execTimeSyncCapture (s : State) : Host.Outcome State Fault Refusal :=
  .next (s.timeSync)

/-- SLEW_STEP (R48). -/
def execSlewStep (s : State) : Host.Outcome State Fault Refusal :=
  .next (s.slewEvent)

/-- NOP_ENTRY (R55). -/
def execNopEntry (s : State) : Host.Outcome State Fault Refusal :=
  .next (s.dispatchOp 0)

/-- TICK_END (R62). -/
def execTickEnd (s : State) : Host.Outcome State Fault Refusal :=
  .next (s.tickEndOp)

/-- BARRIER (R61). -/
def execBarrier (s : State) : Host.Outcome State Fault Refusal :=
  .next (s.dispatchOp 2)

/-- PORT_ARM (R56). -/
def execPortArm (s : State) : Host.Outcome State Fault Refusal :=
  .next (s.dispatchOp 0x10)

/-- DMA_START (R57). -/
def execDmaStart (s : State) : Host.Outcome State Fault Refusal :=
  .next (s.dispatchOp 0x11)

/-- STREAM_ARM (R57). -/
def execStreamArm (s : State) : Host.Outcome State Fault Refusal :=
  .next (s.dispatchOp 0x12)

/-- DISPATCH (R58). -/
def execDispatch (s : State) : Host.Outcome State Fault Refusal :=
  .next (s.dispatchOp 0x20)

/-- EVT_POST (R59). -/
def execEvtPost (s : State) : Host.Outcome State Fault Refusal :=
  .next (s.dispatchOp 0x21)

/-- SCALE_COMMIT (R221). -/
def execScaleCommit (s : State) : Host.Outcome State Fault Refusal :=
  .next (s.dispatchOp 0x22)

/-- LOAD_COPY (R73). -/
def execLoadCopy (s : State) : Host.Outcome State Fault Refusal :=
  .next (s.loadCopy)

/-- LOAD_DONE (R75). -/
def execLoadDone (s : State) : Host.Outcome State Fault Refusal :=
  .next (s.loadDone)

/-- ENTRY_POINT_TAKE (R94). -/
def execEntryPointTake (n : CpId) (s : State) : Host.Outcome State Fault Refusal :=
  .next (s.entryTake n.val)

/-- INTERRUPT_ENTRY (R98). -/
def execInterruptEntry (n : AtBundle) (s : State) : Host.Outcome State Fault Refusal :=
  .next (s.interruptEntry n.core.val n.bundle)

/-- HALTED (R104). -/
def execHalted (n : CpId) (s : State) : Host.Outcome State Fault Refusal :=
  .next (s.halted n.val)

/-- TIMER (R459). -/
def execTimer (n : CpId) (s : State) : Host.Outcome State Fault Refusal :=
  .next (s.timer n.val)

/-- ICACHE_LINE_FILL (R84). -/
def execIcacheLineFill (n : CpId) (a : LineFill) (s : State) : Host.Outcome State Fault Refusal :=
  .next (s.icFill n.val a.addr.toNat a.lost a.stall)

/-- NARROW_READ_RETURN (R81). -/
def execNarrowReadReturn (n : CpId) (s : State) : Host.Outcome State Fault Refusal :=
  .next (s.modCore n.val Core.narrowReturn)

/-- STORE_BUFFER_WRITE (R88). -/
def execStoreBufferWrite (n : CpId) (s : State) : Host.Outcome State Fault Refusal :=
  .next (s.sbWrite n.val)

/-- EVWAIT_RELEASE (R132). -/
def execEvwaitRelease (n : CpId) (s : State) : Host.Outcome State Fault Refusal :=
  .next (s.waitRelease n.val (fun w => w.opc == 2))

/-- TWAIT_RELEASE (R132). -/
def execTwaitRelease (n : CpId) (s : State) : Host.Outcome State Fault Refusal :=
  .next (s.waitRelease n.val (fun w => w.opc == 3 || w.opc == 4))

/-- FIRE_RECORD_SEND (R133). -/
def execFireRecordSend (n : CpId) (s : State) : Host.Outcome State Fault Refusal :=
  .next (s.fireSend n.val)

/-- DESCRIPTOR_ENQUEUE (R201). -/
def execDescriptorEnqueue (n : Spire) (s : State) : Host.Outcome State Fault Refusal :=
  .next (s.descEnqueue n.val)

/-- VECTOR_LOAD_RETURN (R152). -/
def execVectorLoadReturn (n : Spire) (s : State) : Host.Outcome State Fault Refusal :=
  .next (s.modCore n.val Core.vectorReturn)

/-- PW (R181). -/
def execPw (m : Msg) (h : Header) (s : State) : Host.Outcome State Fault Refusal :=
  .next (s.meshPw m h)

/-- RREQ (R300). -/
def execRreq (m : Msg) (h : Header) (s : State) : Host.Outcome State Fault Refusal :=
  .next (s.meshRreq m h)

/-- RD (R298). -/
def execRd (m : Msg) (h : Header) (s : State) : Host.Outcome State Fault Refusal :=
  .next (s.meshRd m h)

/-- RDR (R298). -/
def execRdr (m : Msg) (h : Header) (s : State) : Host.Outcome State Fault Refusal :=
  .next (s.meshRdr m h)

/-- INC (R305). -/
def execInc (m : Msg) (h : Header) (s : State) : Host.Outcome State Fault Refusal :=
  .next (s.meshInc m h)

/-- ACK (R302). -/
def execAck (m : Msg) (h : Header) (s : State) : Host.Outcome State Fault Refusal :=
  .next (s.meshAck m h)

/-- RCRED (R300). -/
def execRcred (m : Msg) (h : Header) (s : State) : Host.Outcome State Fault Refusal :=
  .next (s.meshRcred m h)

/-- TC (R43). -/
def execTc (m : Msg) (h : Header) (s : State) : Host.Outcome State Fault Refusal :=
  .next (s.meshTc m h)

/-- HB (R313). -/
def execHb (m : Msg) (h : Header) (s : State) : Host.Outcome State Fault Refusal :=
  .next (s.meshHb m h)

/-- HEARTBEAT (R312). -/
def execHeartbeat (n : Spire) (s : State) : Host.Outcome State Fault Refusal :=
  .next (s.heartbeat n.val)

/-- OUTBOUND_EVENT_RELEASE (R302). -/
def execOutboundEventRelease (src : Node) (s : State) : Host.Outcome State Fault Refusal :=
  .next (s.releaseHeld src.val)

/-- SEG_READY (R184). -/
def execSegReady (n : Spire) (seg : Fin 16) (s : State) : Host.Outcome State Fault Refusal :=
  .next (s.segReady n.val seg.val)

/-- SCRUB_READ (R188). -/
def execScrubRead (n : Spire) (s : State) : Host.Outcome State Fault Refusal :=
  .next (s.scrubRead n.val)

/-- SCRUB_WRITEBACK (R188). -/
def execScrubWriteback (n : Spire) (s : State) : Host.Outcome State Fault Refusal :=
  .next (s.scrubWrite n.val)

/-- LOADW (R206). -/
def execLoadw (n : Spire) (s : State) : Host.Outcome State Fault Refusal :=
  .next (s.loadwRow n.val)

/-- RUN (R207). -/
def execRun (n : Spire) (s : State) : Host.Outcome State Fault Refusal :=
  .next (s.runIssue n.val)

/-- LOADCB (R208). -/
def execLoadcb (n : Spire) (s : State) : Host.Outcome State Fault Refusal :=
  .next (s.tableIssue n.val 3)

/-- LOADRS (R208). -/
def execLoadrs (n : Spire) (s : State) : Host.Outcome State Fault Refusal :=
  .next (s.tableIssue n.val 4)

/-- LOADAF (R208). -/
def execLoadaf (n : Spire) (s : State) : Host.Outcome State Fault Refusal :=
  .next (s.tableIssue n.val 5)

/-- POOLCFG (R208). -/
def execPoolcfg (n : Spire) (s : State) : Host.Outcome State Fault Refusal :=
  .next (s.tableIssue n.val 6)

/-- WINCFG (R236). -/
def execWincfg (n : Spire) (s : State) : Host.Outcome State Fault Refusal :=
  .next (s.tableIssue n.val 7)

/-- MARK (R208). -/
def execMark (n : Spire) (s : State) : Host.Outcome State Fault Refusal :=
  .next (s.tableIssue n.val 8)

/-- RUN_COMPLETE (R213). -/
def execRunComplete (n : RunProgress) (s : State) : Host.Outcome State Fault Refusal :=
  .next (s.runComplete n.dome.val n.upTo)

/-- LOADW_COMPLETE (R212). -/
def execLoadwComplete (n : DomeProgress) (s : State) : Host.Outcome State Fault Refusal :=
  .next (s.loadwComplete n.dome.val n.upTo)

/-- TABLE_LOAD_COMPLETE (R212). -/
def execTableLoadComplete (n : DomeProgress) (s : State) : Host.Outcome State Fault Refusal :=
  .next (s.tableComplete n.dome.val n.upTo)

/-- UPD_ENGINE_BEGIN (R228). -/
def execUpdEngineBegin (n : Spire) (s : State) : Host.Outcome State Fault Refusal :=
  .next (s.updBegin n.val)

/-- UPD_DONE (R231). -/
def execUpdDone (n : DomeProgress) (s : State) : Host.Outcome State Fault Refusal :=
  .next (s.updDone n.dome.val n.upTo)

/-- DMA_PIECE_REQUEST (R271). -/
def execDmaPieceRequest (ch : Fin 288) (s : State) : Host.Outcome State Fault Refusal :=
  .next (s.dmaRequest ch.val)

/-- STREAM_ROW_FETCH (R281). -/
def execStreamRowFetch (n : Spire) (st : Fin 4) (s : State) : Host.Outcome State Fault Refusal :=
  .next (s.streamRowFetch n.val st.val)

/-- SLOT_READY (R282). -/
def execSlotReady (n : Spire) (st : Fin 4) (s : State) : Host.Outcome State Fault Refusal :=
  .next (s.slotReady n.val st.val)

/-- LANTERN_FETCH (R288). -/
def execLanternFetch (b : Fin 4) (s : State) : Host.Outcome State Fault Refusal :=
  .next (s.lanFetch b.val)

/-- LANTERN_FILL (R288). -/
def execLanternFill (b : Fin 4) (s : State) : Host.Outcome State Fault Refusal :=
  .next (s.lanFill b.val)

/-- INV_DONE (R290). -/
def execInvDone (s : State) : Host.Outcome State Fault Refusal :=
  .next (s.lanInvDone)

/-- LINE (R319). -/
def execLine (p : Fin 16) (vc : Fin 4) (dt : BitVec 6) (payload : List Byte) (crcOk corrected : Bool) (s : State) : Host.Outcome State Fault Refusal :=
  .next (s.longPacket p.val vc.val dt.toNat payload crcOk corrected)

/-- FRAME_START (R319). -/
def execFrameStart (p : Fin 16) (vc : Fin 4) (corrected : Bool) (s : State) : Host.Outcome State Fault Refusal :=
  .next (s.frameStart p.val vc.val corrected)

/-- HDR_UE (R320). -/
def execHdrUe (p : Fin 16) (s : State) : Host.Outcome State Fault Refusal :=
  .next (s.headerLost p.val)

/-- LANDING_WRITE (R263). -/
def execLandingWrite (p : Fin 16) (s : State) : Host.Outcome State Fault Refusal :=
  .next (s.landingWrite p.val)

/-- TRIGGER_PULSE (R326). -/
def execTriggerPulse (p : Fin 16) (s : State) : Host.Outcome State Fault Refusal :=
  .next (s.triggerPulse p.val)

/-- I2C_DONE (R327). -/
def execI2cDone (p : Fin 16) (e : I2cEnd) (s : State) : Host.Outcome State Fault Refusal :=
  .next (s.i2cEnd p.val e)

/-- SPI_DONE (R328). -/
def execSpiDone (p : Fin 16) (rx : Word) (s : State) : Host.Outcome State Fault Refusal :=
  .next (s.spiEnd p.val rx)

/-- FIRE_RECORD (R334). -/
def execFireRecord (s : State) : Host.Outcome State Fault Refusal :=
  .next (s.fireRecord)

/-- ACTIVE_EDGE (R336). -/
def execActiveEdge (c : Fin 96) (s : State) : Host.Outcome State Fault Refusal :=
  .next (s.activeEdge c.val)

/-- INACTIVE_EDGE (R336). -/
def execInactiveEdge (c : Fin 96) (s : State) : Host.Outcome State Fault Refusal :=
  .next (s.inactiveEdge c.val)

/-- INPUT_EDGE (R340, R341). -/
def execInputEdge (i : Fin 32) (level : HeldLevel) (s : State) : Host.Outcome State Fault Refusal :=
  .next (s.inputEdge i.val level.high level.held)

/-- ENCODER_COUNT (R340, R343). -/
def execEncoderCount (e : HeldEncoder) (a b : Bool) (s : State) : Host.Outcome State Fault Refusal :=
  .next (s.encoderCount e.enc.val a b e.heldA e.heldB)

/-- INDEX (R344). -/
def execIndex (e : HeldIndex) (s : State) : Host.Outcome State Fault Refusal :=
  .next (s.encIndex e.enc.val e.high e.held)

/-- HOST_BAR2_WRITE (R351). -/
def execHostBar2Write (off : BitVec 30) (data : List Byte) (s : State) : Host.Outcome State Fault Refusal :=
  .next (s.bar2Write off.toNat data)

/-- HOST_BAR2_READ (R351). -/
def execHostBar2Read (off : BitVec 30) (len : Nat) (s : State) : Host.Outcome State Fault Refusal :=
  .next (s.bar2Read off.toNat len)

/-- HANDOVER_TAKE_EFFECT (R354). -/
def execHandoverTakeEffect (s : State) : Host.Outcome State Fault Refusal :=
  .next (s.handoverEffect)

/-- DOORBELL_PRESENT (R357). -/
def execDoorbellPresent (s : State) : Host.Outcome State Fault Refusal :=
  .next (s.doorbellPresent)

/-- LOG_RING_RELEASE (R358). -/
def execLogRingRelease (r : Fin 8) (s : State) : Host.Outcome State Fault Refusal :=
  .next (s.ringGo r.val)

/-- FUNCTION_LEVEL_RESET (R347). -/
def execFunctionLevelReset (s : State) : Host.Outcome State Fault Refusal :=
  .next (s.flr)

/-- DL_DOWN (R425). -/
def execDlDown (s : State) : Host.Outcome State Fault Refusal :=
  .next (s.dlDown)

/-- DL_UP (R425). -/
def execDlUp (rate width : BitVec 4) (s : State) : Host.Outcome State Fault Refusal :=
  .next (s.dlUp rate.toNat width.toNat)

/-- PERST_N (R455). -/
def execPerstN (s : State) : Host.Outcome State Fault Refusal :=
  .next (s.perst)

/-- SEQUENCED_FLIT (R364). -/
def execSequencedFlit (a : Fin 4) (f : BitVec 256) (pois : BitVec 28) (s : State) : Host.Outcome State Fault Refusal :=
  .next (s.seqFlit a.val f pois)

/-- LCTL (R365). -/
def execLctl (a : Fin 4) (f : BitVec 256) (s : State) : Host.Outcome State Fault Refusal :=
  .next (s.lctl a.val f)

/-- REPLAY_TIMEOUT (R365). -/
def execReplayTimeout (a : Fin 4) (s : State) : Host.Outcome State Fault Refusal :=
  .next (s.replayTimeout a.val)

/-- TRAINING_COMPLETE (R373), or the training reaches an earlier state of R370. -/
def execTrainingComplete (a : Fin 4) (good : Byte) (peer : Training) (s : State) : Host.Outcome State Fault Refusal :=
  .next (match peer.reach with
    | none => s.trained a.val good peer.peer
    | some k => s.trainStep a.val (2 + k.val) good peer.inverted)

/-- LINK_DOWN (R372). -/
def execLinkDown (a : Fin 4) (good : Byte) (s : State) : Host.Outcome State Fault Refusal :=
  .next (s.trainFail a.val good.toNat)

/-- RWR (R375). -/
def execRwr (a : Fin 4) (s : State) : Host.Outcome State Fault Refusal :=
  .next (s.rwr a.val)

/-- WACK (R379). -/
def execWack (a : Fin 4) (s : State) : Host.Outcome State Fault Refusal :=
  .next (s.wack a.val)

/-- RDMA_PIECE (R378). -/
def execRdmaPiece (a c : Fin 4) (s : State) : Host.Outcome State Fault Refusal :=
  .next (s.rdPiece a.val c.val)

/-- TICK_MESSAGE (R380). -/
def execTickMessage (a : Fin 4) (s : State) : Host.Outcome State Fault Refusal :=
  .next (s.tickMessage a.val)

/-- TIME_PROBE (R381). -/
def execTimeProbe (a : Fin 4) (s : State) : Host.Outcome State Fault Refusal :=
  .next (s.timeProbe a.val)

/-- PROBE_ANSWER (R381). -/
def execProbeAnswer (a : Fin 4) (f : BitVec 256) (s : State) : Host.Outcome State Fault Refusal :=
  .next (s.probeAnswer a.val f)

/-- ANSWER (R381). -/
def execAnswer (a : Fin 4) (f : BitVec 256) (s : State) : Host.Outcome State Fault Refusal :=
  .next (s.answer a.val f)

/-- RESET_N (R448). -/
def execResetN (rise : Bool) (s : State) : Host.Outcome State Fault Refusal :=
  .next (s.resetPin rise)

/-- SECURE_BOOT (R388). -/
def execSecureBoot (s : State) : Host.Outcome State Fault Refusal :=
  .next (s.secureBoot)

/-- STAGE_PCIE (R391). -/
def execStagePcie (s : State) : Host.Outcome State Fault Refusal :=
  .next (s.stagePcie)

/-- STAGE_SRAM (R390). -/
def execStageSram (failed : BitVec 34) (service : Bool) (s : State) : Host.Outcome State Fault Refusal :=
  .next (s.stageSram failed service)

/-- STAGE_LOGIC (R390). -/
def execStageLogic (failed : BitVec 34) (routers : BitVec 32) (service : Bool) (s : State) : Host.Outcome State Fault Refusal :=
  .next (s.stageLogic failed routers service)

/-- STAGE_DRAM_TRAIN (R397). -/
def execStageDramTrain (trained : Byte) (dens : Fin 4) (s : State) : Host.Outcome State Fault Refusal :=
  .next (s.stageDramTrain trained dens.val)

/-- STAGE_VAULT (R394). -/
def execStageVault (rows : List BadRow) (checkOk : Bool) (s : State) : Host.Outcome State Fault Refusal :=
  .next (s.stageVault rows checkOk)

/-- STAGE_DRAM_TEST (R397). -/
def execStageDramTest (passed : Byte) (s : State) : Host.Outcome State Fault Refusal :=
  .next (s.stageDramTest passed)

/-- STAGE_MAP (R393). -/
def execStageMap (s : State) : Host.Outcome State Fault Refusal :=
  .next (s.stageMap)

/-- MAP_WRITE_DONE (R405). -/
def execMapWriteDone (ok : Bool) (s : State) : Host.Outcome State Fault Refusal :=
  .next (s.mapWriteDone ok)

/-- UNIT_FAULT (R418). -/
def execUnitFault (cause : Fin 8) (unit : Byte) (s : State) : Host.Outcome State Fault Refusal :=
  .next (s.unitFault cause.val unit.toNat)

/-- SPIRE_POWER_READY (R431). -/
def execSpirePowerReady (n : Spire) (s : State) : Host.Outcome State Fault Refusal :=
  .next (s.islandReady n.val)

/-- AVS_STEP (R429). -/
def execAvsStep (s : State) : Host.Outcome State Fault Refusal :=
  .next (s.avsStep)

/-- THERMAL_READING (R435). -/
def execThermalReading (temps : Vector Byte 12) (s : State) : Host.Outcome State Fault Refusal :=
  .next (s.thermal temps.toList)

/-- THROTTLE_LEVEL (R436). -/
def execThrottleLevel (s : State) : Host.Outcome State Fault Refusal :=
  .next (s.throttle)

/-- PLL_LOSS_OF_LOCK (R433). -/
def execPllLossOfLock (p : Pll) (s : State) : Host.Outcome State Fault Refusal :=
  .next (s.pllLoss p)

/-- DRAM_SCRUB (R401). -/
def execDramScrub (c : Fin 8) (s : State) : Host.Outcome State Fault Refusal :=
  .next (s.dramScrub c.val)

/-- REFRESH (R402). -/
def execRefresh (c : Fin 8) (s : State) : Host.Outcome State Fault Refusal :=
  .next (s.refresh c.val)

/-- MR4_READ (R402). -/
def execMr4Read (c : Fin 8) (a b : BitVec 5) (s : State) : Host.Outcome State Fault Refusal :=
  .next (s.mr4 c.val a.toNat b.toNat)

/-- DELAY_CORRECTION (R403). -/
def execDelayCorrection (c : Fin 8) (drift : Option (BitVec 16)) (s : State) : Host.Outcome State Fault Refusal :=
  .next (s.delayCorrection c.val drift)

/-- DRAM_REQUEST_SERVE (R460). -/
def execDramRequestServe (c : Fin 8) (i : Fin 64) (s : State) : Host.Outcome State Fault Refusal :=
  .next (s.dramRequestServe c.val i.val)

/-- PLL_LOCK (R432). -/
def execPllLock (p : Pll) (s : State) : Host.Outcome State Fault Refusal :=
  .next (s.pllLock p)

/-- RAIL_RANGE_CHANGE (R449). -/
def execRailRangeChange (r : Rail) (l : RailLevel) (s : State) : Host.Outcome State Fault Refusal :=
  .next (s.railChange r l)

/-- PERST_N_RISE (R455). -/
def execPerstNRise (s : State) : Host.Outcome State Fault Refusal :=
  .next (s.perstRise)

/-- CONFIGURATION_REQUEST (R347). -/
def execConfigurationRequest (r : CfgReq) (s : State) : Host.Outcome State Fault Refusal :=
  .next (s.cfgRequest r)

/-- HS_DESKEW (R316). -/
def execHsDeskew (p : Fin 16) (s : State) : Host.Outcome State Fault Refusal :=
  .next (s.deskew p.val)

/-- ULPS (R331). -/
def execUlps (p : Fin 16) (e : LinkEv) (s : State) : Host.Outcome State Fault Refusal :=
  .next (s.linkEvent p.val e)

end Sys2Proof.Machine
end

