-- ==== Sys2Proof/Machine/Vector.lean ====
section
/-! DEFINITION. Effects of the V0 and V1 operations (R137 to R157). -/

namespace Sys2Proof.Machine

/-! ### Elements -/

/-- Element e of w bits of a register value (R137). -/
def velem (x : BitVec 2048) (w e : Nat) : Nat := x.toNat / 2 ^ (w * e) % 2 ^ w

/-- The register value whose elements of w bits are f 0, f 1, …, cnt of them. -/
def vbuild (w cnt : Nat) (f : Nat → Nat) : BitVec 2048 :=
  BitVec.ofNat 2048 ((List.range cnt).foldl (fun a e => a + f e % 2 ^ w * 2 ^ (w * e)) 0)

/-- What an element operation records in VU_FLAGS (R144, R147): saturation, and invalid, overflow and underflow, none where the spec leaves it open. -/
structure VFlag where
  sat : Bool
  nv : Option Bool
  ov : Option Bool
  uf : Option Bool
  deriving DecidableEq, Repr

/-- Nothing to record. -/
def VFlag.none : VFlag := { sat := false, nv := some false, ov := some false, uf := some false }

/-- One of two records of an exception. -/
def orFlag (a b : Option Bool) : Option Bool :=
  match a, b with
  | some true, _ => some true
  | _, some true => some true
  | some false, some false => some false
  | _, _ => Option.none

/-- Both records. -/
def VFlag.or (a b : VFlag) : VFlag := { sat := a.sat || b.sat, nv := orFlag a.nv b.nv, ov := orFlag a.ov b.ov, uf := orFlag a.uf b.uf }

/-- VU_FLAGS of core n takes the exceptions of an operation as it issues (R148, log entry 96); an open one takes a free bit (log entry 3). -/
def State.vflag (s : State) (n : Nat) (f : VFlag) : State :=
  let fv := Config.freeValue s.free
  let t := if f.nv.isNone || f.ov.isNone || f.uf.isNone then { s with free := s.free + 1 } else s
  let b := fun (k : Nat) (x : Option Bool) => if x.getD (fv.getLsbD k) then 2 ^ k else 0
  let add := b 0 f.nv + b 1 f.ov + b 2 f.uf + (if f.sat then 8 else 0)
  if add = 0 then t else t.setReg (Reg.VU_FLAGS n) (t.reg (Reg.VU_FLAGS n) ||| w32 add)

/-- v limited to the signed or unsigned range of w bits, and whether it was outside. -/
def satS (w : Nat) (v : Int) : Nat × Bool :=
  let hi : Int := 2 ^ (w - 1) - 1
  let lo : Int := -2 ^ (w - 1)
  let x := max lo (min hi v)
  ((x % 2 ^ w).toNat, x != v)
def satU (w : Nat) (v : Int) : Nat × Bool :=
  let x := max 0 (min (2 ^ w - 1 : Int) v)
  (x.toNat, x != v)

/-- The integer operations of R144 on elements of w bits: a, b and the destination's d. -/
def vint (opc w a b d : Nat) : Nat × VFlag :=
  let sa := twos a w
  let sb := twos b w
  let m : Nat := 2 ^ w
  let plain := fun (x : Nat) => (x % m, VFlag.none)
  let sat := fun (x : Nat × Bool) => (x.1, { VFlag.none with sat := x.2 })
  let mask := fun (p : Bool) => (if p then m - 1 else 0, VFlag.none)
  match opc with
  | 0x00 => plain (a + b)
  | 0x01 => plain (a + m - b)
  | 0x02 => sat (satS w (sa + sb))
  | 0x03 => sat (satU w ((a + b : Nat) : Int))
  | 0x04 => sat (satS w (sa - sb))
  | 0x05 => sat (satU w ((a : Int) - b))
  | 0x06 => plain (a * b)
  | 0x07 => plain (((sa * sb / (m : Int)) % (m : Int)).toNat)
  | 0x08 => plain (a * b / m)
  | 0x09 => plain (if sa ≤ sb then a else b)
  | 0x0A => plain (Nat.min a b)
  | 0x0B => plain (if sa ≤ sb then b else a)
  | 0x0C => plain (Nat.max a b)
  | 0x0D => plain (a &&& b)
  | 0x0E => plain (a ||| b)
  | 0x0F => plain (a ^^^ b)
  | 0x10 => plain (a * 2 ^ (b % w))
  | 0x11 => plain (a / 2 ^ (b % w))
  | 0x12 => plain (((sa / (2 : Int) ^ (b % w)) % (m : Int)).toNat)
  | 0x13 => plain (Nat.max a b - Nat.min a b)
  | 0x14 => plain ((a + b + 1) / 2)
  | 0x18 => mask (a == b)
  | 0x19 => mask (decide (sa < sb))
  | 0x1A => mask (decide (a < b))
  | 0x1B => plain ((d &&& a) ||| ((m - 1 - d) &&& b))
  | 0x1C => plain (d + a * b)
  | _ => plain b

/-- A signaling NaN. -/
def isSNaN (x : Word) : Bool := (f32 x).isNan && !bitOf x 22

/-- A value rounded to binary32 with the exceptions of its rounding; nv is the invalid exception. -/
def roundV (v : FVal) (nv : Option Bool) : Nat × VFlag :=
  let (x, r) := toF32 v
  (x.toNat, { sat := false, nv := nv, ov := some r.ovf, uf := r.unf })

/-- An operation on operands that are not NaN gives NaN, or an operand is a signaling NaN (IEEE 754 invalid operation). -/
def invalidOf (ops : List Word) (v : FVal) : Bool := ops.any isSNaN || (v.isNan && !ops.any (fun x => (f32 x).isNan))

/-- VFMIN and VFMAX (R147): up picks the larger. -/
def vminmax (up : Bool) (a b : Word) : Nat × VFlag :=
  let x := f32 a
  let y := f32 b
  let r := if x.isNan && y.isNan then qnan else if x.isNan then b else if y.isNan then a
    else if x.above y == up then a else b
  (r.toNat, { VFlag.none with nv := some (isSNaN a || isSNaN b) })

/-- The binary32 operations of R147. -/
def vflt (opc a b d : Nat) : Nat × VFlag :=
  let wa := w32 a
  let wb := w32 b
  let wd := w32 d
  let x := f32 wa
  let y := f32 wb
  match opc with
  | 0x30 => let v := x.add y; roundV v (some (invalidOf [wa, wb] v))
  | 0x31 => let v := x.sub y; roundV v (some (invalidOf [wa, wb] v))
  | 0x32 => let v := x.mul y; roundV v (some (invalidOf [wa, wb] v))
  | 0x33 =>
    let p := x.mul y
    let v := p.add (f32 wd)
    let inv := p.isNan && !x.isNan && !y.isNan
    roundV v (if isSNaN wa || isSNaN wb || isSNaN wd then some true
      else if inv && (f32 wd).isNan then Option.none
      else some (invalidOf [wa, wb, wd] v))
  | 0x34 => vminmax false wa wb
  | 0x35 => vminmax true wa wb
  | 0x36 => roundV (.fin wa.msb wa.toInt.natAbs 0) (some false)
  | _ =>
    match x with
    | .nan => (0, { VFlag.none with nv := some true })
    | .inf s => (if s then 0x80000000 else 0x7FFFFFFF, { VFlag.none with sat := true, nv := Option.none })
    | .fin s m e =>
      let v := sInt s (roundAt m e 0)
      let (r, o) := satS 32 v
      (r, { VFlag.none with sat := o, nv := if o then Option.none else some false })

/-! ### Operand fields (R144) -/

/-- Operand b of element e, at width sew. -/
def Core.vopB (c : Core) (w : CpWord) (sew e : Nat) : Nat :=
  match w.ext with
  | some x => x.toNat % 2 ^ sew
  | none => velem (c.v (ofld w.opnd 1 5)) sew (if ofld w.opnd 0 1 = 1 then 0 else e)

/-- Vector register r takes x. -/
def Core.setV (c : Core) (r : Nat) (x : BitVec 2048) : Core := { c with vregs := Tab.set (fun _ => 0) c.vregs r x }

/-- The result of element e under element function g of a, b and d. -/
def Core.vres (c : Core) (w : CpWord) (sew : Nat) (g : Nat → Nat → Nat → Nat → Nat × VFlag) (e : Nat) : Nat × VFlag :=
  g sew (velem (c.v w.va) sew e) (c.vopB w sew e) (velem (c.v w.vd) sew e)

/-- Elements lo to hi - 1 of VD take their results (R138, R142). A write of slot V1 that falls in the same cycle comes after slot V0's. -/
def Core.vmap (c : Core) (w : CpWord) (sew lo hi : Nat) (g : Nat → Nat → Nat → Nat → Nat × VFlag) : Core :=
  let d := c.v w.vd
  let x := c.setV w.vd (vbuild sew (2048 / sew) (fun e => if lo ≤ e && e < hi then (c.vres w sew g e).1 else velem d sew e))
  if w.slot = 2 then c.v1now.foldl (fun d v => d.applyVW v) x else x

/-- An operation of R144 or R147 with element function g. -/
def State.vmap (s : State) (n : Nat) (w : CpWord) (g : Nat → Nat → Nat → Nat → Nat × VFlag) : State :=
  let c := s.core n
  let sew := sewBits (s.sew n)
  let lo := s.vstart n
  let hi := s.vl n
  (s.setCore n (c.vmap w sew lo hi g)).vflag n
    ((List.range (2048 / sew)).foldl (fun f e => if lo ≤ e && e < hi then f.or (c.vres w sew g e).2 else f) VFlag.none)

/-- An integer operation of R144 by its opcode. -/
def State.vintOp (s : State) (n : Nat) (w : CpWord) : State := s.vmap n w (fun sew a b d => vint w.opc sew a b d)

/-- A binary32 operation of R147 by its opcode. -/
def State.vfltOp (s : State) (n : Nat) (w : CpWord) : State := s.vmap n w (fun _ a b d => vflt w.opc a b d)

/-- VDOT4, VDOT4U and VDOT4SU (R145): signed a and b. -/
def vdot (sa sb : Bool) (a b d : Nat) : Nat :=
  let t := (List.range 4).foldl (fun (x : Int) k =>
    let p := a / 2 ^ (8 * k) % 256
    let q := b / 2 ^ (8 * k) % 256
    x + (if sa then twos p 8 else (p : Int)) * (if sb then twos q 8 else (q : Int))) 0
  ((d + t) % 2 ^ 32).toNat

/-- A dot product. -/
def State.vdotOp (s : State) (n : Nat) (w : CpWord) (sa sb : Bool) : State := s.vmap n w (fun _ a b d => (vdot sa sb a b d, VFlag.none))

/-! ### Widening and narrowing (R142, R145, R146) -/

/-- Writes of elements [lo, hi) of ew bits, whose values are f, to register r: the parts in each beat (R142). Element hi - 1 lies in the register. -/
def beatWrites (r ew lo hi : Nat) (f : Nat → Nat) (b : Nat) : List VW :=
  let per := 512 / ew
  let l := Nat.max lo (b * per)
  let h := Nat.min hi ((b + 1) * per)
  if l < h then
    [{ reg := r, lo := ew * l, len := ew * (h - l), val := (List.range (h - l)).foldl (fun a i => a + f (l + i) % 2 ^ ew * 2 ^ (ew * i)) 0, flat := false }]
  else []

/-- Writes of operation w that all fall in cycle i + 4 (R142): an operation that reads beat b sees it 3 - b bundles on. -/
def Core.lateBeats (c : Core) (w : CpWord) (g : Nat → List VW) : Core :=
  let d := (List.range 3).foldl (fun (d : Core) b =>
    if (g b).isEmpty then d else { d with vpend := d.vpend ++ [{ due := 3 - b, isLoad := false, v1 := w.slot == 3, writes := g b, pois := none }] }) c
  ((g 3) ++ (if w.slot = 2 then c.v1now else [])).foldl (fun e v => e.applyVW v) d

/-- The same on core n. -/
def State.lateBeats (s : State) (n : Nat) (w : CpWord) (g : Nat → List VW) : State := s.modCore n (fun c => c.lateBeats w g)

/-- A widening operation on elements lo to hi - 1 (R145): g takes a, b and the destination element. -/
def Core.vwiden (c : Core) (w : CpWord) (sew lo hi : Nat) (g : Nat → Nat → Nat → Nat → Nat) : Core :=
  let half := 2048 / (2 * sew)
  let val := fun (e : Nat) =>
    g sew (velem (c.v w.va) sew e) (c.vopB w sew e) (velem (c.v (w.vd + e / half)) (2 * sew) (e % half))
  c.lateBeats w (fun b =>
    beatWrites w.vd (2 * sew) lo (Nat.min hi half) val b
      ++ beatWrites (w.vd + 1) (2 * sew) (lo - half) (hi - half) (fun e => val (half + e)) b)

/-- The same on core n. -/
def State.vwiden (s : State) (n : Nat) (w : CpWord) (g : Nat → Nat → Nat → Nat → Nat) : State :=
  s.modCore n (fun c => c.vwiden w (sewBits (s.sew n)) (s.vstart n) (s.vl n) g)

/-- Widening products (R145): signed operands, and whether the destination is added. -/
def vwmul (signed acc : Bool) (sew a b d : Nat) : Nat :=
  let p : Int := if signed then twos a sew * twos b sew else (a : Int) * b
  (((if acc then (d : Int) else 0) + p) % 2 ^ (2 * sew)).toNat

/-- The narrowed element e of VNSHR and whether it saturates (R146): the source pair is signed when the result is. -/
def Core.nshr (c : Core) (w : CpWord) (sew e : Nat) : Nat × Bool :=
  let half := 2048 / (2 * sew)
  let sh := ofld w.opnd 1 5 % (2 * sew)
  let x := velem (c.v (w.va + e / half)) (2 * sew) (e % half)
  if ofld w.opnd 0 1 == 1 then satU sew (rneInt x sh) else satS sew (rneInt (twos x (2 * sew)) sh)

/-- VNSHR on elements lo to hi - 1. -/
def Core.vnshr (c : Core) (w : CpWord) (sew lo hi : Nat) : Core :=
  c.lateBeats w (fun b => beatWrites w.vd sew lo hi (fun e => (c.nshr w sew e).1) b)

/-- VNSHR on core n. -/
def State.vnshr (s : State) (n : Nat) (w : CpWord) : State :=
  let c := s.core n
  let sew := sewBits (s.sew n)
  let lo := s.vstart n
  let hi := s.vl n
  (s.modCore n (fun c => c.vnshr w sew lo hi)).vflag n { VFlag.none with sat := (List.range hi).any (fun e => lo ≤ e && (c.nshr w sew e).2) }

/-! ### Moves, control and reductions (R139, R148, R149) -/

/-- A write of Fd: bits [63:0] take v and the rest is 0, in one cycle (R137). -/
def fdWrite (r v : Nat) : VW := { reg := r, lo := 0, len := 2048, val := v, flat := true }

/-- The registers after the element operation w, as it takes effect in c (R142). -/
def Core.again (c : Core) (w : CpWord) (sew lo hi : Nat) : Core :=
  match w.opc with
  | 0x20 => c.vwiden w sew lo hi (vwmul true false)
  | 0x21 => c.vwiden w sew lo hi (vwmul false false)
  | 0x22 => c.vwiden w sew lo hi (vwmul true true)
  | 0x23 => c.vwiden w sew lo hi (vwmul false true)
  | 0x24 => c.vmap w sew lo hi (fun _ a b d => (vdot true true a b d, VFlag.none))
  | 0x25 => c.vmap w sew lo hi (fun _ a b d => (vdot false false a b d, VFlag.none))
  | 0x26 => c.vmap w sew lo hi (fun _ a b d => (vdot true false a b d, VFlag.none))
  | 0x28 => c.vnshr w sew lo hi
  | k => if 0x30 ≤ k && k < 0x38 then c.vmap w sew lo hi (fun _ a b d => vflt k a b d) else c.vmap w sew lo hi (fun m a b d => vint k m a b d)

/-- The events l of a slot reach the registers of c again, in the order of R142: returns of loads and of slot V0, writes of VMVFX, returns of V1, the
operation of V0, and that of V1. Of two writes of V0 in one cycle that of the later bundle remains (log entry 90). -/
def Core.slotAgain (c : Core) (l : List VEvt) : Core :=
  let due := c.vpend.filter (fun p => p.due == 0)
  let rets := fun (b : Bool) => l.flatMap (fun e => match e with
    | .ret _ v w => if v = b then [w] else []
    | _ => []) ++ (due.filter (fun p => p.v1 == b)).flatMap (fun p => p.writes)
  let last := l.flatMap (fun e => match e with
    | .fd w => [w]
    | _ => []) ++ rets true
  let ops := fun (k : Nat) (d : Core) => l.foldl (fun (d : Core) e => match e with
    | .op w sew lo hi => if w.slot = k then d.again w sew lo hi else d
    | _ => d) d
  let write := fun (ws : List VW) (d : Core) => ws.foldl (fun (d : Core) w => d.applyVW w) d
  let d := { c with vpend := c.vpend.filter (fun p => p.due != 0), v1now := rets true,
                    vlog := c.vlog ++ due.flatMap (fun p => p.writes.map (fun w => (0, .ret true p.v1 w))) }
  ops 3 (write last (ops 2 (write (rets false ++ last) d)))

/-- The writes of VMVFX to register r (R137, R142) in the slots before: it writes every beat in the cycle after its issue, in which the operation k
bundles before it reads and writes beat k. -/
def fdLog (r v : Nat) : List (Nat × VEvt) :=
  (List.range 4).map (fun b => (b, .fd { reg := r, lo := 512 * b, len := 512, val := if b = 0 then v else 0, flat := false }))

/-- VMVFX writes v to register r (R137, R142). The operations of the last three slots, whose later beats come after it, take effect again from the
registers as they were before those slots; a late write whose operation does so comes from it. With none just before, all beats of r change at once. -/
def Core.fdNow (c : Core) (r v : Nat) : Core :=
  if c.vlog.isEmpty then c.applyVW (fdWrite r v)
  else
    let log := c.vlog.filter (fun e => match e.2 with
      | .ret true _ w => w.lo / 512 < e.1
      | _ => true) ++ fdLog r v
    let ev := fun (a : Nat) => (log.filter (fun e => e.1 == a)).map (fun e => e.2)
    let d := (((({ c with vregs := c.v4, vpend := [], vlog := [] }.slotAgain (ev 3)).vEnd.slotAgain (ev 2)).vEnd.slotAgain (ev 1)).vEnd).slotAgain (ev 0)
    { c with vregs := d.vregs, v1 := d.v1, v2 := d.v2, v3 := d.v3, v1now := d.v1now, vlog := log ++ d.vlog
             vpend := c.vpend.filter (fun p => p.isLoad || p.writes.all (fun w => w.flat)) ++ d.vpend }

/-- VMVFX (R148). -/
def State.vmvfx (s : State) (n : Nat) (w : CpWord) : State := s.modCore n (fun c => c.fdNow w.vd (c.agv.get (ofld w.opnd 8 3)).toNat)

/-- VMVXF (R143, R148). -/
def State.vmvxf (s : State) (n : Nat) (w : CpWord) : State :=
  s.putReg n (ofld w.opnd 8 3) (((s.core n).v w.vd).setWidth 32)

/-- SETVL (R139): the scalar result is written with the last cycle of its count. -/
def State.setvl (s : State) (n : Nat) (w : CpWord) : State :=
  let req := match w.ext with
    | some x => x.toNat
    | none => ((s.core n).agv.get (ofld w.opnd 10 3)).toNat
  let k := ofld w.opnd 8 2
  let vl := Nat.min req (vlMax k)
  let t := ((s.setReg (Reg.VU_VTYPE n) (w32 k)).setReg (Reg.VU_VL n) (w32 vl)).setReg (Reg.VU_VSTART n) 0
  t.modCore n (fun c => { c with lop := some (0x48, ofld w.opnd 13 3, vl) })

/-- The register of VCTL code k (R148). -/
def vctlReg (n k : Nat) : Nat :=
  match k with
  | 0 => Reg.VU_VL n
  | 1 => Reg.VU_VTYPE n
  | 2 => Reg.VU_VSTART n
  | _ => Reg.VU_FLAGS n

/-- VRDC (R148). -/
def State.vrdc (s : State) (n : Nat) (w : CpWord) : State := s.putReg n (ofld w.opnd 13 3) (s.reg (vctlReg n (ofld w.opnd 10 3)))

/-- VWRC (R148). -/
def State.vwrc (s : State) (n : Nat) (w : CpWord) : State :=
  let v := (s.core n).agv.get (ofld w.opnd 13 3)
  match ofld w.opnd 10 3 with
  | 0 => s.setReg (Reg.VU_VL n) (w32 (Nat.min v.toNat (vlMax (s.sew n))))
  | 1 => s.setSew n (bitsOf v 0 2)
  | 2 => s.setReg (Reg.VU_VSTART n) (v &&& 0xFF)
  | _ => s.setReg (Reg.VU_FLAGS n) (v &&& 0xF)

/-- A reduction whose result is r (R149): long, 8 cycles, Fd written in the last. -/
def State.redWrite (s : State) (n : Nat) (w : CpWord) (r : Nat) : State :=
  s.modCore n (fun c => { c with vpend := c.vpend ++ [{ due := 7, isLoad := false, v1 := false, writes := [fdWrite w.vd (r % 2 ^ 32)], pois := none }] })

/-- Elements VSTART to VL - 1 of VA. -/
def State.redElems (s : State) (n : Nat) (w : CpWord) : List Nat :=
  ((List.range (s.vl n)).drop (s.vstart n)).map (fun e => velem ((s.core n).v w.va) (sewBits (s.sew n)) e)

/-- The largest or smallest of l under f; 0 for none. -/
def pick (up : Bool) : List Int → Int
  | [] => 0
  | x :: t => t.foldl (fun a y => if up then max a y else min a y) x

/-- The integer reductions by opcode (R149). -/
def State.vredOp (s : State) (n : Nat) (w : CpWord) : State :=
  let sew := sewBits (s.sew n)
  let l := s.redElems n w
  let sx := l.map (fun x => twos x sew)
  let ux := l.map (fun x => (x : Int))
  let r : Int := match w.opc with
    | 0x50 => sx.foldl (· + ·) 0
    | 0x51 => ux.foldl (· + ·) 0
    | 0x52 => pick true sx
    | 0x53 => pick true ux
    | 0x54 => pick false sx
    | _ => pick false ux
  s.redWrite n w (r % 2 ^ 32).toNat

/-- One level of the fixed tree: lanes 2k and 2k + 1 are added (R149). -/
def pairAdd : List Nat → VFlag → List Nat × VFlag
  | a :: b :: t, f =>
    let (x, g) := vflt 0x30 a b 0
    let (l, h) := pairAdd t (f.or g)
    (x :: l, h)
  | l, f => (l, f)

/-- VFREDSUM (R149). -/
def State.vfredsum (s : State) (n : Nat) (w : CpWord) : State :=
  let lo := s.vstart n
  let hi := s.vl n
  let lanes := (List.range 64).map (fun e => if lo ≤ e && e < hi then velem ((s.core n).v w.va) 32 e else 0)
  let (l, f) := (List.range 6).foldl (fun (x : List Nat × VFlag) _ => pairAdd x.1 x.2) (lanes, VFlag.none)
  if lo < hi then (s.redWrite n w (l.headD 0)).vflag n f else s.redWrite n w 0

/-- VFREDMAX (R149). -/
def State.vfredmax (s : State) (n : Nat) (w : CpWord) : State :=
  match s.redElems n w with
  | [] => s.redWrite n w 0
  | l =>
    let (r, f) := l.foldl (fun (x : Nat × VFlag) e =>
      let (y, g) := vminmax true (w32 x.1) (w32 e)
      (y, x.2.or g)) (qnan.toNat, VFlag.none)
    (s.redWrite n w r).vflag n f

/-! ### Vector memory (R150 to R156) -/

/-- A register as a store or an index read finds it in the request cycle: beat b as the bundles b slots before left it (R151, R154). -/
def Core.vview (c : Core) (r : Nat) : BitVec 2048 :=
  let g := fun (l : List (Nat × BitVec 2048)) b => (Tab.get (fun _ => 0) l r).toNat / 2 ^ (512 * b) % 2 ^ 512
  BitVec.ofNat 2048 (g c.vregs 0 + g c.v1 1 * 2 ^ 512 + g c.v2 2 * 2 ^ 1024 + g c.v3 3 * 2 ^ 1536)

/-- The vector cycles pass that an indexed operation has lost before its first request (R151). The cycles of its bundle in the scalar registers have passed. -/
def Core.vLag (c : Core) : Core :=
  let d := (List.range c.lag).foldl (fun (d : Core) _ => d.vEnd.vReturns) c
  { d with extra := c.extra - c.lag, held := c.held - c.lag }

/-- The memory address of local address a in an access that has passed its checks. -/
def State.wideAddr (s : State) (n a perm : Nat) : Nat :=
  match s.localPart n a 1 perm with
  | .mem p => p
  | _ => 0

/-- The reads of the blocks of a load (R151): for each part the memory address of its first byte and whether the block came poisoned. -/
def State.wideReads (s : State) (n : Nat) : List (Nat × Nat) → List (Nat × Nat × Bool) × State
  | [] => ([], s)
  | (a, _) :: t =>
    let p := s.wideAddr n a 0
    let (_, bad, u) := s.readMem (p / 256 * 256) 256 1
    let (l, v) := u.wideReads n t
    ((a, p, !bad.isEmpty) :: l, v)

/-- The bytes of element e, field f of a unit-stride or structure operation: first local address (R152, R153). -/
def State.fieldAddr (s : State) (n : Nat) (w : CpWord) (e f : Nat) : Nat :=
  (((s.core n).vbase w).toNat + (e * vGroup w.opc + f) * s.vesz n) % 2 ^ 32

/-- The block of a list of parts that holds local address a. -/
def partOf (l : List (Nat × Nat × Bool)) (a : Nat) : Option (Nat × Nat × Bool) := l.find? (fun p => p.1 / 256 == a / 256)

/-- Memory address of local byte a among parts already checked. -/
def partAddr (l : List (Nat × Nat × Bool)) (a : Nat) : Nat :=
  match partOf l a with
  | some (_, p, _) => p / 256 * 256 + a % 256
  | none => 0

/-- A byte at local address a came poisoned. -/
def partPois (l : List (Nat × Nat × Bool)) (a : Nat) : Bool :=
  match partOf l a with
  | some (_, _, b) => b
  | none => false

/-- A unit-stride or structure load (R151 to R153, R156): its registers are written when its last request has returned. -/
def State.vload (s : State) (n : Nat) (w : CpWord) : State :=
  let r := s.vrange n w
  let q := (wideParts r.1 r.2).length
  if q = 0 then s
  else
    let nf := vGroup w.opc
    let sz := s.vesz n
    let pc := (s.core n).pc
    let lo := s.vstart n
    let cnt := s.vl n - lo
    let (ps, t) := s.wideReads n (wideParts r.1 r.2)
    let bytesAt := fun (e f : Nat) => (List.range sz).map (fun k => (s.fieldAddr n w e f + k) % 2 ^ 32)
    let val := fun (e f : Nat) => leNum ((bytesAt e f).map (fun a => s.byte (partAddr ps a)))
    let bad := fun (e f : Nat) => (bytesAt e f).any (partPois ps)
    let first := ((List.range cnt).map (lo + ·)).find? (fun e => (List.range nf).any (bad e))
    let sew := sewBits (s.sew n)
    let writes := (List.range nf).flatMap (fun f =>
      if first.isNone then
        [{ reg := w.vd + f, lo := sew * lo, len := sew * cnt,
           val := (List.range cnt).foldl (fun a i => a + val (lo + i) f * 2 ^ (sew * i)) 0, flat := false : VW }]
      else (((List.range cnt).map (lo + ·)).filter (fun e => !bad e f)).map (fun e =>
        { reg := w.vd + f, lo := sew * e, len := sew, val := val e f, flat := false : VW }))
    let pois := match first, ps.find? (fun p => p.2.2) with
      | some e, some (a, _, _) => some (e, w32 (a / 256 * 256), pc)
      | _, _ => none
    t.modCore n (fun c => { c with vpend := c.vpend ++ [{ due := q + 5 + c.lag, isLoad := true, v1 := false, writes := writes, pois := pois }] })

/-- A narrow read of X-RAM or Y-RAM in the bundle in issue is made again, after the vector store that took its port (R155). -/
def State.reread (s : State) (n : Nat) : State :=
  s.modCore n (fun c => { c with loads := c.loads.map (fun l =>
    let len := match l.op with
      | .load _ size _ => 2 ^ size
      | .alu _ _ => 4
    if l.fresh && (l.addr.toNat / 0x20000 = 0x80 || l.addr.toNat / 0x20000 = 0x81) then { l with data := (s.narrowRead n l.addr.toNat len).1 } else l) })

/-- A unit-stride or structure store (R151 to R153): each request takes its data in its own cycle. X-RAM and Y-RAM take the bytes when the bundle ends, since a
MAC operand read of the same cycle comes first (R159). -/
def State.vstore (s : State) (n : Nat) (w : CpWord) : State :=
  let r := s.vrange n w
  let parts := wideParts r.1 r.2
  if parts.isEmpty then s
  else
    let c := s.core n
    let nf := vGroup w.opc
    let sz := s.vesz n
    let sew := sewBits (s.sew n)
    let base := (c.vbase w).toNat
    let cells := parts.zipIdx.flatMap (fun x =>
      let d := c.ticks (c.lag + x.2)
      let m := s.wideAddr n x.1.1 1
      (List.range x.1.2).map (fun i =>
        let o := (x.1.1 + i + 2 ^ 32 - base) % 2 ^ 32
        let e := o / (nf * sz)
        let f := o % (nf * sz) / sz
        (m + i, BitVec.ofNat 8 (velem (d.vview (w.vd + f)) sew e / 2 ^ (8 * (o % sz))))))
    if cells.all inVault then s.writeMem cells [] 1
    else (s.modCore n (fun c => { c with sbuf := .bytes cells :: c.sbuf })).reread n

/-- The check of element e of an indexed operation: 0 none, 1 BOUND, 2 VAULT_OFF (R154, R155, R156). -/
def State.idxFault (s : State) (n : Nat) (a perm : Nat) : Nat := s.widePart n a (s.vesz n) perm false

/-- A fault on element e of an indexed operation (R156). -/
def State.idxStop (s : State) (n f e a : Nat) (pc : Word) : State :=
  ((((s.setReg (Reg.VU_VSTART n) (w32 e)).setReg (Reg.CP_PC n) pc).modCore n (fun c => { c with lateC := none })).vuFault n f e pc (w32 a)).cpFault n 4 pc pc
    (some (w32 a)) none

/-- An indexed load, k elements from e on, each seen from its return cycle (R154, R156, log entry 96); base is the value of the base register when the operation issued, first the first
poisoned element with its block, whose fault is taken behind that of a later element which stops it (R101). -/
def State.gather (s : State) (n : Nat) (w : CpWord) (base : Word) : Nat → Nat → Option (Nat × Word) → State
  | 0, _, first =>
    match first with
    | none => s
    | some (e, a) => s.modCore n (fun c => { c with vpend := c.vpend ++ [{ due := 6, isLoad := true, v1 := false, writes := [], pois := some (e, a, c.pc) }] })
  | k + 1, e, first =>
    let c := s.core n
    let pc := c.pc
    let sz := s.vesz n
    let sew := 8 * sz
    let x := (c.vview (ofld w.opnd 5 5 + e / 64)).extractLsb' (32 * (e % 64)) 32
    let a := (base + x).toNat / sz * sz
    match s.idxFault n a 0 with
    | 0 =>
      let p := s.wideAddr n a 0
      let (_, bad, t) := s.readMem (p / 256 * 256) 256 1
      let first' := if bad.isEmpty then first else some (first.getD (e, w32 (a / 256 * 256)))
      let b := sew * e / 512
      let t := if bad.isEmpty then t.modCore n (fun c => { c with vpend := c.vpend ++
        [{ due := 6 - b, isLoad := true, v1 := false, writes := [{ reg := w.vd, lo := sew * e, len := sew, val := s.numLE p sz, flat := false }], pois := none }] }) else t
      (if k = 0 then t else t.modCore n Core.tick).gather n w base k (e + 1) first'
    | f =>
      let t := s.idxStop n f e a pc
      match first with
      | some (e, b) => t.modCore n (fun c => c.lateFault { src := 4, pc := pc, addr := b, elem := e, slots := 0 })
      | none => t

/-- An indexed store, k elements from e on (R154, R156). -/
def State.scatter (s : State) (n : Nat) (w : CpWord) (base : Word) : Nat → Nat → State
  | 0, _ => s
  | k + 1, e =>
    let c := s.core n
    let pc := c.pc
    let sz := s.vesz n
    let x := (c.vview (ofld w.opnd 5 5 + e / 64)).extractLsb' (32 * (e % 64)) 32
    let a := (base + x).toNat / sz * sz
    match s.idxFault n a 1 with
    | 0 =>
      let p := s.wideAddr n a 1
      let t := s.writeMem (cellsAt p (leBytes (velem (c.vview w.vd) (8 * sz) e) sz)) [] 1
      (if k = 0 then t else t.modCore n Core.tick).scatter n w base k (e + 1)
    | f => s.idxStop n f e a pc

/-- VLDX (R154). -/
def State.vldx (s : State) (n : Nat) (w : CpWord) : State :=
  (s.modCore n Core.vLag).gather n w ((s.core n).vbase w) (s.vl n - s.vstart n) (s.vstart n) none

/-- VSTX (R154). -/
def State.vstx (s : State) (n : Nat) (w : CpWord) : State :=
  (s.modCore n Core.vLag).scatter n w ((s.core n).vbase w) (s.vl n - s.vstart n) (s.vstart n)

end Sys2Proof.Machine
end

