-- ==== Sys2Proof/Machine/Mac.lean ====
section
/-! DEFINITION. Effects of the X-slot operations: the MAC datapath and block repeats (R158 to R165). -/

namespace Sys2Proof.Machine

/-- A pointer register: bits [16:1] (R158). -/
def State.macPtr (s : State) (a : Nat) : Nat := s.fld a 1 16 * 2

/-- A selected address p plus t under select code sel (R158); t may be negative. -/
def State.macAddr (s : State) (n sel : Nat) (p : Nat) (t : Int) : Nat :=
  let a := ((p : Int) + t) % 0x20000
  if sel < 4 then a.toNat
  else
    let base : Int := s.macPtr (Reg.MAC_CB_BASE n (sel - 4))
    let len : Int := s.macPtr (Reg.MAC_CB_LEN n (sel - 4))
    let b := if base + len ≤ a then a - len else a
    let b := if b < base then b + len else b
    (b % 0x20000).toNat

/-- Selects of pointer k of X and Y (MAC_PCFG). -/
def State.xsel (s : State) (n k : Nat) : Nat := s.fld (Reg.MAC_PCFG n) (3 * k) 3
def State.ysel (s : State) (n k : Nat) : Nat := s.fld (Reg.MAC_PCFG n) (12 + 3 * k) 3

/-- The 16-bit operand at offset a of X-RAM, or of Y-RAM when y is true (R159). -/
def State.macRead (s : State) (n : Nat) (y : Bool) (a : Nat) : Nat := s.numLE (xramAddr n + (if y then 0x20000 else 0) + a) 2

/-- A step by code k, with the increment of MAC_INC from bit lo (R160). -/
def State.macStep (s : State) (n k lo : Nat) : Int :=
  match k with
  | 0 => 0
  | 1 => 2
  | 2 => 8
  | _ => twos (s.fld (Reg.MAC_INC n) lo 16) 16

/-- MACCj as a number of 40 bits. -/
def State.macc (s : State) (n j : Nat) : Nat := (s.reg (Reg.MAC_ACC_LO n j)).toNat + s.fld (Reg.MAC_ACC_HI n j) 0 8 <<< 32

/-- MACCj takes the low 40 bits of v. -/
def State.setMacc (s : State) (n j : Nat) (v : Int) : State :=
  let x := (v % 2 ^ 40).toNat
  (s.setReg (Reg.MAC_ACC_LO n j) (w32 x)).setReg (Reg.MAC_ACC_HI n j) (w32 (x / 2 ^ 32))

/-- A product of an X and a Y operand under SGN (R160). -/
def macProd (sgn x y : Nat) : Int :=
  let sx := if sgn = 0 || sgn = 2 then twos x 16 else (x : Int)
  let sy := if sgn = 0 || sgn = 3 then twos y 16 else (y : Int)
  sx * sy

/-- MACCj takes product p under ACCOP (R160); a result outside the signed 40-bit range sets OVF as its bundle issues (log entry 96). -/
def State.macAcc (s : State) (n j op : Nat) (p : Int) : State :=
  let a := twos (s.macc n j) 40
  let r := if op = 0 then a + p else if op = 1 then a - p else p
  let t := s.setMacc n j r
  if r < -2 ^ 39 || 2 ^ 39 ≤ r then t.setBit (Reg.MAC_STAT n) 0 true else t

/-- MACB, MACBY and MACP (R160): fx and fy say which pointer's offset runs with j. -/
def State.macOp (s : State) (n : Nat) (w : CpWord) (fx fy : Bool) : State :=
  let o := w.opnd
  let xa := ofld o 14 2
  let ya := ofld o 12 2
  let xp := s.macPtr (Reg.MAC_XP n xa)
  let yp := s.macPtr (Reg.MAC_YP n ya)
  let t := (List.range 4).foldl (fun (t : State) (j : Nat) =>
    let x := s.macRead n false (s.macAddr n (s.xsel n xa) xp (if fx then 2 * (j : Int) else 0))
    let y := s.macRead n true (s.macAddr n (s.ysel n ya) yp (if fy then 2 * (j : Int) else 0))
    t.macAcc n j (ofld o 4 2) (macProd (ofld o 6 2) x y)) s
  (t.setReg (Reg.MAC_XP n xa) (w32 (s.macAddr n (s.xsel n xa) xp (s.macStep n (ofld o 10 2) 0)))).setReg (Reg.MAC_YP n ya)
    (w32 (s.macAddr n (s.ysel n ya) yp (s.macStep n (ofld o 8 2) 16)))

/-- MCLR (R161). -/
def State.mclr (s : State) (n : Nat) (w : CpWord) : State :=
  (List.range 4).foldl (fun (t : State) j => if w.opnd.testBit j then t.setMacc n j 0 else t) s

/-- MRND (R161, R162). -/
def State.mrnd (s : State) (n : Nat) (w : CpWord) : State :=
  let r := rneInt (twos (s.macc n (ofld w.opnd 11 2)) 40) (ofld w.opnd 6 5)
  let (v, o) := satS (if ofld w.opnd 5 1 = 1 then 32 else 16) r
  let t := s.putReg n (ofld w.opnd 13 3) (if ofld w.opnd 5 1 = 1 then w32 v else sext 16 v)
  if o then t.setBit (Reg.MAC_STAT n) 1 true else t

/-- MRDL and MRDH (R161). -/
def State.mrdl (s : State) (n : Nat) (w : CpWord) : State := s.putReg n (ofld w.opnd 13 3) (w32 (s.macc n (ofld w.opnd 11 2)))
def State.mrdh (s : State) (n : Nat) (w : CpWord) : State :=
  s.putReg n (ofld w.opnd 13 3) (sext 8 (s.macc n (ofld w.opnd 11 2) / 2 ^ 32))

/-- MWR (R161): the scalar source is read in AG. -/
def State.mwr (s : State) (n : Nat) (w : CpWord) : State :=
  let v := (s.core n).agv.get (ofld w.opnd 13 3)
  match w.ext with
  | some x => s.setMacc n (ofld w.opnd 11 2) ((v.toNat : Int) + x.toNat % 2 ^ 8 * 2 ^ 32)
  | none => s.setMacc n (ofld w.opnd 11 2) v.toInt

/-- The register of MCTL code k (R161). -/
def mctlReg (n k : Nat) : Nat :=
  if k < 4 then Reg.MAC_XP n k
  else if k < 8 then Reg.MAC_YP n (k - 4)
  else if k < 12 then Reg.MAC_CB_BASE n (k - 8)
  else if k < 16 then Reg.MAC_CB_LEN n (k - 12)
  else if k = 16 then Reg.MAC_PCFG n
  else if k = 17 then Reg.MAC_INC n
  else if k = 18 then Reg.MAC_STAT n
  else if k < 22 then Reg.MAC_LC n (k - 19)
  else Reg.MAC_RCTL n

/-- MTM (R161): the fields of the register that are writable take the source's bits. -/
def State.mtm (s : State) (n : Nat) (w : CpWord) : State :=
  let a := mctlReg n (ofld w.opnd 8 5)
  s.setReg a (maskMix (rwBits a) ((s.core n).agv.get (ofld w.opnd 13 3)) (s.reg a))

/-- MFM (R161). -/
def State.mfm (s : State) (n : Nat) (w : CpWord) : State := s.putReg n (ofld w.opnd 13 3) (s.reg (mctlReg n (ofld w.opnd 8 5)))

/-- MREP (R163): a count of 0 skips the body. -/
def State.mrep (s : State) (n : Nat) (w : CpWord) : State :=
  let c := s.core n
  let l := ofld w.opnd 14 2
  let x := w.ext.getD 0
  let e := c.pc + w32 (4 * bitsOf x 0 16)
  let t := (((s.setReg (Reg.MAC_RBEG n l) (c.nextPc (c.part ++ c.todo))).setReg (Reg.MAC_REND n l) e).setReg (Reg.MAC_LC n l)
    (w32 (bitsOf x 16 16))).setBit (Reg.MAC_RCTL n) l true
  if bitsOf x 16 16 = 0 then t.branch n (t.codeNext n e) false else t

end Sys2Proof.Machine
end

