-- ==== Sys2Proof/Machine/ExecMac.lean ====
section
/-! DEFINITION. The operations of the X slot: one meaning per command. -/

namespace Sys2Proof.Machine

/-- MACB (R160). -/
def execMacb (o : CpOp) (s : State) : Host.Outcome State Fault Refusal :=
  .next (s.cpOp o 4 (0x00) (fun t n w => t.macOp n w false true))

/-- MACBY (R160). -/
def execMacby (o : CpOp) (s : State) : Host.Outcome State Fault Refusal :=
  .next (s.cpOp o 4 (0x01) (fun t n w => t.macOp n w true false))

/-- MACP (R160). -/
def execMacp (o : CpOp) (s : State) : Host.Outcome State Fault Refusal :=
  .next (s.cpOp o 4 (0x02) (fun t n w => t.macOp n w true true))

/-- MCLR (R161). -/
def execMclr (o : CpOp) (s : State) : Host.Outcome State Fault Refusal :=
  .next (s.cpOp o 4 (0x03) State.mclr)

/-- MRND (R161). -/
def execMrnd (o : CpOp) (s : State) : Host.Outcome State Fault Refusal :=
  .next (s.cpOp o 4 (0x08) State.mrnd)

/-- MRDL (R161). -/
def execMrdl (o : CpOp) (s : State) : Host.Outcome State Fault Refusal :=
  .next (s.cpOp o 4 (0x09) State.mrdl)

/-- MRDH (R161). -/
def execMrdh (o : CpOp) (s : State) : Host.Outcome State Fault Refusal :=
  .next (s.cpOp o 4 (0x0A) State.mrdh)

/-- MWR (R161). -/
def execMwr (o : CpOp) (s : State) : Host.Outcome State Fault Refusal :=
  .next (s.cpOp o 4 (0x0B) State.mwr)

/-- MTM (R161). -/
def execMtm (o : CpOp) (s : State) : Host.Outcome State Fault Refusal :=
  .next (s.cpOp o 4 (0x10) State.mtm)

/-- MFM (R161). -/
def execMfm (o : CpOp) (s : State) : Host.Outcome State Fault Refusal :=
  .next (s.cpOp o 4 (0x11) State.mfm)

/-- MREP (R163). -/
def execMrep (o : CpOp) (s : State) : Host.Outcome State Fault Refusal :=
  .next (s.cpOp o 4 (0x18) State.mrep)

end Sys2Proof.Machine
end

