-- ==== Sys2Proof/Machine/ExecRegs.lean ====
section
/-! DEFINITION. The commands that write or read a register of their own or any register: one meaning per command. -/

namespace Sys2Proof.Machine

/-- REG_WRITE (R7). -/
def execRegWrite (req : Node) (a : BitVec 26) (width : Nat) (v : Word) (s : State) : Host.Outcome State Fault Refusal :=
  .next (s.regWrite req.val a.toNat width v)

/-- RC_READ (R6). -/
def execRcRead (req : Node) (a : Access) (s : State) : Host.Outcome State Fault Refusal :=
  .next (s.regRead req.val a.addr.toNat a.width)

/-- WIDE_READ_LOW (R8). -/
def execWideReadLow (req : Node) (a : Access) (s : State) : Host.Outcome State Fault Refusal :=
  .next (s.regRead req.val a.addr.toNat a.width)

/-- SET_ALIAS_WRITE (R9). -/
def execSetAliasWrite (req : Node) (a : BitVec 26) (v : Word) (s : State) : Host.Outcome State Fault Refusal :=
  .next (s.regWrite req.val (a.toNat / 0x1000 * 0x1000 + 0x800 + a.toNat % 0x400) 4 v)

/-- CLEAR_ALIAS_WRITE (R9). -/
def execClearAliasWrite (req : Node) (a : BitVec 26) (v : Word) (s : State) : Host.Outcome State Fault Refusal :=
  .next (s.regWrite req.val (a.toNat / 0x1000 * 0x1000 + 0xC00 + a.toNat % 0x400) 4 v)

/-- INT_RAW_CLEAR (R13). -/
def execIntRawClear (req : Node) (page : BitVec 14) (v : Word) (s : State) : Host.Outcome State Fault Refusal :=
  .next (s.regWrite req.val (hdr page.toNat 0x10) 4 v)

/-- INT_FORCE (R12). -/
def execIntForce (req : Node) (page : BitVec 14) (v : Word) (s : State) : Host.Outcome State Fault Refusal :=
  .next (s.regWrite req.val (hdr page.toNat 0x1C) 4 v)

/-- LOCK (R14). -/
def execLock (req : Node) (page : BitVec 14) (v : Word) (s : State) : Host.Outcome State Fault Refusal :=
  .next (s.regWrite req.val (hdr page.toNat 0x2C) 4 v)

/-- BLK_RST (R457). -/
def execBlkRst (req : Node) (page : BitVec 14) (v : Word) (s : State) : Host.Outcome State Fault Refusal :=
  .next (s.regWrite req.val (hdr page.toNat 8) 4 (putBit v 1 true))

/-- TIME_ADJ (R48). -/
def execTimeAdj (req : Node) (v : Word) (s : State) : Host.Outcome State Fault Refusal :=
  .next (s.regWrite req.val (Reg.TIME_ADJ) 4 v)

/-- TIME_SET (R51). -/
def execTimeSet (req : Node) (v : Word) (s : State) : Host.Outcome State Fault Refusal :=
  .next (s.regWrite req.val (Reg.TIME_SET_HI) 4 v)

/-- TICK_SET (R51). -/
def execTickSet (req : Node) (v : Word) (s : State) : Host.Outcome State Fault Refusal :=
  .next (s.regWrite req.val (Reg.TICK_SET_HI) 4 v)

/-- TIME_SRC_WRITE (R41). -/
def execTimeSrcWrite (req : Node) (encN : Bool) (v : Word) (s : State) : Host.Outcome State Fault Refusal :=
  .next (s.regWrite req.val (if encN then Reg.TIME_ENC_N else Reg.TIME_SRC) 4 v)

/-- TIMEBASE_ENABLE (R36). -/
def execTimebaseEnable (req : Node) (v : Word) (s : State) : Host.Outcome State Fault Refusal :=
  .next (s.regWrite req.val (hdr 0x010 8) 4 v)

/-- START (R71). -/
def execStart (req : Node) (v : Word) (s : State) : Host.Outcome State Fault Refusal :=
  .next (s.regWrite req.val (Reg.SEQ_CMD) 4 (putFld v 28 4 1))

/-- SWITCH (R70). -/
def execSwitch (req : Node) (v : Word) (s : State) : Host.Outcome State Fault Refusal :=
  .next (s.regWrite req.val (Reg.SEQ_CMD) 4 (putFld v 28 4 2))

/-- STOP (R72). -/
def execStop (req : Node) (v : Word) (s : State) : Host.Outcome State Fault Refusal :=
  .next (s.regWrite req.val (Reg.SEQ_CMD) 4 (putFld v 28 4 3))

/-- CANCEL (R69). -/
def execCancel (req : Node) (v : Word) (s : State) : Host.Outcome State Fault Refusal :=
  .next (s.regWrite req.val (Reg.SEQ_CMD) 4 (putFld v 28 4 4))

/-- BELFRY_ENABLE (R76). -/
def execBelfryEnable (req : Node) (v : Word) (s : State) : Host.Outcome State Fault Refusal :=
  .next (s.regWrite req.val (hdr 0x020 8) 4 v)

/-- DESC_VALID (R68). -/
def execDescValid (req : Node) (d : Fin 8) (v : Word) (s : State) : Host.Outcome State Fault Refusal :=
  .next (s.regWrite req.val (Reg.SEQ_DESC_CTL d.val) 4 v)

/-- TABLE_ENTRY_WRITE (R73). -/
def execTableEntryWrite (req : Node) (v : Word) (s : State) : Host.Outcome State Fault Refusal :=
  .next (s.regWrite req.val (Reg.SEQ_TBL_W3) 4 v)

/-- RAW_LOAD (R75). -/
def execRawLoad (req : Node) (v : Word) (s : State) : Host.Outcome State Fault Refusal :=
  .next (s.regWrite req.val (Reg.SEQ_LOAD_CTL) 4 (putBit (putBit v 31 true) 8 false))

/-- IMAGE_LOAD (R75). -/
def execImageLoad (req : Node) (v : Word) (s : State) : Host.Outcome State Fault Refusal :=
  .next (s.regWrite req.val (Reg.SEQ_LOAD_CTL) 4 (putBit (putBit v 31 true) 8 true))

/-- CP_NMI (R102). -/
def execCpNmi (req : Node) (n : Spire) (v : Word) (s : State) : Host.Outcome State Fault Refusal :=
  .next (s.regWrite req.val (Reg.CP_NMI n.val) 4 v)

/-- HALT_REQ (R104). -/
def execHaltReq (req : Node) (n : Spire) (v : Word) (s : State) : Host.Outcome State Fault Refusal :=
  .next (s.regWrite req.val (Reg.CP_CTL n.val) 4 v)

/-- CP_IRQ_SET (R96). -/
def execCpIrqSet (req : Node) (n : Spire) (v : Word) (s : State) : Host.Outcome State Fault Refusal :=
  .next (s.regWrite req.val (Reg.CP_IRQ_SET n.val) 4 v)

/-- TCMP_ARM (R459). -/
def execTcmpArm (req : Node) (n : Spire) (v : Word) (s : State) : Host.Outcome State Fault Refusal :=
  .next (s.regWrite req.val (Reg.CP_TCMP_HI n.val) 4 v)

/-- IC_INVALIDATE (R85). -/
def execIcInvalidate (req : Node) (n : Spire) (v : Word) (s : State) : Host.Outcome State Fault Refusal :=
  .next (s.regWrite req.val (Reg.CP_IC_CTL n.val) 4 (putBit v 0 true))

/-- WATCH_ARM (R310). -/
def execWatchArm (req : Node) (n : Spire) (w : Fin 4) (v : Word) (s : State) : Host.Outcome State Fault Refusal :=
  .next (s.regWrite req.val (Reg.EVT_WATCH_CFG n.val w.val) 4 (putBit v 31 true))

/-- COUNTER_SET (R315). -/
def execCounterSet (req : Node) (n : Spire) (v : Word) (s : State) : Host.Outcome State Fault Refusal :=
  .next (s.regWrite req.val (Reg.EVT_CTR_CMD n.val) 4 (putBit v 31 false))

/-- COUNTER_ADD (R315). -/
def execCounterAdd (req : Node) (n : Spire) (v : Word) (s : State) : Host.Outcome State Fault Refusal :=
  .next (s.regWrite req.val (Reg.EVT_CTR_CMD n.val) 4 (putBit v 31 true))

/-- AUDIT_ENABLE (R311). -/
def execAuditEnable (req : Node) (n : Spire) (i : Fin 16) (v : Word) (s : State) : Host.Outcome State Fault Refusal :=
  .next (s.regWrite req.val (Reg.EVT_AUD_CFG n.val i.val) 4 (putBit v 31 true))

/-- SEGMENT_POWER_UP (R184). -/
def execSegmentPowerUp (req : Node) (n : Spire) (v : Word) (s : State) : Host.Outcome State Fault Refusal :=
  .next (s.regWrite req.val (Reg.VLT_SEG_PWR n.val) 4 v)

/-- SEGMENT_POWER_DOWN (R184). -/
def execSegmentPowerDown (req : Node) (n : Spire) (v : Word) (s : State) : Host.Outcome State Fault Refusal :=
  .next (s.regWrite req.val (Reg.VLT_SEG_PWR n.val) 4 v)

/-- RESUME (R209). -/
def execResume (req : Node) (n : Spire) (v : Word) (s : State) : Host.Outcome State Fault Refusal :=
  .next (s.regWrite req.val (Reg.DOME_CTL n.val) 4 (putBit v 0 true))

/-- FLUSH (R215). -/
def execFlush (req : Node) (n : Spire) (v : Word) (s : State) : Host.Outcome State Fault Refusal :=
  .next (s.regWrite req.val (Reg.DOME_CTL n.val) 4 (putBit v 1 true))

/-- TNS_CFG_WRITE (R223). -/
def execTnsCfgWrite (req : Node) (n : Spire) (t : Fin 64) (v : Word) (s : State) : Host.Outcome State Fault Refusal :=
  .next (s.regWrite req.val (Reg.DOME_TNS_CFG n.val t.val) 4 v)

/-- EXP_WRITE (R223). -/
def execExpWrite (req : Node) (n : Spire) (t : Fin 64) (v : Word) (s : State) : Host.Outcome State Fault Refusal :=
  .next (s.regWrite req.val (Reg.DOME_TNS_EXP n.val t.val) 4 v)

/-- LOG_EN_WRITE (R224). -/
def execLogEnWrite (req : Node) (n : Spire) (v : Word) (s : State) : Host.Outcome State Fault Refusal :=
  .next (s.regWrite req.val (Reg.DOME_ADP_CTL n.val) 4 (putBit v 1 true))

/-- UPD_START (R228). -/
def execUpdStart (req : Node) (n : Spire) (v : Word) (s : State) : Host.Outcome State Fault Refusal :=
  .next (s.regWrite req.val (Reg.DOME_UPD_CTL n.val) 4 (putBit v 31 true))

/-- DMA_CTL_START (R269). -/
def execDmaCtlStart (req : Node) (ch : Fin 288) (v : Word) (s : State) : Host.Outcome State Fault Refusal :=
  .next (s.regWrite req.val (dmaReg Reg.DMA_CTL ch.val) 4 (putBit v 31 true))

/-- DMA_CTL_STOP (R275). -/
def execDmaCtlStop (req : Node) (ch : Fin 288) (v : Word) (s : State) : Host.Outcome State Fault Refusal :=
  .next (s.regWrite req.val (dmaReg Reg.DMA_CTL ch.val) 4 (putBit (putBit v 30 true) 31 false))

/-- INV (R290). -/
def execInv (req : Node) (v : Word) (s : State) : Host.Outcome State Fault Refusal :=
  .next (s.regWrite req.val (Reg.LAN_CTL) 4 (putBit v 0 true))

/-- PRE_START (R290). -/
def execPreStart (req : Node) (v : Word) (s : State) : Host.Outcome State Fault Refusal :=
  .next (s.regWrite req.val (Reg.LAN_CTL) 4 (putBit v 1 true))

/-- PORT_DISABLE (R325). -/
def execPortDisable (req : Node) (p : Fin 16) (v : Word) (s : State) : Host.Outcome State Fault Refusal :=
  .next (s.regWrite req.val (hdr (spPage p.val) 8) 4 (putBit v 0 false))

/-- COMB_WRITE (R317). -/
def execCombWrite (req : Node) (p : Fin 16) (v : Word) (s : State) : Host.Outcome State Fault Refusal :=
  .next (s.regWrite req.val (Reg.SP_CFG p.val) 4 v)

/-- I2C_START (R327). -/
def execI2cStart (req : Node) (p : Fin 16) (v : Word) (s : State) : Host.Outcome State Fault Refusal :=
  .next (s.regWrite req.val (Reg.SP_I2C_CMD p.val) 4 (putBit v 31 true))

/-- SPI_START (R328). -/
def execSpiStart (req : Node) (p : Fin 16) (v : Word) (s : State) : Host.Outcome State Fault Refusal :=
  .next (s.regWrite req.val (Reg.SP_SPI_CTL p.val) 4 (putBit v 31 true))

/-- TBL_DATA_WRITE (R330). -/
def execTblDataWrite (req : Node) (p : Fin 16) (v : Word) (s : State) : Host.Outcome State Fault Refusal :=
  .next (s.regWrite req.val (Reg.SP_TBL_DATA p.val) 4 v)

/-- TIO_INJ (R333). -/
def execTioInj (req : Node) (v : Word) (s : State) : Host.Outcome State Fault Refusal :=
  .next (s.regWrite req.val (Reg.TIO_INJ_W3) 4 v)

/-- TIO_CTL_QUIET (R339). -/
def execTioCtlQuiet (req : Node) (en : Bool) (v : Word) (s : State) : Host.Outcome State Fault Refusal :=
  .next (s.regWrite req.val (if en then hdr 0x040 8 else Reg.TIO_CTL) 4 v)

/-- CAP_HI_READ (R341). -/
def execCapHiRead (req : Node) (i : Fin 32) (s : State) : Host.Outcome State Fault Refusal :=
  .next (s.regRead req.val (Reg.TIO_IN_CAP_HI i.val) 4)

/-- OCU_HAND (R354). -/
def execOcuHand (req : Node) (v : Word) (s : State) : Host.Outcome State Fault Refusal :=
  .next (s.regWrite req.val (Reg.OCU_HAND) 4 v)

/-- OCU_HDB (R357). -/
def execOcuHdb (req : Node) (v : Word) (s : State) : Host.Outcome State Fault Refusal :=
  .next (s.regWrite req.val (Reg.OCU_HDB) 4 v)

/-- OCU_DDB (R357). -/
def execOcuDdb (req : Node) (v : Word) (s : State) : Host.Outcome State Fault Refusal :=
  .next (s.regWrite req.val (Reg.OCU_DDB) 4 v)

/-- WINDOW_ENABLE (R349). -/
def execWindowEnable (req : Node) (v : Word) (s : State) : Host.Outcome State Fault Refusal :=
  .next (s.regWrite req.val (Reg.OCU_CTL) 4 (putBit v 0 true))

/-- RING_ENABLE (R359). -/
def execRingEnable (req : Node) (r : Fin 8) (v : Word) (s : State) : Host.Outcome State Fault Refusal :=
  .next (s.regWrite req.val (Reg.OCU_RING_CFG r.val) 4 (putBit v 31 true))

/-- RETRAIN (R373). -/
def execRetrain (req : Node) (a : Fin 4) (en : Bool) (v : Word) (s : State) : Host.Outcome State Fault Refusal :=
  .next (s.regWrite req.val (if en then hdr (axlPage a.val) 8 else Reg.AXL_CTL a.val) 4 (if en then putBit v 0 true else putBit v 31 true))

/-- WINDOW_OPEN (R374). -/
def execWindowOpen (req : Node) (a : Fin 4) (w : Fin 64) (v : Word) (s : State) : Host.Outcome State Fault Refusal :=
  .next (s.regWrite req.val (Reg.AXL_WIN_CTL a.val w.val) 4 (putBit v 31 true))

/-- RDMA_START (R377). -/
def execRdmaStart (req : Node) (a c : Fin 4) (v : Word) (s : State) : Host.Outcome State Fault Refusal :=
  .next (s.regWrite req.val (Reg.AXL_RD_CTL a.val c.val) 4 (putBit v 31 true))

/-- RDMA_STOP (R379). -/
def execRdmaStop (req : Node) (a c : Fin 4) (v : Word) (s : State) : Host.Outcome State Fault Refusal :=
  .next (s.regWrite req.val (Reg.AXL_RD_CTL a.val c.val) 4 (putBit (putBit v 30 true) 31 false))

/-- WARM_RESET (R411). -/
def execWarmReset (req : Node) (v : Word) (s : State) : Host.Outcome State Fault Refusal :=
  .next (s.regWrite req.val (Reg.KEEP_CMD) 4 (putFld v 28 4 1))

/-- COLD_RESET (R410). -/
def execColdReset (req : Node) (v : Word) (s : State) : Host.Outcome State Fault Refusal :=
  .next (s.regWrite req.val (Reg.KEEP_CMD) 4 (putFld v 28 4 2))

/-- STORE_MAP (R405). -/
def execStoreMap (req : Node) (v : Word) (s : State) : Host.Outcome State Fault Refusal :=
  .next (s.regWrite req.val (Reg.KEEP_CMD) 4 (putFld v 28 4 3))

/-- DROP_MAP (R405). -/
def execDropMap (req : Node) (v : Word) (s : State) : Host.Outcome State Fault Refusal :=
  .next (s.regWrite req.val (Reg.KEEP_CMD) 4 (putFld v 28 4 4))

/-- REC_BOOT (R389). -/
def execRecBoot (req : Node) (v : Word) (s : State) : Host.Outcome State Fault Refusal :=
  .next (s.regWrite req.val (Reg.KEEP_CMD) 4 (putFld v 28 4 5))

/-- KEEP_REC_DATA (R389). -/
def execKeepRecData (req : Node) (v : Word) (s : State) : Host.Outcome State Fault Refusal :=
  .next (s.regWrite req.val (Reg.KEEP_REC_DATA) 4 v)

/-- KEEP_MBOX_IN3 (R412). -/
def execKeepMboxIn3 (req : Node) (v : Word) (s : State) : Host.Outcome State Fault Refusal :=
  .next (s.regWrite req.val (Reg.KEEP_MBOX_IN 3) 4 v)

/-- KEEP_IRQ_EOI (R423). -/
def execKeepIrqEoi (req : Node) (v : Word) (s : State) : Host.Outcome State Fault Refusal :=
  .next (s.regWrite req.val (Reg.KEEP_IRQ_EOI) 4 v)

/-- KEEP_IRQ_HOST (R423). -/
def execKeepIrqHost (req : Node) (v : Word) (s : State) : Host.Outcome State Fault Refusal :=
  .next (s.regWrite req.val (Reg.KEEP_IRQ_HOST) 4 v)

/-- SPIRE_POWER (R430). -/
def execSpirePower (req : Node) (v : Word) (s : State) : Host.Outcome State Fault Refusal :=
  .next (s.regWrite req.val (Reg.KEEP_SPIRE_PWR) 4 v)

end Sys2Proof.Machine
end

