-- ==== Sys2Proof/Machine/ExecScalar.lean ====
section
/-! DEFINITION. The operations of the S, M and E slots: one meaning per command. -/

namespace Sys2Proof.Machine

/-- MOV (R115). -/
def execMov (o : CpOp) (s : State) : Host.Outcome State Fault Refusal :=
  .next (s.cpOp o 0 (0x00 + o.sub.toNat % 4) (fun t n w => t.alu n 0x0 w))

/-- ADD (R115). -/
def execAdd (o : CpOp) (s : State) : Host.Outcome State Fault Refusal :=
  .next (s.cpOp o 0 (0x04 + o.sub.toNat % 4) (fun t n w => t.alu n 0x1 w))

/-- ADDC (R115). -/
def execAddc (o : CpOp) (s : State) : Host.Outcome State Fault Refusal :=
  .next (s.cpOp o 0 (0x08 + o.sub.toNat % 4) (fun t n w => t.alu n 0x2 w))

/-- SUB (R115). -/
def execSub (o : CpOp) (s : State) : Host.Outcome State Fault Refusal :=
  .next (s.cpOp o 0 (0x0C + o.sub.toNat % 4) (fun t n w => t.alu n 0x3 w))

/-- SUBC (R115). -/
def execSubc (o : CpOp) (s : State) : Host.Outcome State Fault Refusal :=
  .next (s.cpOp o 0 (0x10 + o.sub.toNat % 4) (fun t n w => t.alu n 0x4 w))

/-- AND (R115). -/
def execAnd (o : CpOp) (s : State) : Host.Outcome State Fault Refusal :=
  .next (s.cpOp o 0 (0x14 + o.sub.toNat % 4) (fun t n w => t.alu n 0x5 w))

/-- OR (R115). -/
def execOr (o : CpOp) (s : State) : Host.Outcome State Fault Refusal :=
  .next (s.cpOp o 0 (0x18 + o.sub.toNat % 4) (fun t n w => t.alu n 0x6 w))

/-- XOR (R115). -/
def execXor (o : CpOp) (s : State) : Host.Outcome State Fault Refusal :=
  .next (s.cpOp o 0 (0x1C + o.sub.toNat % 4) (fun t n w => t.alu n 0x7 w))

/-- SHL (R115). -/
def execShl (o : CpOp) (s : State) : Host.Outcome State Fault Refusal :=
  .next (s.cpOp o 0 (0x20 + o.sub.toNat % 4) (fun t n w => t.alu n 0x8 w))

/-- SHR (R115). -/
def execShr (o : CpOp) (s : State) : Host.Outcome State Fault Refusal :=
  .next (s.cpOp o 0 (0x24 + o.sub.toNat % 4) (fun t n w => t.alu n 0x9 w))

/-- SAR (R115). -/
def execSar (o : CpOp) (s : State) : Host.Outcome State Fault Refusal :=
  .next (s.cpOp o 0 (0x28 + o.sub.toNat % 4) (fun t n w => t.alu n 0xA w))

/-- MUL (R115). -/
def execMul (o : CpOp) (s : State) : Host.Outcome State Fault Refusal :=
  .next (s.cpOp o 0 (0x2C + o.sub.toNat % 4) (fun t n w => t.alu n 0xB w))

/-- MULHS (R115). -/
def execMulhs (o : CpOp) (s : State) : Host.Outcome State Fault Refusal :=
  .next (s.cpOp o 0 (0x30 + o.sub.toNat % 4) (fun t n w => t.alu n 0xC w))

/-- MULHU (R115). -/
def execMulhu (o : CpOp) (s : State) : Host.Outcome State Fault Refusal :=
  .next (s.cpOp o 0 (0x34 + o.sub.toNat % 4) (fun t n w => t.alu n 0xD w))

/-- MIN (R115). -/
def execMin (o : CpOp) (s : State) : Host.Outcome State Fault Refusal :=
  .next (s.cpOp o 0 (0x38 + o.sub.toNat % 4) (fun t n w => t.alu n 0xE w))

/-- MAX (R115). -/
def execMax (o : CpOp) (s : State) : Host.Outcome State Fault Refusal :=
  .next (s.cpOp o 0 (0x3C + o.sub.toNat % 4) (fun t n w => t.alu n 0xF w))

/-- CMP (R117). -/
def execCmp (o : CpOp) (s : State) : Host.Outcome State Fault Refusal :=
  .next (s.cpOp o 0 (0x40 + o.sub.toNat) State.cmp)

/-- PLOG (R117). -/
def execPlog (o : CpOp) (s : State) : Host.Outcome State Fault Refusal :=
  .next (s.cpOp o 0 (0x50) State.plog)

/-- MFC (R117). -/
def execMfc (o : CpOp) (s : State) : Host.Outcome State Fault Refusal :=
  .next (s.cpOp o 0 (0x51) State.mfc)

/-- MTC (R117). -/
def execMtc (o : CpOp) (s : State) : Host.Outcome State Fault Refusal :=
  .next (s.cpOp o 0 (0x52) State.mtc)

/-- DIV (R118). -/
def execDiv (o : CpOp) (s : State) : Host.Outcome State Fault Refusal :=
  .next (s.cpOp o 0 (0x70) State.longOp)

/-- DIVU (R118). -/
def execDivu (o : CpOp) (s : State) : Host.Outcome State Fault Refusal :=
  .next (s.cpOp o 0 (0x71) State.longOp)

/-- REM (R118). -/
def execRem (o : CpOp) (s : State) : Host.Outcome State Fault Refusal :=
  .next (s.cpOp o 0 (0x72) State.longOp)

/-- REMU (R118). -/
def execRemu (o : CpOp) (s : State) : Host.Outcome State Fault Refusal :=
  .next (s.cpOp o 0 (0x73) State.longOp)

/-- ISQRT (R118). -/
def execIsqrt (o : CpOp) (s : State) : Host.Outcome State Fault Refusal :=
  .next (s.cpOp o 0 (0x74) State.longOp)

/-- LD (R119). -/
def execLd (o : CpOp) (s : State) : Host.Outcome State Fault Refusal :=
  .next (s.cpOp o 1 (o.sub.toNat) State.ld)

/-- ST (R119). -/
def execSt (o : CpOp) (s : State) : Host.Outcome State Fault Refusal :=
  .next (s.cpOp o 1 (0x10 + o.sub.toNat) State.st)

/-- LEA (R119). -/
def execLea (o : CpOp) (s : State) : Host.Outcome State Fault Refusal :=
  .next (s.cpOp o 1 (0x20 + o.sub.toNat) State.lea)

/-- REPS (R127). -/
def execReps (o : CpOp) (s : State) : Host.Outcome State Fault Refusal :=
  .next (s.cpOp o 0 (0x6C) (fun t _ _ => t))

/-- MOVS (R127). -/
def execMovs (o : CpOp) (s : State) : Host.Outcome State Fault Refusal :=
  .next (s.cpOp o 1 (0x30 + 4 * (o.sub.toNat % 4)) (fun t n w => t.string n o.lost o.upTo w))

/-- FILLS (R127). -/
def execFills (o : CpOp) (s : State) : Host.Outcome State Fault Refusal :=
  .next (s.cpOp o 1 (0x31 + 4 * (o.sub.toNat % 4)) (fun t n w => t.string n o.lost o.upTo w))

/-- SCANS (R127). -/
def execScans (o : CpOp) (s : State) : Host.Outcome State Fault Refusal :=
  .next (s.cpOp o 1 (0x32 + 4 * (o.sub.toNat % 4)) (fun t n w => t.string n o.lost o.upTo w))

/-- CMPS (R127). -/
def execCmps (o : CpOp) (s : State) : Host.Outcome State Fault Refusal :=
  .next (s.cpOp o 1 (0x33 + 4 * (o.sub.toNat % 4)) (fun t n w => t.string n o.lost o.upTo w))

/-- BR (R120). -/
def execBr (o : CpOp) (s : State) : Host.Outcome State Fault Refusal :=
  .next (s.cpOp o 0 (0x60) (fun t n w => t.branch n ((t.core n).brTarget w) false))

/-- BR_D (R92). -/
def execBrD (o : CpOp) (s : State) : Host.Outcome State Fault Refusal :=
  .next (s.cpOp o 0 (0x61) (fun t n w => t.branch n ((t.core n).brTarget w) true))

/-- BRL (R120). -/
def execBrl (o : CpOp) (s : State) : Host.Outcome State Fault Refusal :=
  .next (s.cpOp o 0 (0x62) State.brl)

/-- BRL_D (R120). -/
def execBrlD (o : CpOp) (s : State) : Host.Outcome State Fault Refusal :=
  .next (s.cpOp o 0 (0x63) State.brlD)

/-- BRI (R120). -/
def execBri (o : CpOp) (s : State) : Host.Outcome State Fault Refusal :=
  .next (s.cpOp o 0 (0x64) (fun t n w => t.bri n w false))

/-- BRI_D (R120). -/
def execBriD (o : CpOp) (s : State) : Host.Outcome State Fault Refusal :=
  .next (s.cpOp o 0 (0x65) (fun t n w => t.bri n w true))

/-- RETI (R121). -/
def execReti (o : CpOp) (s : State) : Host.Outcome State Fault Refusal :=
  .next (s.cpOp o 0 (0x66) (fun t n _ => t.setCtl n .reti))

/-- RETN (R121). -/
def execRetn (o : CpOp) (s : State) : Host.Outcome State Fault Refusal :=
  .next (s.cpOp o 0 (0x67) (fun t n _ => t.setCtl n .retn))

/-- END (R95). -/
def execEndEntry (o : CpOp) (s : State) : Host.Outcome State Fault Refusal :=
  .next (s.cpOp o 0 (0x68) (fun t n w => t.setCtl n (.stop (ofld w.opnd 0 1 == 1))))

/-- NOP (R120). -/
def execNop (o : CpOp) (s : State) : Host.Outcome State Fault Refusal :=
  .next (s.cpOp o 0 (0x6D) (fun t _ _ => t))

/-- RPT (R123). -/
def execRpt (o : CpOp) (s : State) : Host.Outcome State Fault Refusal :=
  .next (s.cpOp o 0 (0x69) (fun t _ _ => t))

/-- RPT_C (R123). -/
def execRptC (o : CpOp) (s : State) : Host.Outcome State Fault Refusal :=
  .next (s.cpOp o 0 (0x6E) (fun t _ _ => t))

/-- LOOP (R124). -/
def execLoop (o : CpOp) (s : State) : Host.Outcome State Fault Refusal :=
  .next (s.cpOp o 0 (0x6A) (fun t n w => t.loopSet n w ((w.ext.getD 0).setWidth 16)))

/-- LOOP_C (R124). -/
def execLoopC (o : CpOp) (s : State) : Host.Outcome State Fault Refusal :=
  .next (s.cpOp o 0 (0x6B) (fun t n w => t.loopSet n w (t.core n).isv.cnt))

/-- EVSEND (R131). -/
def execEvsend (o : CpOp) (s : State) : Host.Outcome State Fault Refusal :=
  .next (s.cpOp o 5 (0x00) State.evsend)

/-- EVSENDI (R131). -/
def execEvsendi (o : CpOp) (s : State) : Host.Outcome State Fault Refusal :=
  .next (s.cpOp o 5 (0x01) State.evsend)

/-- EVWAIT (R132). -/
def execEvwait (o : CpOp) (s : State) : Host.Outcome State Fault Refusal :=
  .next (s.cpOp o 5 (0x02) (fun t _ _ => t))

/-- TWAIT_R (R132). -/
def execTwaitR (o : CpOp) (s : State) : Host.Outcome State Fault Refusal :=
  .next (s.cpOp o 5 (0x03) (fun t _ _ => t))

/-- TWAIT_A (R132). -/
def execTwaitA (o : CpOp) (s : State) : Host.Outcome State Fault Refusal :=
  .next (s.cpOp o 5 (0x04) (fun t _ _ => t))

/-- FIRE (R133). -/
def execFire (o : CpOp) (s : State) : Host.Outcome State Fault Refusal :=
  .next (s.cpOp o 5 (0x05) State.fire)

/-- STARM (R284). -/
def execStarm (o : CpOp) (s : State) : Host.Outcome State Fault Refusal :=
  .next (s.cpOp o 5 (0x20) (fun t n w => t.streamArm n (ofld w.opnd 14 2) (t.core n).agv.acc))

/-- STREL (R284). -/
def execStrel (o : CpOp) (s : State) : Host.Outcome State Fault Refusal :=
  .next (s.cpOp o 5 (0x21) (fun t n w => t.strel n (ofld w.opnd 14 2)))

/-- STSTOP (R284). -/
def execStstop (o : CpOp) (s : State) : Host.Outcome State Fault Refusal :=
  .next (s.cpOp o 5 (0x22) (fun t n w => t.ststop n (ofld w.opnd 14 2)))

/-- DSUB (R201). -/
def execDsub (o : CpOp) (s : State) : Host.Outcome State Fault Refusal :=
  .next (s.cpOp o 5 (0x40) State.dsub)

/-- DWAIT (R201). -/
def execDwait (o : CpOp) (s : State) : Host.Outcome State Fault Refusal :=
  .next (s.cpOp o 5 (0x41) (fun t _ _ => t))

end Sys2Proof.Machine
end

