-- ==== Sys2Proof/Machine/ExecVector.lean ====
section
/-! DEFINITION. The operations of the V0 and V1 slots: one meaning per command. -/

namespace Sys2Proof.Machine

/-- The slot of a vector operation: V1 when bit 0 of sub is 1 (R140). -/
def vslot (o : CpOp) : Nat := if o.sub.getLsbD 0 then 3 else 2

/-- VADD (R144). -/
def execVadd (o : CpOp) (s : State) : Host.Outcome State Fault Refusal :=
  .next (s.cpOp o (vslot o) (0x00) State.vintOp)

/-- VSUB (R144). -/
def execVsub (o : CpOp) (s : State) : Host.Outcome State Fault Refusal :=
  .next (s.cpOp o (vslot o) (0x01) State.vintOp)

/-- VADDS (R144). -/
def execVadds (o : CpOp) (s : State) : Host.Outcome State Fault Refusal :=
  .next (s.cpOp o (vslot o) (0x02) State.vintOp)

/-- VADDSU (R144). -/
def execVaddsu (o : CpOp) (s : State) : Host.Outcome State Fault Refusal :=
  .next (s.cpOp o (vslot o) (0x03) State.vintOp)

/-- VSUBS (R144). -/
def execVsubs (o : CpOp) (s : State) : Host.Outcome State Fault Refusal :=
  .next (s.cpOp o (vslot o) (0x04) State.vintOp)

/-- VSUBSU (R144). -/
def execVsubsu (o : CpOp) (s : State) : Host.Outcome State Fault Refusal :=
  .next (s.cpOp o (vslot o) (0x05) State.vintOp)

/-- VMUL (R144). -/
def execVmul (o : CpOp) (s : State) : Host.Outcome State Fault Refusal :=
  .next (s.cpOp o (vslot o) (0x06) State.vintOp)

/-- VMULHS (R144). -/
def execVmulhs (o : CpOp) (s : State) : Host.Outcome State Fault Refusal :=
  .next (s.cpOp o (vslot o) (0x07) State.vintOp)

/-- VMULHU (R144). -/
def execVmulhu (o : CpOp) (s : State) : Host.Outcome State Fault Refusal :=
  .next (s.cpOp o (vslot o) (0x08) State.vintOp)

/-- VMIN (R144). -/
def execVmin (o : CpOp) (s : State) : Host.Outcome State Fault Refusal :=
  .next (s.cpOp o (vslot o) (0x09) State.vintOp)

/-- VMINU (R144). -/
def execVminu (o : CpOp) (s : State) : Host.Outcome State Fault Refusal :=
  .next (s.cpOp o (vslot o) (0x0A) State.vintOp)

/-- VMAX (R144). -/
def execVmax (o : CpOp) (s : State) : Host.Outcome State Fault Refusal :=
  .next (s.cpOp o (vslot o) (0x0B) State.vintOp)

/-- VMAXU (R144). -/
def execVmaxu (o : CpOp) (s : State) : Host.Outcome State Fault Refusal :=
  .next (s.cpOp o (vslot o) (0x0C) State.vintOp)

/-- VAND (R144). -/
def execVand (o : CpOp) (s : State) : Host.Outcome State Fault Refusal :=
  .next (s.cpOp o (vslot o) (0x0D) State.vintOp)

/-- VOR (R144). -/
def execVor (o : CpOp) (s : State) : Host.Outcome State Fault Refusal :=
  .next (s.cpOp o (vslot o) (0x0E) State.vintOp)

/-- VXOR (R144). -/
def execVxor (o : CpOp) (s : State) : Host.Outcome State Fault Refusal :=
  .next (s.cpOp o (vslot o) (0x0F) State.vintOp)

/-- VSHL (R144). -/
def execVshl (o : CpOp) (s : State) : Host.Outcome State Fault Refusal :=
  .next (s.cpOp o (vslot o) (0x10) State.vintOp)

/-- VSHR (R144). -/
def execVshr (o : CpOp) (s : State) : Host.Outcome State Fault Refusal :=
  .next (s.cpOp o (vslot o) (0x11) State.vintOp)

/-- VSAR (R144). -/
def execVsar (o : CpOp) (s : State) : Host.Outcome State Fault Refusal :=
  .next (s.cpOp o (vslot o) (0x12) State.vintOp)

/-- VABSDU (R144). -/
def execVabsdu (o : CpOp) (s : State) : Host.Outcome State Fault Refusal :=
  .next (s.cpOp o (vslot o) (0x13) State.vintOp)

/-- VAVGU (R144). -/
def execVavgu (o : CpOp) (s : State) : Host.Outcome State Fault Refusal :=
  .next (s.cpOp o (vslot o) (0x14) State.vintOp)

/-- VCMPEQ (R144). -/
def execVcmpeq (o : CpOp) (s : State) : Host.Outcome State Fault Refusal :=
  .next (s.cpOp o (vslot o) (0x18) State.vintOp)

/-- VCMPLT (R144). -/
def execVcmplt (o : CpOp) (s : State) : Host.Outcome State Fault Refusal :=
  .next (s.cpOp o (vslot o) (0x19) State.vintOp)

/-- VCMPLTU (R144). -/
def execVcmpltu (o : CpOp) (s : State) : Host.Outcome State Fault Refusal :=
  .next (s.cpOp o (vslot o) (0x1A) State.vintOp)

/-- VSEL (R144). -/
def execVsel (o : CpOp) (s : State) : Host.Outcome State Fault Refusal :=
  .next (s.cpOp o (vslot o) (0x1B) State.vintOp)

/-- VMACC (R144). -/
def execVmacc (o : CpOp) (s : State) : Host.Outcome State Fault Refusal :=
  .next (s.cpOp o (vslot o) (0x1C) State.vintOp)

/-- VMV (R144). -/
def execVmv (o : CpOp) (s : State) : Host.Outcome State Fault Refusal :=
  .next (s.cpOp o (vslot o) (0x40) State.vintOp)

/-- VWMUL (R145). -/
def execVwmul (o : CpOp) (s : State) : Host.Outcome State Fault Refusal :=
  .next (s.cpOp o (vslot o) (0x20) (fun t n w => t.vwiden n w (vwmul true false)))

/-- VWMULU (R145). -/
def execVwmulu (o : CpOp) (s : State) : Host.Outcome State Fault Refusal :=
  .next (s.cpOp o (vslot o) (0x21) (fun t n w => t.vwiden n w (vwmul false false)))

/-- VWMACC (R145). -/
def execVwmacc (o : CpOp) (s : State) : Host.Outcome State Fault Refusal :=
  .next (s.cpOp o (vslot o) (0x22) (fun t n w => t.vwiden n w (vwmul true true)))

/-- VWMACCU (R145). -/
def execVwmaccu (o : CpOp) (s : State) : Host.Outcome State Fault Refusal :=
  .next (s.cpOp o (vslot o) (0x23) (fun t n w => t.vwiden n w (vwmul false true)))

/-- VDOT4 (R145). -/
def execVdot4 (o : CpOp) (s : State) : Host.Outcome State Fault Refusal :=
  .next (s.cpOp o (vslot o) (0x24) (fun t n w => t.vdotOp n w true true))

/-- VDOT4U (R145). -/
def execVdot4u (o : CpOp) (s : State) : Host.Outcome State Fault Refusal :=
  .next (s.cpOp o (vslot o) (0x25) (fun t n w => t.vdotOp n w false false))

/-- VDOT4SU (R145). -/
def execVdot4su (o : CpOp) (s : State) : Host.Outcome State Fault Refusal :=
  .next (s.cpOp o (vslot o) (0x26) (fun t n w => t.vdotOp n w true false))

/-- VNSHR (R146). -/
def execVnshr (o : CpOp) (s : State) : Host.Outcome State Fault Refusal :=
  .next (s.cpOp o (vslot o) (0x28) State.vnshr)

/-- VFADD (R147). -/
def execVfadd (o : CpOp) (s : State) : Host.Outcome State Fault Refusal :=
  .next (s.cpOp o (vslot o) (0x30) State.vfltOp)

/-- VFSUB (R147). -/
def execVfsub (o : CpOp) (s : State) : Host.Outcome State Fault Refusal :=
  .next (s.cpOp o (vslot o) (0x31) State.vfltOp)

/-- VFMUL (R147). -/
def execVfmul (o : CpOp) (s : State) : Host.Outcome State Fault Refusal :=
  .next (s.cpOp o (vslot o) (0x32) State.vfltOp)

/-- VFMA (R147). -/
def execVfma (o : CpOp) (s : State) : Host.Outcome State Fault Refusal :=
  .next (s.cpOp o (vslot o) (0x33) State.vfltOp)

/-- VFMIN (R147). -/
def execVfmin (o : CpOp) (s : State) : Host.Outcome State Fault Refusal :=
  .next (s.cpOp o (vslot o) (0x34) State.vfltOp)

/-- VFMAX (R147). -/
def execVfmax (o : CpOp) (s : State) : Host.Outcome State Fault Refusal :=
  .next (s.cpOp o (vslot o) (0x35) State.vfltOp)

/-- VFCVT_F_I (R147). -/
def execVfcvtFI (o : CpOp) (s : State) : Host.Outcome State Fault Refusal :=
  .next (s.cpOp o (vslot o) (0x36) State.vfltOp)

/-- VFCVT_I_F (R147). -/
def execVfcvtIF (o : CpOp) (s : State) : Host.Outcome State Fault Refusal :=
  .next (s.cpOp o (vslot o) (0x37) State.vfltOp)

/-- VMVFX (R148). -/
def execVmvfx (o : CpOp) (s : State) : Host.Outcome State Fault Refusal :=
  .next (s.cpOp o 2 (0x41) State.vmvfx)

/-- VMVXF (R148). -/
def execVmvxf (o : CpOp) (s : State) : Host.Outcome State Fault Refusal :=
  .next (s.cpOp o 2 (0x42) State.vmvxf)

/-- SETVL (R139). -/
def execSetvl (o : CpOp) (s : State) : Host.Outcome State Fault Refusal :=
  .next (s.cpOp o 2 (0x48) State.setvl)

/-- VRDC (R148). -/
def execVrdc (o : CpOp) (s : State) : Host.Outcome State Fault Refusal :=
  .next (s.cpOp o 2 (0x49) State.vrdc)

/-- VWRC (R148). -/
def execVwrc (o : CpOp) (s : State) : Host.Outcome State Fault Refusal :=
  .next (s.cpOp o 2 (0x4A) State.vwrc)

/-- VREDSUM (R149). -/
def execVredsum (o : CpOp) (s : State) : Host.Outcome State Fault Refusal :=
  .next (s.cpOp o 2 (0x50) State.vredOp)

/-- VREDSUMU (R149). -/
def execVredsumu (o : CpOp) (s : State) : Host.Outcome State Fault Refusal :=
  .next (s.cpOp o 2 (0x51) State.vredOp)

/-- VREDMAX (R149). -/
def execVredmax (o : CpOp) (s : State) : Host.Outcome State Fault Refusal :=
  .next (s.cpOp o 2 (0x52) State.vredOp)

/-- VREDMAXU (R149). -/
def execVredmaxu (o : CpOp) (s : State) : Host.Outcome State Fault Refusal :=
  .next (s.cpOp o 2 (0x53) State.vredOp)

/-- VREDMIN (R149). -/
def execVredmin (o : CpOp) (s : State) : Host.Outcome State Fault Refusal :=
  .next (s.cpOp o 2 (0x54) State.vredOp)

/-- VREDMINU (R149). -/
def execVredminu (o : CpOp) (s : State) : Host.Outcome State Fault Refusal :=
  .next (s.cpOp o 2 (0x55) State.vredOp)

/-- VFREDSUM (R149). -/
def execVfredsum (o : CpOp) (s : State) : Host.Outcome State Fault Refusal :=
  .next (s.cpOp o 2 (0x56) State.vfredsum)

/-- VFREDMAX (R149). -/
def execVfredmax (o : CpOp) (s : State) : Host.Outcome State Fault Refusal :=
  .next (s.cpOp o 2 (0x57) State.vfredmax)

/-- VLD (R152). -/
def execVld (o : CpOp) (s : State) : Host.Outcome State Fault Refusal :=
  .next (s.cpOp o 2 (0x60) State.vload)

/-- VST (R152). -/
def execVst (o : CpOp) (s : State) : Host.Outcome State Fault Refusal :=
  .next (s.cpOp o 2 (0x61) State.vstore)

/-- VLD2 (R153). -/
def execVld2 (o : CpOp) (s : State) : Host.Outcome State Fault Refusal :=
  .next (s.cpOp o 2 (0x64) State.vload)

/-- VLD3 (R153). -/
def execVld3 (o : CpOp) (s : State) : Host.Outcome State Fault Refusal :=
  .next (s.cpOp o 2 (0x65) State.vload)

/-- VLD4 (R153). -/
def execVld4 (o : CpOp) (s : State) : Host.Outcome State Fault Refusal :=
  .next (s.cpOp o 2 (0x66) State.vload)

/-- VST2 (R153). -/
def execVst2 (o : CpOp) (s : State) : Host.Outcome State Fault Refusal :=
  .next (s.cpOp o 2 (0x68) State.vstore)

/-- VST3 (R153). -/
def execVst3 (o : CpOp) (s : State) : Host.Outcome State Fault Refusal :=
  .next (s.cpOp o 2 (0x69) State.vstore)

/-- VST4 (R153). -/
def execVst4 (o : CpOp) (s : State) : Host.Outcome State Fault Refusal :=
  .next (s.cpOp o 2 (0x6A) State.vstore)

/-- VLDX (R154). -/
def execVldx (o : CpOp) (s : State) : Host.Outcome State Fault Refusal :=
  .next (s.cpOp o 2 (0x6C) State.vldx)

/-- VSTX (R154). -/
def execVstx (o : CpOp) (s : State) : Host.Outcome State Fault Refusal :=
  .next (s.cpOp o 2 (0x6D) State.vstx)

end Sys2Proof.Machine
end

