-- ==== Sys2Proof/Machine/Dispatch.lean ====
section
/-! DEFINITION. The one dispatch of commands to their meanings. -/

namespace Sys2Proof.Machine

def exec (i : Instr) (s : State) : Host.Outcome State Fault Refusal :=
  match i with
  | .regWrite req a width v => Sys2Proof.Machine.execRegWrite req a width v s
  | .rcRead req a => Sys2Proof.Machine.execRcRead req a s
  | .wideReadLow req a => Sys2Proof.Machine.execWideReadLow req a s
  | .setAliasWrite req a v => Sys2Proof.Machine.execSetAliasWrite req a v s
  | .clearAliasWrite req a v => Sys2Proof.Machine.execClearAliasWrite req a v s
  | .intRawClear req page v => Sys2Proof.Machine.execIntRawClear req page v s
  | .intForce req page v => Sys2Proof.Machine.execIntForce req page v s
  | .lock req page v => Sys2Proof.Machine.execLock req page v s
  | .blkRst req page v => Sys2Proof.Machine.execBlkRst req page v s
  | .internalGridPoint => Sys2Proof.Machine.execInternalGridPoint s
  | .tickBoundary => Sys2Proof.Machine.execTickBoundary s
  | .tickStall => Sys2Proof.Machine.execTickStall s
  | .timeSyncCapture => Sys2Proof.Machine.execTimeSyncCapture s
  | .timeAdj req v => Sys2Proof.Machine.execTimeAdj req v s
  | .slewStep => Sys2Proof.Machine.execSlewStep s
  | .timeSet req v => Sys2Proof.Machine.execTimeSet req v s
  | .tickSet req v => Sys2Proof.Machine.execTickSet req v s
  | .timeSrcWrite req encN v => Sys2Proof.Machine.execTimeSrcWrite req encN v s
  | .timebaseEnable req v => Sys2Proof.Machine.execTimebaseEnable req v s
  | .nopEntry => Sys2Proof.Machine.execNopEntry s
  | .tickEnd => Sys2Proof.Machine.execTickEnd s
  | .barrier => Sys2Proof.Machine.execBarrier s
  | .portArm => Sys2Proof.Machine.execPortArm s
  | .dmaStart => Sys2Proof.Machine.execDmaStart s
  | .streamArm => Sys2Proof.Machine.execStreamArm s
  | .dispatch => Sys2Proof.Machine.execDispatch s
  | .evtPost => Sys2Proof.Machine.execEvtPost s
  | .scaleCommit => Sys2Proof.Machine.execScaleCommit s
  | .start req v => Sys2Proof.Machine.execStart req v s
  | .switch req v => Sys2Proof.Machine.execSwitch req v s
  | .stop req v => Sys2Proof.Machine.execStop req v s
  | .cancel req v => Sys2Proof.Machine.execCancel req v s
  | .belfryEnable req v => Sys2Proof.Machine.execBelfryEnable req v s
  | .descValid req d v => Sys2Proof.Machine.execDescValid req d v s
  | .tableEntryWrite req v => Sys2Proof.Machine.execTableEntryWrite req v s
  | .rawLoad req v => Sys2Proof.Machine.execRawLoad req v s
  | .imageLoad req v => Sys2Proof.Machine.execImageLoad req v s
  | .loadCopy => Sys2Proof.Machine.execLoadCopy s
  | .loadDone => Sys2Proof.Machine.execLoadDone s
  | .entryPointTake n => Sys2Proof.Machine.execEntryPointTake n s
  | .interruptEntry n => Sys2Proof.Machine.execInterruptEntry n s
  | .cpNmi req n v => Sys2Proof.Machine.execCpNmi req n v s
  | .haltReq req n v => Sys2Proof.Machine.execHaltReq req n v s
  | .halted n => Sys2Proof.Machine.execHalted n s
  | .cpIrqSet req n v => Sys2Proof.Machine.execCpIrqSet req n v s
  | .tcmpArm req n v => Sys2Proof.Machine.execTcmpArm req n v s
  | .timer n => Sys2Proof.Machine.execTimer n s
  | .icInvalidate req n v => Sys2Proof.Machine.execIcInvalidate req n v s
  | .icacheLineFill n a => Sys2Proof.Machine.execIcacheLineFill n a s
  | .narrowReadReturn n => Sys2Proof.Machine.execNarrowReadReturn n s
  | .storeBufferWrite n => Sys2Proof.Machine.execStoreBufferWrite n s
  | .mov o => Sys2Proof.Machine.execMov o s
  | .add o => Sys2Proof.Machine.execAdd o s
  | .addc o => Sys2Proof.Machine.execAddc o s
  | .sub o => Sys2Proof.Machine.execSub o s
  | .subc o => Sys2Proof.Machine.execSubc o s
  | .and o => Sys2Proof.Machine.execAnd o s
  | .or o => Sys2Proof.Machine.execOr o s
  | .xor o => Sys2Proof.Machine.execXor o s
  | .shl o => Sys2Proof.Machine.execShl o s
  | .shr o => Sys2Proof.Machine.execShr o s
  | .sar o => Sys2Proof.Machine.execSar o s
  | .mul o => Sys2Proof.Machine.execMul o s
  | .mulhs o => Sys2Proof.Machine.execMulhs o s
  | .mulhu o => Sys2Proof.Machine.execMulhu o s
  | .min o => Sys2Proof.Machine.execMin o s
  | .max o => Sys2Proof.Machine.execMax o s
  | .cmp o => Sys2Proof.Machine.execCmp o s
  | .plog o => Sys2Proof.Machine.execPlog o s
  | .mfc o => Sys2Proof.Machine.execMfc o s
  | .mtc o => Sys2Proof.Machine.execMtc o s
  | .div o => Sys2Proof.Machine.execDiv o s
  | .divu o => Sys2Proof.Machine.execDivu o s
  | .rem o => Sys2Proof.Machine.execRem o s
  | .remu o => Sys2Proof.Machine.execRemu o s
  | .isqrt o => Sys2Proof.Machine.execIsqrt o s
  | .ld o => Sys2Proof.Machine.execLd o s
  | .st o => Sys2Proof.Machine.execSt o s
  | .lea o => Sys2Proof.Machine.execLea o s
  | .reps o => Sys2Proof.Machine.execReps o s
  | .movs o => Sys2Proof.Machine.execMovs o s
  | .fills o => Sys2Proof.Machine.execFills o s
  | .scans o => Sys2Proof.Machine.execScans o s
  | .cmps o => Sys2Proof.Machine.execCmps o s
  | .br o => Sys2Proof.Machine.execBr o s
  | .brD o => Sys2Proof.Machine.execBrD o s
  | .brl o => Sys2Proof.Machine.execBrl o s
  | .brlD o => Sys2Proof.Machine.execBrlD o s
  | .bri o => Sys2Proof.Machine.execBri o s
  | .briD o => Sys2Proof.Machine.execBriD o s
  | .reti o => Sys2Proof.Machine.execReti o s
  | .retn o => Sys2Proof.Machine.execRetn o s
  | .endEntry o => Sys2Proof.Machine.execEndEntry o s
  | .nop o => Sys2Proof.Machine.execNop o s
  | .rpt o => Sys2Proof.Machine.execRpt o s
  | .rptC o => Sys2Proof.Machine.execRptC o s
  | .loop o => Sys2Proof.Machine.execLoop o s
  | .loopC o => Sys2Proof.Machine.execLoopC o s
  | .evsend o => Sys2Proof.Machine.execEvsend o s
  | .evsendi o => Sys2Proof.Machine.execEvsendi o s
  | .evwait o => Sys2Proof.Machine.execEvwait o s
  | .evwaitRelease n => Sys2Proof.Machine.execEvwaitRelease n s
  | .twaitR o => Sys2Proof.Machine.execTwaitR o s
  | .twaitA o => Sys2Proof.Machine.execTwaitA o s
  | .twaitRelease n => Sys2Proof.Machine.execTwaitRelease n s
  | .fire o => Sys2Proof.Machine.execFire o s
  | .fireRecordSend n => Sys2Proof.Machine.execFireRecordSend n s
  | .starm o => Sys2Proof.Machine.execStarm o s
  | .strel o => Sys2Proof.Machine.execStrel o s
  | .ststop o => Sys2Proof.Machine.execStstop o s
  | .dsub o => Sys2Proof.Machine.execDsub o s
  | .descriptorEnqueue n => Sys2Proof.Machine.execDescriptorEnqueue n s
  | .dwait o => Sys2Proof.Machine.execDwait o s
  | .vadd o => Sys2Proof.Machine.execVadd o s
  | .vsub o => Sys2Proof.Machine.execVsub o s
  | .vadds o => Sys2Proof.Machine.execVadds o s
  | .vaddsu o => Sys2Proof.Machine.execVaddsu o s
  | .vsubs o => Sys2Proof.Machine.execVsubs o s
  | .vsubsu o => Sys2Proof.Machine.execVsubsu o s
  | .vmul o => Sys2Proof.Machine.execVmul o s
  | .vmulhs o => Sys2Proof.Machine.execVmulhs o s
  | .vmulhu o => Sys2Proof.Machine.execVmulhu o s
  | .vmin o => Sys2Proof.Machine.execVmin o s
  | .vminu o => Sys2Proof.Machine.execVminu o s
  | .vmax o => Sys2Proof.Machine.execVmax o s
  | .vmaxu o => Sys2Proof.Machine.execVmaxu o s
  | .vand o => Sys2Proof.Machine.execVand o s
  | .vor o => Sys2Proof.Machine.execVor o s
  | .vxor o => Sys2Proof.Machine.execVxor o s
  | .vshl o => Sys2Proof.Machine.execVshl o s
  | .vshr o => Sys2Proof.Machine.execVshr o s
  | .vsar o => Sys2Proof.Machine.execVsar o s
  | .vabsdu o => Sys2Proof.Machine.execVabsdu o s
  | .vavgu o => Sys2Proof.Machine.execVavgu o s
  | .vcmpeq o => Sys2Proof.Machine.execVcmpeq o s
  | .vcmplt o => Sys2Proof.Machine.execVcmplt o s
  | .vcmpltu o => Sys2Proof.Machine.execVcmpltu o s
  | .vsel o => Sys2Proof.Machine.execVsel o s
  | .vmacc o => Sys2Proof.Machine.execVmacc o s
  | .vmv o => Sys2Proof.Machine.execVmv o s
  | .vwmul o => Sys2Proof.Machine.execVwmul o s
  | .vwmulu o => Sys2Proof.Machine.execVwmulu o s
  | .vwmacc o => Sys2Proof.Machine.execVwmacc o s
  | .vwmaccu o => Sys2Proof.Machine.execVwmaccu o s
  | .vdot4 o => Sys2Proof.Machine.execVdot4 o s
  | .vdot4u o => Sys2Proof.Machine.execVdot4u o s
  | .vdot4su o => Sys2Proof.Machine.execVdot4su o s
  | .vnshr o => Sys2Proof.Machine.execVnshr o s
  | .vfadd o => Sys2Proof.Machine.execVfadd o s
  | .vfsub o => Sys2Proof.Machine.execVfsub o s
  | .vfmul o => Sys2Proof.Machine.execVfmul o s
  | .vfma o => Sys2Proof.Machine.execVfma o s
  | .vfmin o => Sys2Proof.Machine.execVfmin o s
  | .vfmax o => Sys2Proof.Machine.execVfmax o s
  | .vfcvtFI o => Sys2Proof.Machine.execVfcvtFI o s
  | .vfcvtIF o => Sys2Proof.Machine.execVfcvtIF o s
  | .vmvfx o => Sys2Proof.Machine.execVmvfx o s
  | .vmvxf o => Sys2Proof.Machine.execVmvxf o s
  | .setvl o => Sys2Proof.Machine.execSetvl o s
  | .vrdc o => Sys2Proof.Machine.execVrdc o s
  | .vwrc o => Sys2Proof.Machine.execVwrc o s
  | .vredsum o => Sys2Proof.Machine.execVredsum o s
  | .vredsumu o => Sys2Proof.Machine.execVredsumu o s
  | .vredmax o => Sys2Proof.Machine.execVredmax o s
  | .vredmaxu o => Sys2Proof.Machine.execVredmaxu o s
  | .vredmin o => Sys2Proof.Machine.execVredmin o s
  | .vredminu o => Sys2Proof.Machine.execVredminu o s
  | .vfredsum o => Sys2Proof.Machine.execVfredsum o s
  | .vfredmax o => Sys2Proof.Machine.execVfredmax o s
  | .vld o => Sys2Proof.Machine.execVld o s
  | .vst o => Sys2Proof.Machine.execVst o s
  | .vld2 o => Sys2Proof.Machine.execVld2 o s
  | .vld3 o => Sys2Proof.Machine.execVld3 o s
  | .vld4 o => Sys2Proof.Machine.execVld4 o s
  | .vst2 o => Sys2Proof.Machine.execVst2 o s
  | .vst3 o => Sys2Proof.Machine.execVst3 o s
  | .vst4 o => Sys2Proof.Machine.execVst4 o s
  | .vldx o => Sys2Proof.Machine.execVldx o s
  | .vstx o => Sys2Proof.Machine.execVstx o s
  | .vectorLoadReturn n => Sys2Proof.Machine.execVectorLoadReturn n s
  | .macb o => Sys2Proof.Machine.execMacb o s
  | .macby o => Sys2Proof.Machine.execMacby o s
  | .macp o => Sys2Proof.Machine.execMacp o s
  | .mclr o => Sys2Proof.Machine.execMclr o s
  | .mrnd o => Sys2Proof.Machine.execMrnd o s
  | .mrdl o => Sys2Proof.Machine.execMrdl o s
  | .mrdh o => Sys2Proof.Machine.execMrdh o s
  | .mwr o => Sys2Proof.Machine.execMwr o s
  | .mtm o => Sys2Proof.Machine.execMtm o s
  | .mfm o => Sys2Proof.Machine.execMfm o s
  | .mrep o => Sys2Proof.Machine.execMrep o s
  | .pw m h => Sys2Proof.Machine.execPw m h s
  | .rreq m h => Sys2Proof.Machine.execRreq m h s
  | .rd m h => Sys2Proof.Machine.execRd m h s
  | .rdr m h => Sys2Proof.Machine.execRdr m h s
  | .inc m h => Sys2Proof.Machine.execInc m h s
  | .ack m h => Sys2Proof.Machine.execAck m h s
  | .rcred m h => Sys2Proof.Machine.execRcred m h s
  | .tc m h => Sys2Proof.Machine.execTc m h s
  | .hb m h => Sys2Proof.Machine.execHb m h s
  | .heartbeat n => Sys2Proof.Machine.execHeartbeat n s
  | .outboundEventRelease src => Sys2Proof.Machine.execOutboundEventRelease src s
  | .watchArm req n w v => Sys2Proof.Machine.execWatchArm req n w v s
  | .counterSet req n v => Sys2Proof.Machine.execCounterSet req n v s
  | .counterAdd req n v => Sys2Proof.Machine.execCounterAdd req n v s
  | .auditEnable req n k v => Sys2Proof.Machine.execAuditEnable req n k v s
  | .segmentPowerUp req n v => Sys2Proof.Machine.execSegmentPowerUp req n v s
  | .segmentPowerDown req n v => Sys2Proof.Machine.execSegmentPowerDown req n v s
  | .segReady n seg => Sys2Proof.Machine.execSegReady n seg s
  | .scrubRead n => Sys2Proof.Machine.execScrubRead n s
  | .scrubWriteback n => Sys2Proof.Machine.execScrubWriteback n s
  | .loadw n => Sys2Proof.Machine.execLoadw n s
  | .run n => Sys2Proof.Machine.execRun n s
  | .loadcb n => Sys2Proof.Machine.execLoadcb n s
  | .loadrs n => Sys2Proof.Machine.execLoadrs n s
  | .loadaf n => Sys2Proof.Machine.execLoadaf n s
  | .poolcfg n => Sys2Proof.Machine.execPoolcfg n s
  | .wincfg n => Sys2Proof.Machine.execWincfg n s
  | .mark n => Sys2Proof.Machine.execMark n s
  | .runComplete n => Sys2Proof.Machine.execRunComplete n s
  | .loadwComplete n => Sys2Proof.Machine.execLoadwComplete n s
  | .tableLoadComplete n => Sys2Proof.Machine.execTableLoadComplete n s
  | .resume req n v => Sys2Proof.Machine.execResume req n v s
  | .flush req n v => Sys2Proof.Machine.execFlush req n v s
  | .tnsCfgWrite req n t v => Sys2Proof.Machine.execTnsCfgWrite req n t v s
  | .expWrite req n t v => Sys2Proof.Machine.execExpWrite req n t v s
  | .logEnWrite req n v => Sys2Proof.Machine.execLogEnWrite req n v s
  | .updStart req n v => Sys2Proof.Machine.execUpdStart req n v s
  | .updEngineBegin n => Sys2Proof.Machine.execUpdEngineBegin n s
  | .updDone n => Sys2Proof.Machine.execUpdDone n s
  | .dmaCtlStart req ch v => Sys2Proof.Machine.execDmaCtlStart req ch v s
  | .dmaCtlStop req ch v => Sys2Proof.Machine.execDmaCtlStop req ch v s
  | .dmaPieceRequest ch => Sys2Proof.Machine.execDmaPieceRequest ch s
  | .streamRowFetch n st => Sys2Proof.Machine.execStreamRowFetch n st s
  | .slotReady n st => Sys2Proof.Machine.execSlotReady n st s
  | .lanternFetch b => Sys2Proof.Machine.execLanternFetch b s
  | .lanternFill b => Sys2Proof.Machine.execLanternFill b s
  | .inv req v => Sys2Proof.Machine.execInv req v s
  | .invDone => Sys2Proof.Machine.execInvDone s
  | .preStart req v => Sys2Proof.Machine.execPreStart req v s
  | .line p vc dt payload crcOk corrected => Sys2Proof.Machine.execLine p vc dt payload crcOk corrected s
  | .frameStart p vc corrected => Sys2Proof.Machine.execFrameStart p vc corrected s
  | .hdrUe p => Sys2Proof.Machine.execHdrUe p s
  | .landingWrite p => Sys2Proof.Machine.execLandingWrite p s
  | .portDisable req p v => Sys2Proof.Machine.execPortDisable req p v s
  | .combWrite req p v => Sys2Proof.Machine.execCombWrite req p v s
  | .triggerPulse p => Sys2Proof.Machine.execTriggerPulse p s
  | .i2cStart req p v => Sys2Proof.Machine.execI2cStart req p v s
  | .i2cDone p e => Sys2Proof.Machine.execI2cDone p e s
  | .spiStart req p v => Sys2Proof.Machine.execSpiStart req p v s
  | .spiDone p rx => Sys2Proof.Machine.execSpiDone p rx s
  | .tblDataWrite req p v => Sys2Proof.Machine.execTblDataWrite req p v s
  | .fireRecord => Sys2Proof.Machine.execFireRecord s
  | .tioInj req v => Sys2Proof.Machine.execTioInj req v s
  | .activeEdge c => Sys2Proof.Machine.execActiveEdge c s
  | .inactiveEdge c => Sys2Proof.Machine.execInactiveEdge c s
  | .tioCtlQuiet req en v => Sys2Proof.Machine.execTioCtlQuiet req en v s
  | .inputEdge k level => Sys2Proof.Machine.execInputEdge k level s
  | .capHiRead req k => Sys2Proof.Machine.execCapHiRead req k s
  | .encoderCount e a b => Sys2Proof.Machine.execEncoderCount e a b s
  | .index e => Sys2Proof.Machine.execIndex e s
  | .hostBar2Write off data => Sys2Proof.Machine.execHostBar2Write off data s
  | .hostBar2Read off len => Sys2Proof.Machine.execHostBar2Read off len s
  | .ocuHand req v => Sys2Proof.Machine.execOcuHand req v s
  | .handoverTakeEffect => Sys2Proof.Machine.execHandoverTakeEffect s
  | .ocuHdb req v => Sys2Proof.Machine.execOcuHdb req v s
  | .doorbellPresent => Sys2Proof.Machine.execDoorbellPresent s
  | .ocuDdb req v => Sys2Proof.Machine.execOcuDdb req v s
  | .windowEnable req v => Sys2Proof.Machine.execWindowEnable req v s
  | .ringEnable req r v => Sys2Proof.Machine.execRingEnable req r v s
  | .logRingRelease r => Sys2Proof.Machine.execLogRingRelease r s
  | .functionLevelReset => Sys2Proof.Machine.execFunctionLevelReset s
  | .dlDown => Sys2Proof.Machine.execDlDown s
  | .dlUp rate width => Sys2Proof.Machine.execDlUp rate width s
  | .perstN => Sys2Proof.Machine.execPerstN s
  | .sequencedFlit a f pois => Sys2Proof.Machine.execSequencedFlit a f pois s
  | .lctl a f => Sys2Proof.Machine.execLctl a f s
  | .replayTimeout a => Sys2Proof.Machine.execReplayTimeout a s
  | .retrain req a en v => Sys2Proof.Machine.execRetrain req a en v s
  | .trainingComplete a good peer => Sys2Proof.Machine.execTrainingComplete a good peer s
  | .linkDown a good => Sys2Proof.Machine.execLinkDown a good s
  | .rwr a => Sys2Proof.Machine.execRwr a s
  | .wack a => Sys2Proof.Machine.execWack a s
  | .windowOpen req a w v => Sys2Proof.Machine.execWindowOpen req a w v s
  | .rdmaStart req a c v => Sys2Proof.Machine.execRdmaStart req a c v s
  | .rdmaStop req a c v => Sys2Proof.Machine.execRdmaStop req a c v s
  | .rdmaPiece a c => Sys2Proof.Machine.execRdmaPiece a c s
  | .tickMessage a => Sys2Proof.Machine.execTickMessage a s
  | .timeProbe a => Sys2Proof.Machine.execTimeProbe a s
  | .probeAnswer a f => Sys2Proof.Machine.execProbeAnswer a f s
  | .answer a f => Sys2Proof.Machine.execAnswer a f s
  | .resetN rise => Sys2Proof.Machine.execResetN rise s
  | .secureBoot => Sys2Proof.Machine.execSecureBoot s
  | .stagePcie => Sys2Proof.Machine.execStagePcie s
  | .stageSram failed service => Sys2Proof.Machine.execStageSram failed service s
  | .stageLogic failed routers service => Sys2Proof.Machine.execStageLogic failed routers service s
  | .stageDramTrain trained dens => Sys2Proof.Machine.execStageDramTrain trained dens s
  | .stageVault rows checkOk => Sys2Proof.Machine.execStageVault rows checkOk s
  | .stageDramTest passed => Sys2Proof.Machine.execStageDramTest passed s
  | .stageMap => Sys2Proof.Machine.execStageMap s
  | .warmReset req v => Sys2Proof.Machine.execWarmReset req v s
  | .coldReset req v => Sys2Proof.Machine.execColdReset req v s
  | .storeMap req v => Sys2Proof.Machine.execStoreMap req v s
  | .mapWriteDone ok => Sys2Proof.Machine.execMapWriteDone ok s
  | .dropMap req v => Sys2Proof.Machine.execDropMap req v s
  | .recBoot req v => Sys2Proof.Machine.execRecBoot req v s
  | .keepRecData req v => Sys2Proof.Machine.execKeepRecData req v s
  | .keepMboxIn3 req v => Sys2Proof.Machine.execKeepMboxIn3 req v s
  | .keepIrqEoi req v => Sys2Proof.Machine.execKeepIrqEoi req v s
  | .keepIrqHost req v => Sys2Proof.Machine.execKeepIrqHost req v s
  | .unitFault cause unit => Sys2Proof.Machine.execUnitFault cause unit s
  | .spirePower req v => Sys2Proof.Machine.execSpirePower req v s
  | .spirePowerReady n => Sys2Proof.Machine.execSpirePowerReady n s
  | .avsStep => Sys2Proof.Machine.execAvsStep s
  | .thermalReading temps => Sys2Proof.Machine.execThermalReading temps s
  | .throttleLevel => Sys2Proof.Machine.execThrottleLevel s
  | .pllLossOfLock p => Sys2Proof.Machine.execPllLossOfLock p s
  | .dramScrub c => Sys2Proof.Machine.execDramScrub c s
  | .refresh c => Sys2Proof.Machine.execRefresh c s
  | .mr4Read c a b => Sys2Proof.Machine.execMr4Read c a b s
  | .delayCorrection c drift => Sys2Proof.Machine.execDelayCorrection c drift s
  | .dramRequestServe c k => Sys2Proof.Machine.execDramRequestServe c k s
  | .pllLock p => Sys2Proof.Machine.execPllLock p s
  | .railRangeChange r l => Sys2Proof.Machine.execRailRangeChange r l s
  | .perstNRise => Sys2Proof.Machine.execPerstNRise s
  | .configurationRequest r => Sys2Proof.Machine.execConfigurationRequest r s
  | .hsDeskew p => Sys2Proof.Machine.execHsDeskew p s
  | .ulps p e => Sys2Proof.Machine.execUlps p e s

end Sys2Proof.Machine
end

