-- ==== Sys2Proof/Machine/Step.lean ====
section
/-! DEFINITION. One step of the block: the command at the front of the queue, or one TCLK of an idle block (log entry 1). -/

namespace Sys2Proof.Machine

/-- The block idles with no command waiting: one TCLK passes. Device time, a running slew and the throttle move on (R33, R48, R436; log entry 1). -/
def State.idle (s : State) : State := s.tclk.thrTick

/-- One step: the front command is taken and run with the queue's rest, or the block idles. -/
def step (s : State) : Host.Outcome State Fault Refusal :=
  match s.pending with
  | [] => .next s.idle
  | c :: rest => exec c { s with pending := rest }

/-- s with the command that the word spells put at the front of its queue; s where it spells none. -/
def State.withFetchWord (s : State) (nbits w : Nat) : State :=
  match decodeTableWord nbits w with
  | some c => { s with pending := c :: s.pending }
  | none => s

end Sys2Proof.Machine
end

