-- ==== Sys2Proof/Safety.lean ====
section
/-! DEFINITION. Safe states and steps, in the terms that statements use. -/

namespace Sys2Proof.Machine

/-- The step completes: it neither faults nor is refused. -/
def Completes (o : Host.Outcome State Fault Refusal) : Prop := ∃ t, o = .next t

/-- What every memory and register operation keeps: memory and the register file in their canonical forms. -/
structure State.Canon (s : State) : Prop where
  mem : Memory.wf s.mem
  regs : Tab.wf regReset s.regs

/-- Operation o, with slot code slot and opcode opc, has its effect in state u when its command runs in state s: its core runs and has issued the
operations before it; the bundle, when this operation opens it or is the first behind RPT, passes its fetch, legality, wait and address checks
(R83, R101, R107, R132, R156) and so comes to u; and the guard passes in u (R109). -/
structure Takes (s : State) (o : CpOp) (slot opc : Nat) (u : State) : Prop where
  runs : (s.core o.core.val).st = 1
  place : (s.core o.core.val).part = o.before
  next : o.before ≠ [] → (s.core o.core.val).todo = o.cw slot opc :: o.after
  opened : ∃ v, (if o.before.isEmpty then s.bundleStart o.core.val (o.bundle slot opc) else (true, s)) = (true, v) ∧
    (if o.before.all CpWord.isRpt then v.issueStart o.core.val o.lost (o.bundle slot opc) (o.cw slot opc :: o.after) else (true, v)) = (true, u)
  guard : (u.core o.core.val).passes (o.cw slot opc) = true
  live : (u.core o.core.val).todo ≠ []

/-- Operation o, its effect made in state u, is done: the rest of its bundle stands to issue, or the bundle ends (R78, R79, R91). -/
def State.finish (u : State) (o : CpOp) (slot opc : Nat) : State := u.opDone o.core.val (o.cw slot opc) o.after

end Sys2Proof.Machine
end

