-- ==== Sys2Proof/Certificates/Slice0/Obligations.lean ====
section
/-! DEFINITION. The statements about the block, each the meaning of one or several rules of the spec. -/

open Sys2Proof Sys2Proof.Machine

/-! ### Operations of the S and M slots -/

/-- Source b of an S-slot register or immediate kind (R115): register SRC, the sign-extended immediate, or the extension word. -/
def Sys2Proof.sourceB (c : Core) (o : CpOp) : Word :=
  if o.sub.toNat % 4 = 0 then c.wb.get (ofld o.opnd.toNat 10 3) else o.ext.getD (sext 13 (ofld o.opnd.toNat 0 13))

/-- What a register or immediate kind of S-slot function func does, for every bundle and state in which it takes place: DST takes val, C takes cy, of a,
b and the old C, as of the bundle's write back; nothing else changes but the progress of the bundle. -/
def Sys2Proof.AluForm (i : CpOp → Instr) (func : Nat) (val : Word → Word → Bool → Word) (cy : Word → Word → Bool → Bool) : Prop :=
  ∀ (o : CpOp) (s u : State), o.sub.toNat % 4 < 2 → Takes s o 0 (4 * func + o.sub.toNat % 4) u →
    exec (i o) s = .next ((u.modCore o.core.val (fun c =>
      let a := c.wb.get (ofld o.opnd.toNat 13 3)
      { c with f := c.f.set (ofld o.opnd.toNat 13 3) (val a (sourceB c o) (bitOf c.sr 0))
               sr := putBit c.sr 0 (cy a (sourceB c o) (bitOf c.sr 0))
               lateC := if 1 ≤ func ∧ func ≤ 4 then none else c.lateC })).finish o 0 (4 * func + o.sub.toNat % 4))

/-- Operation w requests len bytes at its effective address x in state u: the bytes are read now, with the store buffer merged, and a narrow read that will do
op in its return cycle is on its way. The return comes after its grant: the cycles that its bundle has lost, or that it loses at the port of X-RAM or Y-RAM,
move it. -/
def Sys2Proof.requests (u : State) (n : Nat) (w : CpWord) (len : Nat) (x : Word) (op : LoadOp) : State :=
  let r := u.narrowRead n x.toNat len
  let c := u.core n
  r.2.2.modCore n (fun d => { d with loads := d.loads ++
    [{ fresh := true, due := 3 + ((narrowParts x.toNat len).length - 1) + c.lag + u.portLost n c.todo w - c.held, op := op, data := r.1, pois := r.2.1, pc := (u.core n).pc, addr := x }] })

/-- The effective address of an S-slot memory kind, of KIND 2 and 3 (R114, R115). -/
def Sys2Proof.sAddr (c : Core) (o : CpOp) : Word :=
  (if o.sub.toNat % 4 = 3 then c.agv.ix1 else c.agv.ix0) + o.ext.getD (w32 (ofld o.opnd.toNat 0 12))

/-- What a memory kind of S-slot function func does: it requests the word at EA, and the operation waits for its return. -/
def Sys2Proof.AluMemForm (i : CpOp → Instr) (func : Nat) : Prop :=
  ∀ (o : CpOp) (s u : State), 2 ≤ o.sub.toNat % 4 → Takes s o 0 (4 * func + o.sub.toNat % 4) u →
    exec (i o) s = .next ((requests u o.core.val (o.cw 0 (4 * func + o.sub.toNat % 4)) 4 (sAddr (u.core o.core.val) o) (.alu func (ofld o.opnd.toNat 13 3))).finish o 0
      (4 * func + o.sub.toNat % 4))

/-- R81, R90, R116, R119: the return of the only narrow read on its way. A good word is the source of its S-slot operation, which writes DST and C, or is
loaded; a poisoned one writes nothing and is a POISON fault found. Only that core changes. -/
def Obligations.NarrowReadReturns : Prop :=
  ∀ (n : CpId) (s : State) (l : PendLoad), (s.core n.val).loads = [l] → (s.core n.val).mtcs = [] → (s.core n.val).vpend = [] →
    ∃ d : Core, exec (.narrowReadReturn n) s = .next (s.setCore n.val d) ∧ d.loads = [] ∧ d.pc = (s.core n.val).pc ∧ d.st = (s.core n.val).st ∧
      d.vregs = (s.core n.val).vregs ∧
      (if l.pois then d.f = (s.core n.val).f ∧ d.sr = (s.core n.val).sr ∧
          d.late.length = (s.core n.val).late.length + 1 ∧ d.late.getLast? = some { src := 3, pc := l.pc, addr := l.addr, elem := 0, slots := 0 }
        else match l.op with
        | .alu func dst => d.f = (s.core n.val).f.set dst (aluVal func ((s.core n.val).f.get dst) l.data (bitOf (s.core n.val).sr 0)) ∧
            d.sr = putBit (s.core n.val).sr 0 (aluC func ((s.core n.val).f.get dst) l.data (bitOf (s.core n.val).sr 0))
        | .load dst size sgn => d.f = (s.core n.val).f.set dst (loadVal size sgn l.data) ∧ d.sr = (s.core n.val).sr)

/-- A condition of CMP by its code (R117). -/
def Sys2Proof.condition (cond : Nat) (a b : Word) : Bool :=
  match cond with
  | 0 => a == b
  | 1 => !(a == b)
  | 2 => decide (a.toInt < b.toInt)
  | 3 => decide (b.toInt ≤ a.toInt)
  | 4 => decide (a.toNat < b.toNat)
  | 5 => decide (b.toNat ≤ a.toNat)
  | 6 => !((a &&& b) == 0)
  | _ => (a &&& b) == 0

/-- R113, R117: CMP writes Pd in both forms; PLOG writes Pd from its truth table; MFC writes DST from the control register; MTC writes PRED and SR.C
at once and has SR, LBEG, LEND or LN written for the later stages. MFC reads in write back, so it finds LN and LACT as a LOOP that its own bundle ends leaves them
(R80, R125), and what LOOP, the end of a LOOP or a taken branch of a bundle behind it has then written (R78). Where the rules leave a choice, it is the model's: which
of the writes behind it MFC sees, and that SR, LBEG, LEND and LN act four bundles after MTC and PRED and C at once (log entry 59). -/
def Obligations.PredicatesAndControl : Prop :=
  (∀ (o : CpOp) (s u : State), Takes s o 0 (0x40 + o.sub.toNat) u →
    exec (.cmp o) s = .next ((u.modCore o.core.val (fun c =>
      let b := if o.sub.toNat < 8 then c.wb.get (ofld o.opnd.toNat 7 3) else o.ext.getD (sext 10 (ofld o.opnd.toNat 0 10))
      { c with f := c.f.setP (ofld o.opnd.toNat 10 3) (condition (o.sub.toNat % 8) (c.wb.get (ofld o.opnd.toNat 13 3)) b) })).finish o 0
        (0x40 + o.sub.toNat)))
  ∧ (∀ (o : CpOp) (s u : State), Takes s o 0 0x50 u →
    exec (.plog o) s = .next ((u.modCore o.core.val (fun c =>
      let i := (if c.wb.p (ofld o.opnd.toNat 10 3) then 2 else 0) + (if c.wb.p (ofld o.opnd.toNat 7 3) then 1 else 0)
      { c with f := c.f.setP (ofld o.opnd.toNat 13 3) (o.opnd.toNat.testBit i) })).finish o 0 0x50))
  ∧ (∀ (o : CpOp) (s u : State), Takes s o 0 0x51 u → (u.core o.core.val).mtcs = [] →
    exec (.mfc o) s = .next ((u.modCore o.core.val (fun c =>
      let ends := c.lact && c.lend == c.pc
      let v := match ofld o.opnd.toNat 9 4 with
        | 0 => if ends = true ∧ c.ln = 1 then putBit c.sr 6 false else c.sr
        | 1 => (c.wb.pred ||| 1).setWidth 32
        | 2 => c.lbeg
        | 3 => c.lend
        | _ => (if ends = true ∧ c.ln ≠ 0 then c.ln - 1 else c.ln).setWidth 32
      { c with f := c.f.set (ofld o.opnd.toNat 13 3) v
               mfcs := c.mfcs ++ [{ due := 5, ctl := ofld o.opnd.toNat 9 4, dst := ofld o.opnd.toNat 13 3, v := v }] })).finish o 0 0x51))
  ∧ (∀ (c : Core) (m : MfcPend), c.mtcs = [] → m.due ≤ 5 → m.dst < 8 → c.f.get m.dst = m.v →
    (c.mfcSee m).f = c.f.set m.dst (match m.ctl with
      | 0 => putBit m.v 6 c.lact
      | 1 => m.v
      | 2 => c.lbeg
      | 3 => c.lend
      | _ => c.ln.setWidth 32))
  ∧ (∀ (o : CpOp) (s u : State), Takes s o 0 0x52 u →
    exec (.mtc o) s = .next ((u.modCore o.core.val (fun c =>
      let v := c.wb.get (ofld o.opnd.toNat 13 3)
      let k := ofld o.opnd.toNat 9 4
      if k = 1 then { c with f := { c.f with pred := (v.setWidth 8 &&& 0xFE) ||| (c.f.pred &&& 1) } }
      else { c with mtcs := c.mtcs ++ [{ due := 4, ctl := k, v := v }]
                    sr := if k = 0 then putBit c.sr 0 (bitOf v 0) else c.sr
                    lateC := if k = 0 then none else c.lateC })).finish o 0 0x52))

/-- A long operation holds its bundle; when the held cycles end, what it writes to DST is res a b (R118). -/
def Sys2Proof.LongForm (i : CpOp → Instr) (opc : Nat) (res : Word → Word → Word) : Prop :=
  (∀ (o : CpOp) (s u : State), Takes s o 0 opc u →
    exec (i o) s = .next ((u.modCore o.core.val (fun c =>
      { c with lop := some (opc, ofld o.opnd.toNat 13 3, ofld o.opnd.toNat 10 3) })).finish o 0 opc))
  ∧ ∀ (c : Core) (d r : Nat), c.lop = some (opc, d, r) → c.longWrite = { c with f := c.f.set d (res (c.f.get d) (c.f.get r)), lop := none }

/-- R81, R114 to R116, R118: results and carries of the sixteen arithmetic and logic operations in their register and immediate kinds; their memory kinds, which read the word at EA and
compute when it returns; quotients, remainders and the integer square root, with the stated results for a divisor of 0. -/
def Obligations.AluResults : Prop :=
  AluForm .mov 0x0 (fun _ b _ => b) (fun _ _ c => c)
  ∧ AluForm .add 0x1 (fun a b _ => a + b) (fun a b _ => decide (2 ^ 32 ≤ a.toNat + b.toNat))
  ∧ AluForm .addc 0x2 (fun a b c => a + b + (if c then 1 else 0)) (fun a b c => decide (2 ^ 32 ≤ a.toNat + b.toNat + (if c then 1 else 0)))
  ∧ AluForm .sub 0x3 (fun a b _ => a - b) (fun a b _ => decide (a.toNat < b.toNat))
  ∧ AluForm .subc 0x4 (fun a b c => a - b - (if c then 1 else 0)) (fun a b c => decide (a.toNat < b.toNat + (if c then 1 else 0)))
  ∧ AluForm .and 0x5 (fun a b _ => a &&& b) (fun _ _ c => c)
  ∧ AluForm .or 0x6 (fun a b _ => a ||| b) (fun _ _ c => c)
  ∧ AluForm .xor 0x7 (fun a b _ => a ^^^ b) (fun _ _ c => c)
  ∧ AluForm .shl 0x8 (fun a b _ => a <<< (b.toNat % 32)) (fun _ _ c => c)
  ∧ AluForm .shr 0x9 (fun a b _ => a >>> (b.toNat % 32)) (fun _ _ c => c)
  ∧ AluForm .sar 0xA (fun a b _ => BitVec.ofInt 32 (a.toInt / 2 ^ (b.toNat % 32))) (fun _ _ c => c)
  ∧ AluForm .mul 0xB (fun a b _ => BitVec.ofNat 32 (a.toNat * b.toNat)) (fun _ _ c => c)
  ∧ AluForm .mulhs 0xC (fun a b _ => BitVec.ofInt 32 (a.toInt * b.toInt / 2 ^ 32)) (fun _ _ c => c)
  ∧ AluForm .mulhu 0xD (fun a b _ => BitVec.ofNat 32 (a.toNat * b.toNat / 2 ^ 32)) (fun _ _ c => c)
  ∧ AluForm .min 0xE (fun a b _ => BitVec.ofInt 32 (min a.toInt b.toInt)) (fun _ _ c => c)
  ∧ AluForm .max 0xF (fun a b _ => BitVec.ofInt 32 (max a.toInt b.toInt)) (fun _ _ c => c)
  ∧ AluMemForm .mov 0x0 ∧ AluMemForm .add 0x1 ∧ AluMemForm .addc 0x2 ∧ AluMemForm .sub 0x3 ∧ AluMemForm .subc 0x4 ∧ AluMemForm .and 0x5
  ∧ AluMemForm .or 0x6 ∧ AluMemForm .xor 0x7 ∧ AluMemForm .shl 0x8 ∧ AluMemForm .shr 0x9 ∧ AluMemForm .sar 0xA ∧ AluMemForm .mul 0xB
  ∧ AluMemForm .mulhs 0xC ∧ AluMemForm .mulhu 0xD ∧ AluMemForm .min 0xE ∧ AluMemForm .max 0xF
  ∧ LongForm .div 0x70 (fun a b => if b = 0 then 0xFFFFFFFF else BitVec.ofInt 32 (a.toInt.tdiv b.toInt))
  ∧ LongForm .divu 0x71 (fun a b => if b = 0 then 0xFFFFFFFF else BitVec.ofNat 32 (a.toNat / b.toNat))
  ∧ LongForm .rem 0x72 (fun a b => if b = 0 then a else BitVec.ofInt 32 (a.toInt.tmod b.toInt))
  ∧ LongForm .remu 0x73 (fun a b => if b = 0 then a else BitVec.ofNat 32 (a.toNat % b.toNat))
  ∧ LongForm .isqrt 0x74 (fun _ b => BitVec.ofNat 32 (Nat.sqrt b.toNat))

/-- The effective address of an M-slot operation (R114, R119). -/
def Sys2Proof.mAddr (c : Core) (o : CpOp) : Word :=
  (if ofld o.opnd.toNat 12 1 = 1 then c.agv.ix1 else c.agv.ix0) + o.ext.getD (w32 (ofld o.opnd.toNat 0 12))

/-- The update of the base register by UPD, sub bit 0 (R119). -/
def Sys2Proof.baseTakes (t : State) (o : CpOp) (x : Word) : State :=
  if o.sub.toNat % 2 = 1 then t.modCore o.core.val (fun c => { c with f := c.f.set (1 + ofld o.opnd.toNat 12 1) x }) else t

/-- R88, R119: LD requests its bytes and ST hands its bytes to the store buffer, both with the base update that UPD asks for; LEA writes EA and accesses
nothing. The address is the one of state u, before the update. A store needs a free entry, or has the oldest one, which waits for a vault, written first. Where the
rules leave a choice, it is the model's: LEA and the base update take the registers as read in AG (log entry 62), and a store that finds both entries waiting makes
the oldest write first (log entry 55). -/
def Obligations.LoadStoreAddress : Prop :=
  (∀ (o : CpOp) (s u : State), Takes s o 1 o.sub.toNat u →
    exec (.ld o) s = .next ((baseTakes (requests u o.core.val (o.cw 1 o.sub.toNat) (2 ^ (o.sub.toNat / 4 % 4)) (mAddr (u.core o.core.val) o)
        (.load (ofld o.opnd.toNat 13 3) (o.sub.toNat / 4 % 4) (o.sub.toNat / 2 % 2 == 1))) o (mAddr (u.core o.core.val) o)).finish o 1 o.sub.toNat))
  ∧ (∀ (o : CpOp) (s u : State), Takes s o 1 (0x20 + o.sub.toNat) u →
    exec (.lea o) s = .next ((u.modCore o.core.val (fun c => { c with f := c.f.set (ofld o.opnd.toNat 13 3) (mAddr c o) })).finish o 1
        (0x20 + o.sub.toNat)))
  ∧ (∀ (o : CpOp) (s u : State), Takes s o 1 (0x10 + o.sub.toNat) u →
    ((u.core o.core.val).sbuf.length < 2 ∨ ∃ cells l, (u.core o.core.val).sbuf = .bytes cells :: l) →
    exec (.st o) s = .next ((baseTakes (u.narrowStore o.core.val (mAddr (u.core o.core.val) o).toNat (2 ^ (o.sub.toNat / 4 % 4))
        ((u.core o.core.val).agv.get (ofld o.opnd.toNat 13 3))) o (mAddr (u.core o.core.val) o)).finish o 1 (0x10 + o.sub.toNat)))

/-- R113: P0 reads 1 and writes to it are discarded, by CMP, PLOG and MTC; the control register PRED shows Pk in bit k and 0 in bits [31:8]. -/
def Obligations.PredicateZero : Prop :=
  (∀ x : Scal, x.p 0 = true ∧ (∀ b, x.setP 0 b = x) ∧ ∀ k < 8, ∀ b, k ≠ 0 → ∀ i < 8, (x.setP k b).p i = if i = k then b else x.p i)
  ∧ (∀ (o : CpOp) (s u : State), ofld o.opnd.toNat 10 3 = 0 → Takes s o 0 (0x40 + o.sub.toNat) u → exec (.cmp o) s = .next (u.finish o 0 (0x40 + o.sub.toNat)))
  ∧ (∀ (o : CpOp) (s u : State), ofld o.opnd.toNat 13 3 = 0 → Takes s o 0 0x50 u → exec (.plog o) s = .next (u.finish o 0 0x50))
  ∧ (∀ (o : CpOp) (s u : State), ofld o.opnd.toNat 9 4 = 1 → Takes s o 0 0x51 u → (u.core o.core.val).mtcs = [] → ∃ v : Word,
    exec (.mfc o) s = .next ((u.modCore o.core.val (fun c => { c with f := c.f.set (ofld o.opnd.toNat 13 3) v, mfcs := c.mfcs ++ [{ due := 5, ctl := 1, dst := ofld o.opnd.toNat 13 3, v := v }] })).finish o 0 0x51) ∧
      ∀ k < 32, v.getLsbD k = if k < 8 then (u.core o.core.val).wb.p k else false)
  ∧ (∀ (o : CpOp) (s u : State), ofld o.opnd.toNat 9 4 = 1 → Takes s o 0 0x52 u → ∃ x : Scal,
    exec (.mtc o) s = .next ((u.modCore o.core.val (fun c => { c with f := x })).finish o 0 0x52) ∧ x.p 0 = true ∧
      (∀ k, 0 < k → k < 8 → x.p k = ((u.core o.core.val).wb.get (ofld o.opnd.toNat 13 3)).getLsbD k) ∧
      ({ x with pred := (u.core o.core.val).f.pred } : Scal) = (u.core o.core.val).f)

/-! ### Bundles, control transfer, repeats -/

/-- The bundle in issue at core n, with ops b, is a plain one at its end: not repeated by RPT, not in a delay slot, holding no delayed branch, no store waiting, and
not the last bundle of a LOOP or of an active repeat level. -/
def Sys2Proof.PlainEnd (s : State) (n : Nat) (b : List CpWord) : Prop :=
  (s.core n).rpt = none ∧ (s.core n).slots = none ∧ (s.core n).sbuf = [] ∧ b.any CpWord.isDelayed = false ∧ (s.core n).loopEnd (s.core n).pc = false ∧
    s.levelEnds n (s.core n).pc = []

/-- The registers that the end of bundle b at core n writes (R104, R138): CP_PC takes its address, and VSTART is 0 after an operation on elements. -/
def Sys2Proof.endRegs (s : State) (n : Nat) (b : List CpWord) : State :=
  (if b.any (fun w => w.onElements && (s.core n).passes w) then s.setReg (Reg.VU_VSTART n) 0 else s).setReg (Reg.CP_PC n) (s.core n).pc

/-- What the record of the vector registers takes of operation w (R138, R142): an operation that reads and writes beat by beat and whose guard passes. -/
def Sys2Proof.recorded (s : State) (n : Nat) (w : CpWord) : List (Nat × VEvt) :=
  if (w.slot = 2 ∨ w.slot = 3) ∧ (w.opc < 0x38 ∨ w.opc = 0x40) ∧ (s.core n).passes w = true then [(0, .op w (sewBits (s.sew n)) (s.vstart n) (s.vl n))] else []

/-- R78, R79, R91, R105: an operation that is not the last of its bundle only moves the bundle on, and is recorded when it works beat by beat. The last one of a plain bundle lets its cycles pass and issue goes on
at the next bundle; with a taken branch it goes on at the target three cycles later. A target outside LBEG to LEND clears SR.LACT, and one outside the body of an
active repeat level leaves that level. Where the rules leave a choice, it is the model's: a handler, with ILVL below 32, leaves no level (log entry 60). -/
def Obligations.BundleProgress : Prop :=
  (∀ (s : State) (n : Nat) (w : CpWord) (l : List CpWord), l ≠ [] →
    s.opDone n w l = s.modCore n (fun c => { c with part := c.part ++ [w], todo := l, vlog := c.vlog ++ recorded s n w }))
  ∧ (∀ (s : State) (n : Nat) (w : CpWord), PlainEnd s n ((s.core n).part ++ [w]) → (s.core n).ctl = .none →
    s.opDone n w [] = (endRegs s n ((s.core n).part ++ [w])).modCore n (fun _ =>
      { ({ s.core n with part := (s.core n).part ++ [w], todo := [], aper := [], vlog := (s.core n).vlog ++ recorded s n w }).mfcSeen.cycles with
          pc := putFld ((s.core n).pc + w32 (4 * bundleLen ((s.core n).part ++ [w]))) 0 2 0, part := [], todo := [], ctl := .none, rpt := none, bnd := false,
          first := 0 }))
  ∧ (∀ (s : State) (n : Nat) (w : CpWord) (x : Word), PlainEnd s n ((s.core n).part ++ [w]) → (s.core n).ctl = .branch x false →
    let u := endRegs s n ((s.core n).part ++ [w])
    let sr := if (s.core n).lbeg.toNat ≤ x.toNat ∧ x.toNat ≤ (s.core n).lend.toNat then (s.core n).sr else putBit (s.core n).sr 6 false
    ∃ t : State, s.opDone n w [] = t.modCore n (fun _ =>
        ({ ({ s.core n with part := (s.core n).part ++ [w], todo := [], aper := [], sr := sr, vlog := (s.core n).vlog ++ recorded s n w }).mfcSeen.cycles with
            pc := putFld x 0 2 0, part := [], todo := [], ctl := .none, rpt := none, bnd := false, first := 0, groups := [] }).passLate 3) ∧
      { t with regs := u.regs } = u ∧
      ∀ a, t.reg a = if n < 32 ∧ (s.core n).ilvl = 32 ∧ a = Reg.MAC_RCTL n
        then (List.range 3).foldl (fun v l => if s.inBody n l x then v else putBit v l false) (s.reg a) else u.reg a)

/-- The target of BR, BR.D, BRL and BRL.D (R120): the extension word, or the bundle's address plus four times the signed offset. -/
def Sys2Proof.brTo (c : Core) (o : CpOp) : Word := o.ext.getD (c.pc + (sext 16 o.opnd.toNat <<< 2))

/-- A branch to x, its bits [1:0] ignored, is taken when the bundle ends; slots says that its delay slots issue first. -/
def Sys2Proof.goes (u : State) (n : Nat) (x : Word) (slots : Bool) : State := u.modCore n (fun c => { c with ctl := .branch (putFld x 0 2 0) slots })

/-- R92, R120: the six branches name their targets; BRL writes LR with the next bundle's address, BRL.D with that of the bundle after the second slot, unless a slot
never issues. Where the rules leave a choice, it is the model's: BRL.D takes the address from the code in memory, it is corrected when the second slot has issued, and
bits [1:0] of an extension word are ignored (log entry 60). -/
def Obligations.Branches : Prop :=
  (∀ (o : CpOp) (s u : State), Takes s o 0 0x60 u →
    exec (.br o) s = .next ((goes u o.core.val (brTo (u.core o.core.val) o) false).finish o 0 0x60))
  ∧ (∀ (o : CpOp) (s u : State), Takes s o 0 0x61 u →
    exec (.brD o) s = .next ((goes u o.core.val (brTo (u.core o.core.val) o) true).finish o 0 0x61))
  ∧ (∀ (o : CpOp) (s u : State), Takes s o 0 0x62 u →
    exec (.brl o) s = .next ((goes (u.modCore o.core.val (fun c => { c with f := { c.f with lr := c.pc + w32 (4 * bundleLen c.todo) } })) o.core.val
      (brTo (u.core o.core.val) o) false).finish o 0 0x62))
  ∧ (∀ (o : CpOp) (s u : State), Takes s o 0 0x63 u →
    exec (.brlD o) s = .next ((goes (u.modCore o.core.val (fun c =>
      let x := u.codeNext o.core.val (u.codeNext o.core.val (c.pc + w32 (4 * bundleLen c.todo)))
      { c with f := { c.f with lr := x }, lrDue := some { val := x, old := c.f.lr, age := 0, due := none, made := false } })) o.core.val (brTo (u.core o.core.val) o) true).finish o 0 0x63))
  ∧ (∀ (c : Core) (d : LrDue), c.lrDue = some d → c.f.lr = d.val →
    (∀ x, (c.patchLr x).f = { c.f with lr := x } ∧ (c.patchLr x).lrDue = none) ∧ (d.made = false → c.kill.f = { c.f with lr := d.old }))
  ∧ (∀ (o : CpOp) (s u : State), Takes s o 0 0x64 u →
    exec (.bri o) s = .next ((goes u o.core.val ((u.core o.core.val).isv.get (ofld o.opnd.toNat 13 3)) false).finish o 0 0x64))
  ∧ (∀ (o : CpOp) (s u : State), Takes s o 0 0x65 u →
    exec (.briD o) s = .next ((goes u o.core.val ((u.core o.core.val).isv.get (ofld o.opnd.toNat 13 3)) true).finish o 0 0x65))
  ∧ (∀ (o : CpOp) (s u : State), Takes s o 0 0x6D u → exec (.nop o) s = .next (u.finish o 0 0x6D))

/-- R95, R100, R102, R121: RETI, RETN and END act when their bundle ends. RETI pops PC and SR and returns to IDLE where the saved PC carries the IDLE mark; RETN restores
both from CP_NPC and CP_NSR and ends the NMI handler; END without TC leaves the CP IDLE, with LACT clear and no level active. -/
def Obligations.ReturnsAndEnd : Prop :=
  (∀ (o : CpOp) (s u : State), Takes s o 0 0x66 u →
    exec (.reti o) s = .next ((u.modCore o.core.val (fun c => { c with ctl := .reti })).finish o 0 0x66))
  ∧ (∀ (o : CpOp) (s u : State), Takes s o 0 0x67 u →
    exec (.retn o) s = .next ((u.modCore o.core.val (fun c => { c with ctl := .retn })).finish o 0 0x67))
  ∧ (∀ (o : CpOp) (s u : State), Takes s o 0 0x68 u →
    exec (.endEntry o) s = .next ((u.modCore o.core.val (fun c => { c with ctl := .stop (o.opnd.toNat % 2 == 1) })).finish o 0 0x68))
  ∧ (∀ (c : Core) (pc sr : Word) (rest : List (Word × Word)), c.stack = (pc, sr) :: rest →
    c.reti.pc = putFld pc 0 2 0 ∧ c.reti.sr = sr ∧ c.reti.stack = rest ∧ c.reti.st = (if bitOf pc 0 then 0 else 1) ∧ c.reti.part = [] ∧ c.reti.loads = [])
  ∧ (∀ (s : State) (n : Nat), ∃ d : Core, s.retn n = s.setCore n d ∧ d.pc = putFld (s.reg (Reg.CP_NPC n)) 0 2 0 ∧ d.sr = srWrite (s.reg (Reg.CP_NSR n)) ∧
      d.nmiAct = false ∧ d.st = (if bitOf (s.reg (Reg.CP_NPC n)) 0 then 0 else 1) ∧ d.stack = (s.core n).stack)
  ∧ (∀ (s : State) (n : Nat), n < 32 → ∃ d : Core, s.endProgram n false = (s.setCore n d).setReg (Reg.MAC_RCTL n) 0 ∧ d.st = 0 ∧ d.lact = false ∧
      d.part = [] ∧ d.queue = (s.core n).queue ∧ d.stack = (s.core n).stack)

/-- The state in which RPT, opening a bundle whose guard passes, takes its count. -/
structure Sys2Proof.RptTakes (s : State) (o : CpOp) (opc : Nat) (u : State) : Prop where
  runs : (s.core o.core.val).st = 1
  place : (s.core o.core.val).part = []
  first : o.before = []
  opened : s.bundleStart o.core.val (o.bundle 0 opc) = (true, u)
  guard : (u.core o.core.val).passes (o.cw 0 opc) = true

/-- What RPT and RPT.C do with a count k (R123): the operations behind it stand to issue k times; with a count of 0, when they do not execute, or none behind it, the bundle is done. -/
def Sys2Proof.repeats (u : State) (o : CpOp) (opc k : Nat) : State :=
  if k = 0 ∨ o.after = [] then
    (u.modCore o.core.val (fun c => { c with extra := k - 1, part := o.cw 0 opc :: o.after, todo := [] })).issueNext o.core.val (o.cw 0 opc :: o.after)
  else u.modCore o.core.val (fun c => { c with part := [o.cw 0 opc], todo := o.after, rpt := some k })

/-- LOOP and LOOP.C (R124): LBEG, LEND, LN and LACT; with a count of 0 the body is skipped. -/
def Sys2Proof.loops (u : State) (o : CpOp) (cnt : BitVec 16) : State :=
  let c := u.core o.core.val
  let e := c.pc + w32 (4 * o.opnd.toNat)
  let t := u.setCore o.core.val { c with lbeg := c.pc + w32 (4 * bundleLen c.todo), lend := e, ln := cnt, sr := putBit c.sr 6 true }
  if cnt = 0 then goes t o.core.val (t.codeNext o.core.val e) false else t

/-- R123, R124, R125: RPT and RPT.C repeat their bundle, LOOP and LOOP.C set up a loop, and the bundle at LEND goes back to LBEG while iterations remain. Where the rules leave a choice, it is the model's (log entries 14 and 90). -/
def Obligations.RepeatsAndLoops : Prop :=
  (∀ (o : CpOp) (s u : State), RptTakes s o 0x69 u → exec (.rpt o) s = .next (repeats u o 0x69 o.opnd.toNat))
  ∧ (∀ (o : CpOp) (s u : State), RptTakes s o 0x6E u → exec (.rptC o) s = .next (repeats u o 0x6E (u.core o.core.val).isv.cnt.toNat))
  ∧ (∀ (o : CpOp) (s u : State), Takes s o 0 0x6A u →
    exec (.loop o) s = .next ((loops u o ((o.ext.getD 0).setWidth 16)).finish o 0 0x6A))
  ∧ (∀ (o : CpOp) (s u : State), Takes s o 0 0x6B u →
    exec (.loopC o) s = .next ((loops u o (u.core o.core.val).isv.cnt).finish o 0 0x6B))
  ∧ (∀ (s : State) (n : Nat) (nxt : Word), (s.core n).loopEnd (s.core n).pc = true →
    (1 < (s.core n).ln.toNat → s.loopNext n nxt = ((s.core n).lbeg, s.modCore n (fun c => { c with ln := c.ln - 1 }))) ∧
    ((s.core n).ln = 1 → s.loopNext n nxt = (nxt, s.modCore n (fun c => { c with ln := 0, sr := putBit c.sr 6 false }))))

/-- Where a string operation of cnt elements starts (R127): the registers as read in AG. -/
def Sys2Proof.stringStart (c : Core) : StrSt :=
  { x0 := c.agv.ix0, x1 := c.agv.ix1, left := c.agv.cnt.toNat, src := 0, addr := 0, hit := false, hold := false, late := [] }

/-- The run of at most k elements of a string operation of kind, operation o, in state u: its registers at the end and the state, the last writes of MOVS made. -/
def Sys2Proof.stringRuns (u : State) (o : CpOp) (kind k : Nat) : StrSt × State :=
  let c := u.core o.core.val
  let r := u.strRun o.core.val kind (2 ^ (o.sub.toNat % 4)) (ofld o.opnd.toNat 15 1 == 1) c.agv.acc k (stringStart c)
  (r.1, r.1.late.foldl (fun t p => t.elemStore o.core.val (2 ^ (o.sub.toNat % 4)) p.1 p.2) r.2)

/-- The state after a string operation has lost k cycles (R104, R173): CP_STALL counts them, and which request in the vault lost them is open (log entry 6). -/
def Sys2Proof.stringLoses (t : State) (n k : Nat) : State :=
  if k = 0 then t else if n = 32 then t.bump (Reg.CP_STALL n) k else (t.bump (Reg.CP_STALL n) k).openConf n 6

/-- Cycles from the issue of a string operation to the boundary behind its e-th element (R127 to R129). -/
def Sys2Proof.stringEnd (kind e : Nat) : Nat :=
  match kind with
  | 1 => 1 + e
  | 2 => 7 + e
  | _ => 7 + 2 * e

/-- The state after a string operation of cnt elements that stops between elements with lost cycles (R97, R129): the cycles up to the boundary have passed, the registers
say what is left, and its bundle stands to issue again. -/
def Sys2Proof.stringStops (u : State) (n kind cnt lost : Nat) (r : StrSt × State) : State :=
  ((stringLoses r.2 n lost).modCore n (fun d =>
    let e := (d.ticks (stringEnd kind (cnt - r.1.left) + lost - 1)).slotEnd
    { e.kill.strWrite kind r.1 none with groups := d.groups, lateC := e.lateC })).setReg (Reg.CP_PC n) (u.core n).pc

/-- What a string operation of kind does (R97, R127 to R129) where REPS stands before it with its guard passing, and no element faults or waits. With CNT
other than 0 and no interrupt, NMI or halt that waits at its first element or comes before its last, its elements are done, and after the cycles of its count, those
lost to arbitration with them, IX0, IX1, CNT and, for SCANS and CMPS, Pd are written in every stage's view. One that waits finds the operation after its
first element, and one that comes at element k after that; the cycles lost by then count as well. With CNT 0 nothing changes but Pd, which SCANS and CMPS write 0. -/
def Sys2Proof.StringForm (i : CpOp → Instr) (kind : Nat) : Prop :=
  ∀ (o : CpOp) (s u : State) (rw : CpWord), Takes s o 1 (0x30 + kind + 4 * (o.sub.toNat % 4)) u → (u.core o.core.val).part = [rw] →
    (u.core o.core.val).passes rw = true →
    let n := o.core.val
    let cnt := (u.core n).agv.cnt.toNat
    (cnt ≠ 0 → u.strStops n = false → (∀ k, o.upTo = some k → cnt ≤ k) →
      let r := stringRuns u o kind cnt
      r.1.src = 0 → r.1.hold = false → (r.2.core n).todo ≠ [] →
      exec (i o) s = .next (((stringLoses r.2 n o.lost).modCore n (fun c =>
        (c.pass (strCount kind cnt r.1.left r.1.hit + o.lost - 1)).strWrite kind r.1
          (if 2 ≤ kind then some (ofld rw.opnd 13 3, r.1.hit) else none))).finish o 1 (0x30 + kind + 4 * (o.sub.toNat % 4))))
    ∧ (∀ k, 0 < k → k < cnt → (u.strStops n = true ∧ k = 1 ∨ u.strStops n = false ∧ o.upTo = some k) →
      let r := stringRuns u o kind k
      r.1.src = 0 → r.1.hold = false → r.1.hit = false → exec (i o) s = .next (stringStops u n kind cnt o.lost r))
    ∧ (cnt = 0 → kind < 2 → exec (i o) s = .next (u.finish o 1 (0x30 + kind + 4 * (o.sub.toNat % 4))))
    ∧ (cnt = 0 → 2 ≤ kind → exec (i o) s = .next ((u.modCore n (fun c =>
        let k := ofld rw.opnd 13 3
        { c with f := c.f.setP k false, h1 := c.h1.setP k false, h2 := c.h2.setP k false, h3 := c.h3.setP k false, h4 := c.h4.setP k false })).finish o 1
          (0x30 + kind + 4 * (o.sub.toNat % 4))))

/-- An element address: bits below the element size are taken as 0 (R127). -/
def Sys2Proof.elemAddr (size : Nat) (x : Word) : Word := x &&& ~~~(w32 (size - 1))

/-- The low size bytes of a word, zero-extended. -/
def Sys2Proof.lowBytes (size : Nat) (x : Word) : Word := w32 (x.toNat % 2 ^ (8 * size))

/-- R127, R128: REPS adds nothing of its own, and MOVS, FILLS, SCANS and CMPS run their elements and write their registers. On a spire, one element of FILLS stores the low bytes of ACC at IX1;
one of SCANS, whose read is good, hits when the element equals ACC, or differs under NE, and
otherwise moves IX0 on; one of CMPS hits where the two elements differ. FILLS leaves IX0 as it is, and SCANS IX1. An element whose check fails changes nothing and names its fault and address. Where the rules leave a choice, it is the model's (log entries 61 and 65). -/
def Obligations.StringElements : Prop :=
  (∀ (o : CpOp) (s u : State), Takes s o 0 0x6C u → exec (.reps o) s = .next (u.finish o 0 0x6C))
  ∧ (∀ (c : Core) (kind : Nat) (r : StrSt), (c.strWrite kind r none).f =
    { c.f with ix0 := if kind = 1 then c.f.ix0 else r.x0, ix1 := if kind = 2 then c.f.ix1 else r.x1, cnt := BitVec.ofNat 16 r.left })
  ∧ StringForm .movs 0 ∧ StringForm .fills 1 ∧ StringForm .scans 2 ∧ StringForm .cmps 3
  ∧ (∀ (s : State) (n size : Nat) (ne : Bool) (acc : Word) (r : StrSt), n < 32 → s.partsFault n 1 [((elemAddr size r.x1).toNat, size)] = 0 →
    s.strElem n 1 size ne acc r = ({ r with x1 := r.x1 + w32 size, left := r.left - 1 }, (s.strAsked n).elemStore n size (elemAddr size r.x1) acc))
  ∧ (∀ (s : State) (n size : Nat) (ne : Bool) (acc : Word) (r : StrSt), n < 32 → s.partsFault n 0 [((elemAddr size r.x0).toNat, size)] = 0 →
    (s.narrowRead n (elemAddr size r.x0).toNat size).2.1 = false →
    s.strElem n 2 size ne acc r =
      (if (lowBytes size (s.narrowRead n (elemAddr size r.x0).toNat size).1 == lowBytes size acc) != ne
        then ({ r with hit := true }, (s.narrowRead n (elemAddr size r.x0).toNat size).2.2)
        else ({ r with x0 := r.x0 + w32 size, left := r.left - 1 }, (s.narrowRead n (elemAddr size r.x0).toNat size).2.2.strAsked n)))
  ∧ (∀ (s : State) (n size : Nat) (ne : Bool) (acc : Word) (r : StrSt), n < 32 → s.partsFault n 0 [((elemAddr size r.x0).toNat, size)] = 0 →
    s.partsFault n 0 [((elemAddr size r.x1).toNat, size)] = 0 → (s.narrowRead n (elemAddr size r.x0).toNat size).2.1 = false →
    ((s.narrowRead n (elemAddr size r.x0).toNat size).2.2.narrowRead n (elemAddr size r.x1).toNat size).2.1 = false →
    (s.strElem n 3 size ne acc r).1 =
      if lowBytes size (s.narrowRead n (elemAddr size r.x0).toNat size).1 =
          lowBytes size ((s.narrowRead n (elemAddr size r.x0).toNat size).2.2.narrowRead n (elemAddr size r.x1).toNat size).1
      then { r with x0 := r.x0 + w32 size, x1 := r.x1 + w32 size, left := r.left - 1 } else { r with hit := true })
  ∧ (∀ (s : State) (n kind size f : Nat) (ne : Bool) (acc : Word) (r : StrSt), kind = 1 ∨ kind = 2 → f ≠ 0 →
    s.partsFault n (if kind = 1 then 1 else 0) [((elemAddr size (if kind = 1 then r.x1 else r.x0)).toNat, size)] = f →
    s.strElem n kind size ne acc r = ({ r with src := f, addr := elemAddr size (if kind = 1 then r.x1 else r.x0) }, s))

/-! ### Operations of the E slot -/

/-- The amount of EVSEND and EVSENDI (R130). -/
def Sys2Proof.amount (c : Core) (o : CpOp) : Nat :=
  match ofld o.opnd.toNat 0 2 with
  | 0 => 1
  | 1 => c.agv.acc.toNat % 2 ^ 16
  | _ => (o.ext.getD 0).toNat % 2 ^ 16

/-- An increment of counter k of spire t by core n (R130, R131, R307): at home, or towards the mesh when t is another spire of the grid; dropped, counted and reported as
code 0x81 when t is outside the grid. -/
def Sys2Proof.sendsEvent (u : State) (n t k amt : Nat) : State :=
  if u.inGrid t then u.sendInc (cpNode n) t k amt
  else if n < 32 then ((u.bump (Reg.EVT_DROP n)).err (spirePage n 12) 0x81 t k).raise (spirePage n 12) 1
  else u

/-- R130, R131: EVSEND names spire and counter in OPND, EVSENDI in IX1.
Where the rules leave a choice, it is the model's: an event of the Keep to a place outside the grid is dropped without a capture (log entry 57), and log entry 95. -/
def Obligations.EventSends : Prop :=
  (∀ (o : CpOp) (s u : State), Takes s o 5 0x00 u →
    exec (.evsend o) s = .next ((sendsEvent u o.core.val (ofld o.opnd.toNat 11 5) (ofld o.opnd.toNat 2 9) (amount (u.core o.core.val) o)).finish o 5 0x00))
  ∧ (∀ (o : CpOp) (s u : State), Takes s o 5 0x01 u →
    exec (.evsendi o) s = .next ((sendsEvent u o.core.val (bitsOf (u.core o.core.val).agv.ix1 9 5) (bitsOf (u.core o.core.val).agv.ix1 0 9)
      (amount (u.core o.core.val) o)).finish o 5 0x01))
  ∧ (∀ (s : State) (n k amt : Nat), n < 32 → s.sendInc n n k amt = s.evtAdd n k amt)
  ∧ (∀ (s : State) (n k : Nat) (amt : Nat), s.evtAdd n k amt = (s.setReg (evtReg n k) (s.reg (evtReg n k) + w32 amt)).watches n)

/-- The condition of a wait (R132): the counter has reached the value under EVWAIT, device time has reached the tick start plus the offset under TWAIT.R, or IX1 and IX0 under TWAIT.A. -/
def Sys2Proof.waitHolds (s : State) (n : Nat) (w : CpWord) : Prop :=
  if w.opc = 2 then
    (s.reg (evtReg n (ofld w.opnd 7 9)) - (match ofld w.opnd 5 2 with
      | 0 => w.ext.getD 0
      | 1 => (s.core n).isv.acc
      | _ => (s.core n).isv.cnt.setWidth 32)).toNat < 2 ^ 31
  else if w.opc = 3 then
    s.tb.tickStart.toNat + (if ofld w.opnd 0 2 = 0 then (w.ext.getD 0).toNat else (s.core n).isv.acc.toNat) ≤ s.tb.now.toNat
  else (s.core n).isv.ix1.toNat * 2 ^ 32 + (s.core n).isv.ix0.toNat ≤ s.tb.now.toNat

/-- R132: a waiting bundle with opened guard issues when it takes place, with no effect of its own; EVWAIT_RELEASE and TWAIT_RELEASE release the waiting operation
whose condition holds, and otherwise a waiting cycle passes and nothing else changes. Where the rules leave a choice, it is the model's (log entry 54). -/
def Obligations.Waits : Prop :=
  (∀ (o : CpOp) (s u : State), Takes s o 5 0x02 u → exec (.evwait o) s = .next (u.finish o 5 0x02))
  ∧ (∀ (o : CpOp) (s u : State), Takes s o 5 0x03 u → exec (.twaitR o) s = .next (u.finish o 5 0x03))
  ∧ (∀ (o : CpOp) (s u : State), Takes s o 5 0x04 u → exec (.twaitA o) s = .next (u.finish o 5 0x04))
  ∧ (∀ (n : Spire) (s : State) (w : CpWord), let t := s.modCore n.val Core.slotStart
      (t.core n.val).wait.find? (fun w => w.slot == 5 && w.opc == 2 && (t.core n.val).passes w) = some w →
      (waitHolds t n.val w → exec (.evwaitRelease ⟨n.val, by omega⟩) s = .next (t.modCore n.val (fun c => { c with go := true })))
      ∧ (¬ waitHolds t n.val w → exec (.evwaitRelease ⟨n.val, by omega⟩) s = .next (t.modCore n.val Core.slotEnd)))
  ∧ (∀ (n : CpId) (s : State) (w : CpWord), let t := s.modCore n.val Core.slotStart
      (t.core n.val).wait.find? (fun w => w.slot == 5 && (w.opc == 3 || w.opc == 4) && (t.core n.val).passes w) = some w →
      (waitHolds t n.val w → exec (.twaitRelease n) s = .next (t.modCore n.val (fun c => { c with go := true })))
      ∧ (¬ waitHolds t n.val w → exec (.twaitRelease n) s = .next (t.modCore n.val Core.slotEnd)))

/-- The 16 bytes of a fire record at EA, read word by word on the narrow port (R133): bytes, whether one is poisoned, and the state after the reads. -/
def Sys2Proof.recordRead (u : State) (n a : Nat) : List Byte × Bool × State :=
  (List.range 4).foldl (fun (x : List Byte × Bool × State) i =>
    let r := x.2.2.narrowRead n ((a + 4 * i) % 2 ^ 32) 4
    (x.1 ++ leBytes r.1.toNat 4, x.2.1 || r.2.1, r.2.2)) ([], false, u)

/-- EA of an E-slot memory operation (R114, R133, R201). -/
def Sys2Proof.eAddr (c : Core) (o : CpOp) : Nat :=
  ((if ofld o.opnd.toNat 12 1 = 1 then c.agv.ix1 else c.agv.ix0) + o.ext.getD (w32 (ofld o.opnd.toNat 0 12))).toNat

/-- R133: FIRE reads the record at EA; when it has returned it goes to the TIO (node 43) as one posted write of 16 bytes, or, poisoned, nothing is sent and
POISON (source 3) is found. Where the rules leave a choice, it is the model's: no rule gives the address that the posted write carries (log entry 51). -/
def Obligations.FireRecords : Prop :=
  (∀ (o : CpOp) (s u : State), Takes s o 5 0x05 u →
    let a := eAddr (u.core o.core.val) o / 16 * 16
    let r := recordRead u o.core.val a
    (r.2.2.core o.core.val).todo ≠ [] →
    exec (.fire o) s = .next ((r.2.2.modCore o.core.val (fun c => { c with fires := c.fires ++
      [{ data := r.1, pois := r.2.1, pc := (u.core o.core.val).pc, addr := w32 a }] })).finish o 5 0x05))
  ∧ (∀ (n : CpId) (s : State) (r : PendRec) (t : List PendRec), (s.core n.val).fires = r :: t → r.pois = false →
    exec (.fireRecordSend n) s = .next ((s.modCore n.val (fun c => { c with fires := t })).post (cpNode n.val) 43
      (.pw (cellsAt 0x030000000000 r.data) [] none false .plain)))
  ∧ (∀ (n : CpId) (s : State) (r : PendRec) (t : List PendRec), (s.core n.val).fires = r :: t → r.pois = true →
    exec (.fireRecordSend n) s = .next (s.modCore n.val (fun c => { c with fires := t, late := c.late ++ [{ src := 3, pc := r.pc, addr := r.addr, elem := 0, slots := 0 }] })))

/-- R201: DSUB reads the 32 bytes of a descriptor at EA; when they return, a copy of its eight words enters the dome queue, or POISON is found; DWAIT issues when it takes
place and has no effect of its own. Where the rules leave a choice, it is the model's (log entry 54). -/
def Obligations.DescriptorSubmission : Prop :=
  (∀ (o : CpOp) (s u : State) (p : Nat), Takes s o 5 0x40 u →
    u.localPart o.core.val (eAddr (u.core o.core.val) o / 32 * 32) 32 0 = .mem p →
    exec (.dsub o) s = .next (((u.blockRead p 32 1).2.2.modCore o.core.val (fun c => { c with dsubs := c.dsubs ++
      [{ data := u.bytes p 32, pois := !(u.blockRead p 32 1).2.1.isEmpty, pc := (u.core o.core.val).pc
         addr := w32 (eAddr (u.core o.core.val) o / 32 * 32) }] })).finish o 5 0x40))
  ∧ (∀ (o : CpOp) (s u : State), Takes s o 5 0x41 u → exec (.dwait o) s = .next (u.finish o 5 0x41))
  ∧ (∀ (n : Spire) (s : State) (r : PendRec) (t : List PendRec), (s.core n.val).dsubs = r :: t → r.pois = false →
    exec (.descriptorEnqueue n) s = .next ((s.modCore n.val (fun c => { c with dsubs := t })).modDome n.val (fun d => { d with queue := d.queue ++
      [(List.range 8).map (fun k => leNum ((r.data.drop (4 * k)).take 4))] })))
  ∧ (∀ (n : Spire) (s : State) (r : PendRec) (t : List PendRec), (s.core n.val).dsubs = r :: t → r.pois = true →
    exec (.descriptorEnqueue n) s = .next (s.modCore n.val (fun c => { c with dsubs := t, late := c.late ++ [{ src := 3, pc := r.pc, addr := r.addr, elem := 0, slots := 0 }] })))

/-- R280, R281, R284: STARM, STREL and STSTOP act on the stream that OPND[15:14] names, as the operations of a stream do; an arm gives the stream its credits and reads its first two index blocks.
Where the rules leave a choice, it is the model's (log entry 20). -/
def Obligations.StreamOperations : Prop :=
  (∀ (o : CpOp) (s u : State), Takes s o 5 0x20 u → ((u.streamArm o.core.val (ofld o.opnd.toNat 14 2) (u.core o.core.val).agv.acc).core o.core.val).todo ≠ [] →
    exec (.starm o) s = .next ((u.streamArm o.core.val (ofld o.opnd.toNat 14 2) (u.core o.core.val).agv.acc).finish o 5 0x20))
  ∧ (∀ (o : CpOp) (s u : State), Takes s o 5 0x21 u →
    (u.strm o.core.val (ofld o.opnd.toNat 14 2)).released < (u.reg (Reg.STR_READY o.core.val (ofld o.opnd.toNat 14 2))).toNat →
    u.fld (Reg.STR_STAT o.core.val (ofld o.opnd.toNat 14 2)) 18 9 ≠ 0 →
    let n := o.core.val
    let st := ofld o.opnd.toNat 14 2
    let a := Reg.STR_STAT n st
    let h := Reg.STR_HEAD n st
    exec (.strel o) s = .next ((((((u.setFld a 18 9 (u.fld a 18 9 - 1)).setFld a 9 9 (u.fld a 9 9 + 1)).setFld h 0 8 ((u.fld h 0 8 + 1) % u.strNslot n st)).setStrm n st
      { u.strm n st with released := (u.strm n st).released + 1 })).finish o 5 0x21))
  ∧ (∀ (o : CpOp) (s u : State), Takes s o 5 0x22 u → u.strBusy o.core.val (ofld o.opnd.toNat 14 2) = true →
    (u.strm o.core.val (ofld o.opnd.toNat 14 2)).rows ≠ [] →
    let n := o.core.val
    let st := ofld o.opnd.toNat 14 2
    exec (.ststop o) s = .next ((u.setStrm n st { u.strm n st with ending := some ((u.strm n st).ending.getD 5) }).finish o 5 0x22))
  ∧ (∀ (s : State) (n st : Nat) (count : Word), s.strBusy n st = false → let k := if count = 0 then (s.reg (Reg.STR_COUNT n st)).toNat else count.toNat
    k ≠ 0 → s.armReason n st k = 0 → let t := (((s.setReg (Reg.STR_STAT n st) (putBit (putFld (putFld (s.reg (Reg.STR_STAT n st)) 9 9 (s.strNslot n st)) 18 9 0) 31 true)).setReg
      (Reg.STR_READY n st) 0).setReg (Reg.STR_HEAD n st) 0).setStrm n st { StreamSt.reset with count := k }
    s.streamArm n st count = (t.strIndexNext n st).strIndexNext n st)
  ∧ (∀ (s : State) (n st : Nat) (count : Word), s.strBusy n st = true → s.streamArm n st count = s.err (strPage n) 0x90 st 6)

/-! ### Operations of the vector unit -/

/-- v limited to the signed range of w bits, with the SAT record of a value outside it (R144). -/
def Sys2Proof.clampS (w : Nat) (v : Int) : Nat × VFlag :=
  ((max (-2 ^ (w - 1)) (min (2 ^ (w - 1) - 1) v) % 2 ^ w).toNat,
    { VFlag.none with sat := decide (v < -2 ^ (w - 1)) || decide ((2 : Int) ^ (w - 1) - 1 < v) })

/-- v limited to the unsigned range of w bits, with the SAT record of a value outside it (R144). -/
def Sys2Proof.clampU (w : Nat) (v : Int) : Nat × VFlag :=
  ((max 0 (min (2 ^ w - 1 : Int) v)).toNat, { VFlag.none with sat := decide (v < 0) || decide ((2 : Int) ^ w - 1 < v) })

/-- A result of w bits without a record. -/
def Sys2Proof.bare (w : Nat) (v : Int) : Nat × VFlag := ((v % 2 ^ w).toNat, VFlag.none)

/-- An element of ones or of zeros (R144). -/
def Sys2Proof.onesIf (w : Nat) (p : Bool) : Nat × VFlag := (if p then 2 ^ w - 1 else 0, VFlag.none)

/-- What an element operation of either vector slot does, its result on elements a, b and d of w bits being g w a b d (R138, R142, R144). -/
def Sys2Proof.VecForm (i : CpOp → Instr) (opc : Nat) (g : Nat → Nat → Nat → Nat → Nat × VFlag) : Prop :=
  ∀ (o : CpOp) (s u : State), Takes s o (vslot o) opc u →
    exec (i o) s = .next ((u.vmap o.core.val (o.cw (vslot o) opc) g).finish o (vslot o) opc)

/-- R144: results and saturation records of the integer element operations. -/
def Obligations.VectorIntegers : Prop :=
  VecForm .vadd 0x00 (fun w a b _ => bare w (a + b))
  ∧ VecForm .vsub 0x01 (fun w a b _ => bare w (a - b))
  ∧ VecForm .vadds 0x02 (fun w a b _ => clampS w (twos a w + twos b w))
  ∧ VecForm .vaddsu 0x03 (fun w a b _ => clampU w (a + b))
  ∧ VecForm .vsubs 0x04 (fun w a b _ => clampS w (twos a w - twos b w))
  ∧ VecForm .vsubsu 0x05 (fun w a b _ => clampU w (a - b))
  ∧ VecForm .vmul 0x06 (fun w a b _ => bare w (a * b))
  ∧ VecForm .vmulhs 0x07 (fun w a b _ => bare w (twos a w * twos b w / 2 ^ w))
  ∧ VecForm .vmulhu 0x08 (fun w a b _ => bare w (a * b / 2 ^ w))
  ∧ VecForm .vmin 0x09 (fun w a b _ => bare w (min (twos a w) (twos b w)))
  ∧ VecForm .vminu 0x0A (fun w a b _ => bare w (min (a : Int) b))
  ∧ VecForm .vmax 0x0B (fun w a b _ => bare w (max (twos a w) (twos b w)))
  ∧ VecForm .vmaxu 0x0C (fun w a b _ => bare w (max (a : Int) b))
  ∧ VecForm .vand 0x0D (fun _ a b _ => (a &&& b, VFlag.none))
  ∧ VecForm .vor 0x0E (fun _ a b _ => (a ||| b, VFlag.none))
  ∧ VecForm .vxor 0x0F (fun _ a b _ => (a ^^^ b, VFlag.none))
  ∧ VecForm .vshl 0x10 (fun w a b _ => bare w (a * 2 ^ (b % w)))
  ∧ VecForm .vshr 0x11 (fun w a b _ => bare w (a / 2 ^ (b % w)))
  ∧ VecForm .vsar 0x12 (fun w a b _ => bare w (twos a w / 2 ^ (b % w)))
  ∧ VecForm .vabsdu 0x13 (fun w a b _ => bare w |(a : Int) - b|)
  ∧ VecForm .vavgu 0x14 (fun w a b _ => bare w ((a + b + 1) / 2))
  ∧ VecForm .vcmpeq 0x18 (fun w a b _ => onesIf w (a == b))
  ∧ VecForm .vcmplt 0x19 (fun w a b _ => onesIf w (decide (twos a w < twos b w)))
  ∧ VecForm .vcmpltu 0x1A (fun w a b _ => onesIf w (decide (a < b)))
  ∧ VecForm .vsel 0x1B (fun w a b d => ((d &&& a) ||| ((2 ^ w - 1 - d) &&& b), VFlag.none))
  ∧ VecForm .vmacc 0x1C (fun w a b d => bare w (d + a * b))
  ∧ VecForm .vmv 0x40 (fun w _ b _ => bare w b)

/-- The sum of the four byte products of a dot product, its operand signs given, added to d (R145). -/
def Sys2Proof.dot4 (sa sb : Bool) (a b d : Nat) : Nat × VFlag :=
  let p := fun (k : Nat) => if sa then twos (a / 256 ^ k) 8 else ((a / 256 ^ k % 256 : Nat) : Int)
  let q := fun (k : Nat) => if sb then twos (b / 256 ^ k) 8 else ((b / 256 ^ k % 256 : Nat) : Int)
  bare 32 (d + (p 0 * q 0 + p 1 * q 1 + p 2 * q 2 + p 3 * q 3))

/-- What a widening operation does (R142, R145): the elements of the pair of VD take g of the operands and the old element, in parts of 512 bits. -/
def Sys2Proof.WideForm (i : CpOp → Instr) (opc : Nat) (g : Nat → Nat → Nat → Nat → Int) : Prop :=
  ∀ (o : CpOp) (s u : State), Takes s o (vslot o) opc u →
    exec (i o) s = .next ((u.vwiden o.core.val (o.cw (vslot o) opc) (fun w a b d => (g w a b d % 2 ^ (2 * w)).toNat)).finish o (vslot o) opc)

/-- R145, R146: widening products and sums, dot products, and VNSHR, which narrows the rounded elements of a register pair. Where the rules leave a choice, it is the
model's: with U = 1 VNSHR takes its source unsigned (log entry 62). -/
def Obligations.VectorWidths : Prop :=
  WideForm .vwmul 0x20 (fun w a b _ => twos a w * twos b w)
  ∧ WideForm .vwmulu 0x21 (fun _ a b _ => a * b)
  ∧ WideForm .vwmacc 0x22 (fun w a b d => d + twos a w * twos b w)
  ∧ WideForm .vwmaccu 0x23 (fun _ a b d => d + a * b)
  ∧ VecForm .vdot4 0x24 (fun _ a b d => dot4 true true a b d)
  ∧ VecForm .vdot4u 0x25 (fun _ a b d => dot4 false false a b d)
  ∧ VecForm .vdot4su 0x26 (fun _ a b d => dot4 true false a b d)
  ∧ (∀ (o : CpOp) (s u : State), Takes s o (vslot o) 0x28 u →
    let n := o.core.val
    let w := o.cw (vslot o) 0x28
    let sew := sewBits (u.sew n)
    let half := 2048 / (2 * sew)
    let res := fun (e : Nat) =>
      let x := velem ((u.core n).v (w.va + e / half)) (2 * sew) (e % half)
      if ofld o.opnd.toNat 0 1 = 1 then clampU sew (rneInt x (ofld o.opnd.toNat 1 5 % (2 * sew)))
      else clampS sew (rneInt (twos x (2 * sew)) (ofld o.opnd.toNat 1 5 % (2 * sew)))
    exec (.vnshr o) s = .next (((u.lateBeats n w (fun b => beatWrites w.vd sew (u.vstart n) (u.vl n) (fun e => (res e).1) b)).vflag n
      { VFlag.none with sat := (List.range (u.vl n)).any (fun e => u.vstart n ≤ e && (res e).2.sat) }).finish o (vslot o) 0x28))

/-- A value rounded once to binary32, with the exceptions of the rounding and the invalid exception nv (R147). -/
def Sys2Proof.rounded (v : FVal) (nv : Option Bool) : Nat × VFlag :=
  ((toF32 v).1.toNat, { sat := false, nv := nv, ov := some (toF32 v).2.ovf, uf := (toF32 v).2.unf })

/-- IEEE 754 invalid: an operand is a signaling NaN, or the operation makes a NaN from operands that are none. -/
def Sys2Proof.invalid (ops : List Nat) (v : FVal) : Bool :=
  ops.any (fun x => (f32 (w32 x)).isNan && !bitOf (w32 x) 22) || (v.isNan && ops.all (fun x => !(f32 (w32 x)).isNan))

/-- The larger or smaller of two binary32 operands under R147: of a NaN and a number the number, +0 above −0. -/
def Sys2Proof.ranked (up : Bool) (a b : Nat) : Nat × VFlag :=
  let x := f32 (w32 a)
  let y := f32 (w32 b)
  ((if x.isNan && y.isNan then qnan else if x.isNan then w32 b else if y.isNan then w32 a else if x.above y == up then w32 a else w32 b).toNat,
    { VFlag.none with nv := some ([a, b].any (fun x => (f32 (w32 x)).isNan && !bitOf (w32 x) 22)) })

/-- R147: the binary32 operations; a fused product and sum is rounded once. Where the rules leave a choice, it is the model's: a saturated VFCVT.I.F sets
SAT, and FNV, whose value the rules do not give there, is free (log entry 63). -/
def Obligations.VectorFloats : Prop :=
  VecForm .vfadd 0x30 (fun _ a b _ => rounded ((f32 (w32 a)).add (f32 (w32 b))) (some (invalid [a, b] ((f32 (w32 a)).add (f32 (w32 b))))))
  ∧ VecForm .vfsub 0x31 (fun _ a b _ => rounded ((f32 (w32 a)).sub (f32 (w32 b))) (some (invalid [a, b] ((f32 (w32 a)).sub (f32 (w32 b))))))
  ∧ VecForm .vfmul 0x32 (fun _ a b _ => rounded ((f32 (w32 a)).mul (f32 (w32 b))) (some (invalid [a, b] ((f32 (w32 a)).mul (f32 (w32 b))))))
  ∧ VecForm .vfma 0x33 (fun _ a b d =>
      let p := (f32 (w32 a)).mul (f32 (w32 b))
      let v := p.add (f32 (w32 d))
      rounded v (if [a, b, d].any (fun x => (f32 (w32 x)).isNan && !bitOf (w32 x) 22) then some true
        else if p.isNan && !(f32 (w32 a)).isNan && !(f32 (w32 b)).isNan && (f32 (w32 d)).isNan then none
        else some (invalid [a, b, d] v)))
  ∧ VecForm .vfmin 0x34 (fun _ a b _ => ranked false a b)
  ∧ VecForm .vfmax 0x35 (fun _ a b _ => ranked true a b)
  ∧ VecForm .vfcvtFI 0x36 (fun _ a _ _ => rounded (.fin (w32 a).msb (w32 a).toInt.natAbs 0) (some false))
  ∧ VecForm .vfcvtIF 0x37 (fun _ a _ _ =>
      match f32 (w32 a) with
      | .nan => (0, { VFlag.none with nv := some true })
      | .inf neg => (if neg then 0x80000000 else 0x7FFFFFFF, { VFlag.none with sat := true, nv := none })
      | .fin neg m e =>
        let r := clampS 32 (sInt neg (roundAt m e 0))
        (r.1, { r.2 with nv := if r.2.sat then none else some false }))

/-- A whole vector register takes x in one cycle (R137, R148). -/
def Sys2Proof.wholeV (c : Core) (r : Nat) (x : BitVec 2048) : Core :=
  { c with vregs := Tab.set (fun _ => 0) c.vregs r x, v1 := Tab.set (fun _ => 0) c.v1 r x, v2 := Tab.set (fun _ => 0) c.v2 r x
           v3 := Tab.set (fun _ => 0) c.v3 r x }

/-- R137, R138, R139, R142, R148: moves between scalar and vector registers, SETVL, and reads and writes of VL, VTYPE, VSTART and VU_FLAGS. VMVFX writes every beat of its
register in the cycle after its issue: an operation of slot V0 issued k bundles before it finds zeros in the beats from k on, and its own writes of the beats above k
come after it. Where the rules leave a choice, it is the model's: of two writes of slot V0 in one cycle that of the later bundle remains (log entry 90). -/
def Obligations.VectorControl : Prop :=
  (∀ (o : CpOp) (s u : State), Takes s o 2 0x41 u → let n := o.core.val
    exec (.vmvfx o) s = .next ((u.modCore n (fun c => c.fdNow (ofld o.opnd.toNat 11 5) (c.agv.get (ofld o.opnd.toNat 8 3)).toNat)).finish o 2 0x41))
  ∧ (∀ (c : Core) (r : Nat) (x : Word), let d := c.fdNow r x.toNat
    (c.vlog = [] → d = wholeV c r (x.setWidth 2048))
    ∧ ({ d with vregs := c.vregs, v1 := c.v1, v2 := c.v2, v3 := c.v3, v1now := c.v1now, vlog := c.vlog, vpend := c.vpend } = c)
    ∧ (∀ (w : CpWord) (sew lo hi k : Nat), k ∈ [1, 2, 3] → c.vlog = [(k, .op w sew lo hi)] → w.slot = 2 → w.opc ≤ 0x1C →
      let g := ({ c with vregs := Tab.set (fun _ => 0) c.v4 r (((Tab.get (fun _ => 0) c.v4 r).setWidth (512 * k)).setWidth 2048), v1now := [] }).vmap w sew lo hi
        (fun m a b d => vint w.opc m a b d)
      ∀ q, ∀ b < 4, (d.v q).extractLsb' (512 * b) 512 = if q = r ∧ b ≤ k then (if b = 0 then x.setWidth 512 else 0) else (g.v q).extractLsb' (512 * b) 512))
  ∧ (∀ (o : CpOp) (s u : State), Takes s o 2 0x42 u →
    exec (.vmvxf o) s = .next ((u.modCore o.core.val (fun c =>
      { c with f := c.f.set (ofld o.opnd.toNat 8 3) ((c.v (ofld o.opnd.toNat 11 5)).setWidth 32) })).finish o 2 0x42))
  ∧ (∀ (o : CpOp) (s u : State), Takes s o 2 0x48 u →
    let n := o.core.val
    let k := ofld o.opnd.toNat 8 2
    let req := o.ext.getD ((u.core n).agv.get (ofld o.opnd.toNat 10 3))
    let vl := min req.toNat (if k = 0 then 256 else if k = 1 then 128 else 64)
    exec (.setvl o) s = .next (((((u.setReg (Reg.VU_VTYPE n) (w32 k)).setReg (Reg.VU_VL n) (w32 vl)).setReg (Reg.VU_VSTART n) 0).modCore n
      (fun c => { c with lop := some (0x48, ofld o.opnd.toNat 13 3, vl) })).finish o 2 0x48))
  ∧ (∀ (c : Core) (r vl : Nat), c.lop = some (0x48, r, vl) → c.longWrite = { c with f := c.f.set r (w32 vl), lop := none })
  ∧ (∀ (o : CpOp) (s u : State), Takes s o 2 0x49 u →
    let a := match ofld o.opnd.toNat 10 3 with
      | 0 => Reg.VU_VL o.core.val
      | 1 => Reg.VU_VTYPE o.core.val
      | 2 => Reg.VU_VSTART o.core.val
      | _ => Reg.VU_FLAGS o.core.val
    exec (.vrdc o) s = .next ((u.modCore o.core.val (fun c => { c with f := c.f.set (ofld o.opnd.toNat 13 3) (u.reg a) })).finish o 2 0x49))
  ∧ (∀ (o : CpOp) (s u : State), Takes s o 2 0x4A u →
    let n := o.core.val
    let v := (u.core n).agv.get (ofld o.opnd.toNat 13 3)
    let lim := fun (sew : Nat) => if sew = 0 then 256 else if sew = 1 then 128 else 64
    exec (.vwrc o) s = .next (State.finish (match ofld o.opnd.toNat 10 3 with
      | 0 => u.setReg (Reg.VU_VL n) (w32 (min v.toNat (lim (u.sew n))))
      | 1 => (u.setReg (Reg.VU_VTYPE n) (w32 (bitsOf v 0 2))).setReg (Reg.VU_VL n) (w32 (min (u.vl n) (lim (bitsOf v 0 2))))
      | 2 => u.setReg (Reg.VU_VSTART n) (v &&& 0xFF)
      | _ => u.setReg (Reg.VU_FLAGS n) (v &&& 0xF)) o 2 0x4A))

/-- The elements of VA that a reduction takes, VSTART to VL - 1 (R149). -/
def Sys2Proof.taken (u : State) (n va : Nat) : List Nat :=
  ((List.range (u.vl n)).filter (fun e => u.vstart n ≤ e)).map (fun e => velem ((u.core n).v va) (sewBits (u.sew n)) e)

/-- Fd takes r with the bits above [31:0] zero, in the last of the eight cycles of a reduction (R137, R149). -/
def Sys2Proof.reduces (u : State) (n vd : Nat) (r : Word) : State :=
  u.modCore n (fun c => { c with vpend := c.vpend ++ [{ due := 7, isLoad := false, v1 := false, writes := [{ reg := vd, lo := 0, len := 2048, val := r.toNat, flat := true }], pois := none }] })

/-- What a reduction with result res of the elements does. -/
def Sys2Proof.RedForm (i : CpOp → Instr) (opc : Nat) (res : Nat → List Nat → Int) : Prop :=
  ∀ (o : CpOp) (s u : State), Takes s o 2 opc u →
    exec (i o) s = .next ((reduces u o.core.val (ofld o.opnd.toNat 11 5)
      (BitVec.ofInt 32 (res (sewBits (u.sew o.core.val)) (taken u o.core.val (ofld o.opnd.toNat 6 5))))).finish o 2 opc)

/-- The extreme of a list; 0 of none. -/
def Sys2Proof.extreme (f : Int → Int → Int) : List Int → Int
  | [] => 0
  | x :: t => t.foldl f x

/-- One level of the fixed tree of VFREDSUM: neighbours are added and their exceptions recorded (R149). -/
def Sys2Proof.treeLevel (x : List (Nat × VFlag)) : List (Nat × VFlag) :=
  (List.range (x.length / 2)).map (fun k =>
    let a := x.getD (2 * k) (0, VFlag.none)
    let b := x.getD (2 * k + 1) (0, VFlag.none)
    let v := (f32 (w32 a.1)).add (f32 (w32 b.1))
    let r := rounded v (some (invalid [a.1, b.1] v))
    (r.1, (a.2.or b.2).or r.2))

/-- R149: sums modulo 2^32, extremes, the tree sum of 64 lanes with +0 in place of elements not taken, and the binary32 maximum, which of no number is NaN. -/
def Obligations.VectorReductions : Prop :=
  RedForm .vredsum 0x50 (fun w l => (l.map (fun x => twos x w)).sum)
  ∧ RedForm .vredsumu 0x51 (fun _ l => ((l.sum : Nat) : Int))
  ∧ RedForm .vredmax 0x52 (fun w l => extreme max (l.map (fun x => twos x w)))
  ∧ RedForm .vredmaxu 0x53 (fun _ l => extreme max (l.map (fun x => (x : Int))))
  ∧ RedForm .vredmin 0x54 (fun w l => extreme min (l.map (fun x => twos x w)))
  ∧ RedForm .vredminu 0x55 (fun _ l => extreme min (l.map (fun x => (x : Int))))
  ∧ (∀ (o : CpOp) (s u : State), Takes s o 2 0x56 u →
    let n := o.core.val
    let lanes := (List.range 64).map (fun e => (if u.vstart n ≤ e ∧ e < u.vl n then velem ((u.core n).v (ofld o.opnd.toNat 6 5)) 32 e else 0, VFlag.none))
    let r := (treeLevel (treeLevel (treeLevel (treeLevel (treeLevel (treeLevel lanes)))))).getD 0 (0, VFlag.none)
    (u.vstart n < u.vl n → exec (.vfredsum o) s = .next (((reduces u n (ofld o.opnd.toNat 11 5) (w32 r.1)).vflag n r.2).finish o 2 0x56))
    ∧ (u.vl n ≤ u.vstart n → exec (.vfredsum o) s = .next ((reduces u n (ofld o.opnd.toNat 11 5) 0).finish o 2 0x56)))
  ∧ (∀ (o : CpOp) (s u : State), Takes s o 2 0x57 u →
    let n := o.core.val
    let l := ((List.range (u.vl n)).filter (fun e => u.vstart n ≤ e)).map (fun e => velem ((u.core n).v (ofld o.opnd.toNat 6 5)) (sewBits (u.sew n)) e)
    (l = [] → exec (.vfredmax o) s = .next ((reduces u n (ofld o.opnd.toNat 11 5) 0).finish o 2 0x57))
    ∧ (l ≠ [] → exec (.vfredmax o) s = .next (((reduces u n (ofld o.opnd.toNat 11 5)
        (w32 (l.foldl (fun m e => (ranked true m e).1) qnan.toNat))).vflag n
        { VFlag.none with nv := some (l.any (fun e => (f32 (w32 e)).isNan && !bitOf (w32 e) 22)) }).finish o 2 0x57)))

/-- R137, R138, R142, R144: an element operation writes the elements from VSTART up to VL with the results and leaves every other element, every other register, core and register
file entry, and memory, a write of slot V1 of the same cycle coming after one of slot V0; an operation whose records are of saturation alone adds SAT to VU_FLAGS when an element it writes saturates.
The parts of a result in the four beats, applied in any register file, write the elements from lo to hi of a register and leave the others. -/
def Obligations.VectorElements : Prop :=
  (∀ (s : State) (n : Nat) (w : CpWord) (g : Nat → Nat → Nat → Nat → Nat × VFlag),
    let t := s.vmap n w g
    let sew := sewBits (s.sew n)
    let r := fun (e : Nat) => g sew (velem ((s.core n).v w.va) sew e) ((s.core n).vopB w sew e) (velem ((s.core n).v w.vd) sew e)
    (∃ x : BitVec 2048, (∀ e < 2048 / sew, velem x sew e = if s.vstart n ≤ e ∧ e < s.vl n then (r e).1 % 2 ^ sew else velem ((s.core n).v w.vd) sew e) ∧
      t.core n = (if w.slot = 2 then (s.core n).v1now else []).foldl (fun d v => d.applyVW v) ((s.core n).setV w.vd x) ∧
      ∀ k, ((s.core n).setV w.vd x).v k = if k = w.vd then x else (s.core n).v k)
    ∧ (t.core n).f = (s.core n).f ∧ (t.core n).sr = (s.core n).sr ∧ (t.core n).pc = (s.core n).pc
    ∧ (∀ m, m ≠ n → t.core m = s.core m) ∧ (∀ a, a ≠ Reg.VU_FLAGS n → t.reg a = s.reg a) ∧ t.mem = s.mem ∧ t.mesh = s.mesh
    ∧ ((∀ a b c d, (g a b c d).2 = { VFlag.none with sat := (g a b c d).2.sat }) →
      t.reg (Reg.VU_FLAGS n) = s.reg (Reg.VU_FLAGS n) ||| (if ∃ e < 2048 / sew, s.vstart n ≤ e ∧ e < s.vl n ∧ (r e).2.sat = true then 8 else 0)))
  ∧ (∀ (c : Core) (r ew lo hi : Nat) (f : Nat → Nat), ew = 8 ∨ ew = 16 ∨ ew = 32 → hi ≤ 2048 / ew →
    let d := (List.range 4).foldl (fun (d : Core) b => (beatWrites r ew lo hi f b).foldl (fun d w => d.applyVW w) d) c
    (∀ e < 2048 / ew, velem (d.v r) ew e = if lo ≤ e ∧ e < hi then f e % 2 ^ ew else velem (c.v r) ew e) ∧ (∀ k, k ≠ r → d.v k = c.v k)
      ∧ d.f = c.f ∧ d.vpend = c.vpend)

/-! ### Vector memory -/

/-- The bytes that unit-stride or structure operation w of core n transfers, cut at the 256-byte blocks (R151 to R153). -/
def Sys2Proof.requestsOf (u : State) (n : Nat) (w : CpWord) : List (Nat × Nat) := wideParts (u.vrange n w).1 (u.vrange n w).2

/-- Field f of element e as a load of operation w finds it in the bytes of state u; l names the memory address of each part (R152, R153). -/
def Sys2Proof.loadedField (u : State) (n : Nat) (w : CpWord) (l : List (Nat × Nat × Bool)) (e f : Nat) : Nat :=
  leNum ((List.range (u.vesz n)).map (fun k => u.byte (partAddr l ((((u.core n).vbase w).toNat + (e * vGroup w.opc + f) * u.vesz n + k) % 2 ^ 32))))

/-- The state with a load on its way: after q requests, and the cycles they have lost, its registers take the elements from VSTART up to VL (R142, R152, R153). -/
def Sys2Proof.loadsVector (u : State) (n : Nat) (w : CpWord) : State :=
  let r := u.wideReads n (requestsOf u n w)
  let sew := sewBits (u.sew n)
  r.2.modCore n (fun c => { c with vpend := c.vpend ++
    [{ due := (requestsOf u n w).length + 5 + c.lag, isLoad := true, v1 := false, pois := none
       writes := (List.range (vGroup w.opc)).map (fun f =>
         { reg := w.vd + f, lo := sew * u.vstart n, len := sew * (u.vl n - u.vstart n)
           val := (List.range (u.vl n - u.vstart n)).foldl (fun a i => a + loadedField u n w r.1 (u.vstart n + i) f * 2 ^ (sew * i)) 0, flat := false : VW }) }] })

/-- What a unit-stride or structure load does: without bytes to transfer nothing, and with no block poisoned its registers are to be written. -/
def Sys2Proof.VldForm (i : CpOp → Instr) (opc : Nat) : Prop :=
  ∀ (o : CpOp) (s u : State), Takes s o 2 opc u →
    (requestsOf u o.core.val (o.cw 2 opc) = [] → exec (i o) s = .next (u.finish o 2 opc))
    ∧ (requestsOf u o.core.val (o.cw 2 opc) ≠ [] → (u.wideReads o.core.val (requestsOf u o.core.val (o.cw 2 opc))).1.all (fun p => !p.2.2) = true →
      exec (i o) s = .next ((loadsVector u o.core.val (o.cw 2 opc)).finish o 2 opc))

/-- The bytes that a unit-stride or structure store writes: request i takes its data i cycles after the first, which comes after the
cycles lost (R151 to R153). -/
def Sys2Proof.storedCells (u : State) (n : Nat) (w : CpWord) : List (Nat × Byte) :=
  (requestsOf u n w).zipIdx.flatMap (fun x => (List.range x.1.2).map (fun i =>
    let k := (x.1.1 + i + 2 ^ 32 - ((u.core n).vbase w).toNat) % 2 ^ 32
    let size := vGroup w.opc * u.vesz n
    (u.wideAddr n x.1.1 1 + i, BitVec.ofNat 8 (velem (((u.core n).ticks ((u.core n).lag + x.2)).vview (w.vd + k % size / u.vesz n)) (sewBits (u.sew n)) (k / size) /
      2 ^ (8 * (k % u.vesz n))))))

/-- What a unit-stride or structure store does: its bytes go to the vault, or, where some lie in X-RAM or Y-RAM, they are written when the bundle ends, and a narrow
read there by the same bundle, which loses the port, finds them (R155). -/
def Sys2Proof.VstForm (i : CpOp → Instr) (opc : Nat) : Prop :=
  ∀ (o : CpOp) (s u : State), Takes s o 2 opc u → let l := storedCells u o.core.val (o.cw 2 opc)
    (requestsOf u o.core.val (o.cw 2 opc) = [] → exec (i o) s = .next (u.finish o 2 opc))
    ∧ (requestsOf u o.core.val (o.cw 2 opc) ≠ [] → l.all (fun c => decide (c.1 < 2 ^ 48)) = true → exec (i o) s = .next ((u.writeMem l [] 1).finish o 2 opc))
    ∧ (requestsOf u o.core.val (o.cw 2 opc) ≠ [] → l.all (fun c => decide (c.1 < 2 ^ 48)) = false →
      exec (i o) s = .next (((u.modCore o.core.val (fun c => { c with sbuf := .bytes l :: c.sbuf })).reread o.core.val).finish o 2 opc))

/-- The address of element e of an indexed operation: the base plus the element's index word, aligned to the element (R154). -/
def Sys2Proof.indexed (u : State) (n : Nat) (w : CpWord) (base : Word) (e : Nat) : Nat :=
  (base + ((u.core n).vview (ofld w.opnd 5 5 + e / 64)).extractLsb' (32 * (e % 64)) 32).toNat / u.vesz n * u.vesz n

/-- The vector unit after the cycles that an indexed operation has lost before its first request (R151): its later cycles are that many fewer. -/
def Sys2Proof.waited (u : State) (n : Nat) : State :=
  u.modCore n (fun c => { (List.range c.lag).foldl (fun (d : Core) _ => d.vEnd.vReturns) c with extra := c.extra - c.lag, held := c.held - c.lag })

/-- R151 to R154, R156: vector loads, vector stores and indexed operations whose addresses are sound. An indexed operation goes element by element: a load reads the element and has it
written in the cycle of its beat, or, its block poisoned, leaves it and raises POISON behind the last; a store writes it. Where the rules leave a choice,
it is the model's: a later store sees each element from its return cycle (log entry 96). -/
def Obligations.VectorMemory : Prop :=
  VldForm .vld 0x60 ∧ VldForm .vld2 0x64 ∧ VldForm .vld3 0x65 ∧ VldForm .vld4 0x66
  ∧ VstForm .vst 0x61 ∧ VstForm .vst2 0x68 ∧ VstForm .vst3 0x69 ∧ VstForm .vst4 0x6A
  ∧ (∀ (o : CpOp) (s u : State), Takes s o 2 0x6C u → let n := o.core.val
      let t := (waited u n).gather n (o.cw 2 0x6C) ((u.core n).vbase (o.cw 2 0x6C)) (u.vl n - u.vstart n) (u.vstart n) none
      (t.core n).todo ≠ [] → exec (.vldx o) s = .next (t.finish o 2 0x6C))
  ∧ (∀ (o : CpOp) (s u : State), Takes s o 2 0x6D u → let n := o.core.val
      let t := (waited u n).scatter n (o.cw 2 0x6D) ((u.core n).vbase (o.cw 2 0x6D)) (u.vl n - u.vstart n) (u.vstart n)
      (t.core n).todo ≠ [] → exec (.vstx o) s = .next (t.finish o 2 0x6D))
  ∧ (∀ (u : State) (n : Nat) (w : CpWord) (base : Word) (k e : Nat), let a := indexed u n w base e
      let p := u.wideAddr n a 0
      let r := u.readMem (p / 256 * 256) 256 1
      u.widePart n a (u.vesz n) 0 false = 0 → r.2.1 = [] →
      let t := r.2.2.modCore n (fun c => 
        { c with vpend := c.vpend ++ [{ due := 6 - 8 * u.vesz n * e / 512, isLoad := true, v1 := false, pois := none
                                        writes := [{ reg := w.vd, lo := 8 * u.vesz n * e, len := 8 * u.vesz n, val := u.numLE p (u.vesz n), flat := false }] }] })
      u.gather n w base (k + 1) e none = (if k = 0 then t else t.modCore n Core.tick).gather n w base k (e + 1) none)
  ∧ (∀ (u : State) (n : Nat) (w : CpWord) (base : Word) (k e : Nat), let a := indexed u n w base e
      let p := u.wideAddr n a 0
      let r := u.readMem (p / 256 * 256) 256 1
      u.widePart n a (u.vesz n) 0 false = 0 → r.2.1 ≠ [] →
      u.gather n w base (k + 1) e none = (if k = 0 then r.2.2 else r.2.2.modCore n Core.tick).gather n w base k (e + 1) (some (e, w32 (a / 256 * 256))))
  ∧ (∀ (u : State) (n : Nat) (w : CpWord) (base : Word) (k e : Nat), let a := indexed u n w base e
      u.widePart n a (u.vesz n) 1 false = 0 →
      let t := u.writeMem (cellsAt (u.wideAddr n a 1) (leBytes (velem ((u.core n).vview w.vd) (8 * u.vesz n) e) (u.vesz n))) [] 1
      u.scatter n w base (k + 1) e = (if k = 0 then t else t.modCore n Core.tick).scatter n w base k (e + 1))
  ∧ (∀ (u : State) (n : Nat) (w : CpWord) (base : Word) (e f : Nat) (a : Word), u.gather n w base 0 e none = u ∧ u.scatter n w base 0 e = u ∧
      u.gather n w base 0 e (some (f, a)) = u.modCore n (fun c => { c with vpend := c.vpend ++
        [{ due := 6, isLoad := true, v1 := false, writes := [], pois := some (f, a, (u.core n).pc) }] }))
  ∧ (∀ (n : Spire) (s : State) (p : VPend), (s.core n.val).vpend = [p] → p.isLoad = true → (s.core n.val).loads = [] → (s.core n.val).mtcs = [] →
    ∃ d : Core, exec (.vectorLoadReturn n) s = .next (s.setCore n.val d) ∧ d.vpend = [] ∧ d.f = (s.core n.val).f ∧ d.sr = (s.core n.val).sr ∧
      d.pc = (s.core n.val).pc ∧ (∀ r, d.v r = (p.writes.foldl (fun c w => c.applyVW w) (s.core n.val)).v r) ∧
      (p.pois = none → d.late.length = (s.core n.val).late.length) ∧
      (∀ e a pc, p.pois = some (e, a, pc) → d.late.length = (s.core n.val).late.length + 1 ∧
        d.late.getLast? = some { src := 4, pc := pc, addr := a, elem := e, slots := 0 }))

/-! ### The MAC datapath -/

/-- Lane j of a MAC operation (R159, R160): the X operand at pointer PX plus fx·2j, the Y operand at pointer PY plus fy·2j, both read in state u, their product under SGN taken
into accumulator j of t under ACCOP. -/
def Sys2Proof.macLane (u : State) (n : Nat) (op : Nat) (fx fy : Bool) (t : State) (j : Nat) : State :=
  t.macAcc n j (ofld op 4 2) (macProd (ofld op 6 2)
    (u.numLE (xramAddr n + u.macAddr n (u.xsel n (ofld op 14 2)) (u.macPtr (Reg.MAC_XP n (ofld op 14 2))) (if fx then 2 * j else 0)) 2)
    (u.numLE (xramAddr n + 0x20000 +
      u.macAddr n (u.ysel n (ofld op 12 2)) (u.macPtr (Reg.MAC_YP n (ofld op 12 2))) (if fy then 2 * j else 0)) 2))

/-- What MACB, MACBY and MACP do: four lanes, then the pointers step (R160). -/
def Sys2Proof.MacForm (i : CpOp → Instr) (opc : Nat) (fx fy : Bool) : Prop :=
  ∀ (o : CpOp) (s u : State), Takes s o 4 opc u →
    let n := o.core.val
    let op := o.opnd.toNat
    let m := macLane u n op fx fy
    let t := m (m (m (m u 0) 1) 2) 3
    exec (i o) s = .next (((t.setReg (Reg.MAC_XP n (ofld op 14 2)) (w32 (u.macAddr n (u.xsel n (ofld op 14 2)) (u.macPtr (Reg.MAC_XP n (ofld op 14 2)))
        (u.macStep n (ofld op 10 2) 0)))).setReg (Reg.MAC_YP n (ofld op 12 2))
      (w32 (u.macAddr n (u.ysel n (ofld op 12 2)) (u.macPtr (Reg.MAC_YP n (ofld op 12 2))) (u.macStep n (ofld op 8 2) 16)))).finish o 4 opc)

/-- R158 to R161, R163: products into the four accumulators, MCLR, and MREP, which sets a repeat level up and skips its body for a count of 0. Where the rules leave a choice, it is the model's (log entry 14). -/
def Obligations.MacOperations : Prop :=
  MacForm .macb 0 false true ∧ MacForm .macby 1 true false ∧ MacForm .macp 2 true true
  ∧ (∀ (o : CpOp) (s u : State), Takes s o 4 3 u → let m := fun (t : State) (j : Nat) => if o.opnd.toNat.testBit j then t.setMacc o.core.val j 0 else t
      exec (.mclr o) s = .next ((m (m (m (m u 0) 1) 2) 3).finish o 4 3))
  ∧ (∀ (o : CpOp) (s u : State) (x : Word), Takes s o 4 0x18 u → o.ext = some x →
    let n := o.core.val
    let l := ofld o.opnd.toNat 14 2
    let e := (u.core n).pc + w32 (4 * (x.toNat % 2 ^ 16))
    let t := (((u.setReg (Reg.MAC_RBEG n l) ((u.core n).pc + w32 (4 * bundleLen ((u.core n).part ++ (u.core n).todo)))).setReg (Reg.MAC_REND n l) e).setReg
      (Reg.MAC_LC n l) (w32 (x.toNat / 2 ^ 16))).setBit (Reg.MAC_RCTL n) l true
    (2 ^ 16 ≤ x.toNat → exec (.mrep o) s = .next (t.finish o 4 0x18))
    ∧ (x.toNat < 2 ^ 16 → exec (.mrep o) s = .next ((goes t n (t.codeNext n e) false).finish o 4 0x18)))

/-- MACCj as a signed number of 40 bits: MAC_ACC_HI[7:0] above MAC_ACC_LO (R158). -/
def Sys2Proof.accumulator (s : State) (n j : Nat) : Int :=
  twos ((s.reg (Reg.MAC_ACC_LO n j)).toNat + ((s.reg (Reg.MAC_ACC_HI n j)).toNat % 256) <<< 32) 40

/-- R158, R160: an accumulator takes the sum, the difference or the product modulo 2^40; a result that does not fit sets OVF, and nothing else of the register file changes. Where the rules leave a choice, it is the model's (log entry 67). -/
def Obligations.MacAccumulates : Prop :=
  ∀ (s : State) (n j op : Nat) (p : Int), n < 33 → j < 4 →
    let r := if op = 0 then accumulator s n j + p else if op = 1 then accumulator s n j - p else p
    let t := s.macAcc n j op p
    accumulator t n j = twos (r % 2 ^ 40).toNat 40 ∧ (∀ k, k < 4 → k ≠ j → accumulator t n k = accumulator s n k)
      ∧ t.bit (Reg.MAC_STAT n) 0 = (s.bit (Reg.MAC_STAT n) 0 || decide (r < -2 ^ 39) || decide ((2 : Int) ^ 39 ≤ r))
      ∧ (∀ a, a ≠ Reg.MAC_ACC_LO n j → a ≠ Reg.MAC_ACC_HI n j → a ≠ Reg.MAC_STAT n → t.reg a = s.reg a) ∧ t.cores = s.cores ∧ t.mem = s.mem

/-- The control register that MTM and MFM name by code k (R161). -/
def Sys2Proof.macCtl (n k : Nat) : Nat :=
  if k < 4 then Reg.MAC_XP n k else if k < 8 then Reg.MAC_YP n (k - 4) else if k < 12 then Reg.MAC_CB_BASE n (k - 8)
  else if k < 16 then Reg.MAC_CB_LEN n (k - 12) else if k = 16 then Reg.MAC_PCFG n else if k = 17 then Reg.MAC_INC n
  else if k = 18 then Reg.MAC_STAT n else if k < 22 then Reg.MAC_LC n (k - 19) else Reg.MAC_RCTL n

/-- A scalar register takes x as of the bundle's write back. -/
def Sys2Proof.scalarTakes (u : State) (n r : Nat) (x : Word) : State := u.modCore n (fun c => { c with f := c.f.set r x })

/-- R161, R162: the rounded and saturated reading of an accumulator, its words, its loading, and moves to and from the control registers of the MAC. -/
def Obligations.MacMoves : Prop :=
  (∀ (o : CpOp) (s u : State), Takes s o 4 8 u →
    let n := o.core.val
    let op := o.opnd.toNat
    let wide := ofld op 5 1 = 1
    let r := clampS (if wide then 32 else 16) (rneInt (accumulator u n (ofld op 11 2)) (ofld op 6 5))
    let t := scalarTakes u n (ofld op 13 3) (if wide then w32 r.1 else sext 16 r.1)
    exec (.mrnd o) s = .next (State.finish (if r.2.sat then t.setBit (Reg.MAC_STAT n) 1 true else t) o 4 8))
  ∧ (∀ (o : CpOp) (s u : State), Takes s o 4 9 u → exec (.mrdl o) s = .next
      ((scalarTakes u o.core.val (ofld o.opnd.toNat 13 3) (u.reg (Reg.MAC_ACC_LO o.core.val (ofld o.opnd.toNat 11 2)))).finish o 4 9))
  ∧ (∀ (o : CpOp) (s u : State), Takes s o 4 0xA u → exec (.mrdh o) s = .next
      ((scalarTakes u o.core.val (ofld o.opnd.toNat 13 3) (((u.reg (Reg.MAC_ACC_HI o.core.val (ofld o.opnd.toNat 11 2))).setWidth 8).signExtend 32)).finish o 4 0xA))
  ∧ (∀ (o : CpOp) (s u : State), Takes s o 4 0xB u →
    let n := o.core.val
    let v := (u.core n).agv.get (ofld o.opnd.toNat 13 3)
    let hi : Word := match o.ext with
      | some x => x &&& 0xFF
      | none => if v.msb then 0xFF else 0
    exec (.mwr o) s = .next (((u.setReg (Reg.MAC_ACC_LO n (ofld o.opnd.toNat 11 2)) v).setReg (Reg.MAC_ACC_HI n (ofld o.opnd.toNat 11 2)) hi).finish o 4 0xB))
  ∧ (∀ (o : CpOp) (s u : State), Takes s o 4 0x10 u →
    let a := macCtl o.core.val (ofld o.opnd.toNat 8 5)
    exec (.mtm o) s = .next ((u.setReg a (maskMix (rwBits a) ((u.core o.core.val).agv.get (ofld o.opnd.toNat 13 3)) (u.reg a))).finish o 4 0x10))
  ∧ (∀ (o : CpOp) (s u : State), Takes s o 4 0x11 u → exec (.mfm o) s = .next
      ((scalarTakes u o.core.val (ofld o.opnd.toNat 13 3) (u.reg (macCtl o.core.val (ofld o.opnd.toNat 8 5)))).finish o 4 0x11))

/-! ### Register pages -/

/-- Requester req reaches listed page p, whose block is not locked: a host has its link up, and the page answers it (R14, R17, R23, R425). -/
def Sys2Proof.Opens (s : State) (req p : Nat) : Prop :=
  s.reaches req = true ∧ s.pageOpen req p = true ∧ pageListed p = true ∧ s.lockedPage p = false

/-- The error of page p with code, unit and detail, for requester req (R13): counted, and captured when none is held. -/
def Sys2Proof.reports (s : State) (p code unit detail req : Nat) : State := s.err p code unit detail req

/-- R6, R7, R14, R17, R24, R44, R425: a write that is no aligned 32-bit one, comes over a link that is down or names a page that does not answer changes nothing; one to a page in no list is
reported; one to a register with read-write fields alone writes those fields, or, when its block is locked and a field would change, only reports LOCKED. The reserved POLICY 0b11 is
dropped, locked or not. Where the rules leave a choice, it is the model's: R17 and R24 hold for every requester (log entry 21), and other reserved codes are stored
(log entry 15). -/
def Obligations.RegisterWrites : Prop :=
  (∀ (req : Node) (a : BitVec 26) (width : Nat) (v : Word) (s : State),
    width ≠ 4 ∨ a.toNat % 4 ≠ 0 ∨ s.reaches req.val = false ∨ s.pageOpen req.val (a.toNat / 0x1000) = false →
    exec (.regWrite req a width v) s = .next s)
  ∧ (∀ (req : Node) (a : BitVec 26) (v : Word) (s : State), a.toNat % 4 = 0 → s.reaches req.val = true → s.pageOpen req.val (a.toNat / 0x1000) = true →
    pageListed (a.toNat / 0x1000) = false →
    exec (.regWrite req a 4 v) s = .next ((reports s 0x060 0x30 req.val ((0x020000000000 + a.toNat) / 256 % 2 ^ 16) req.val).raise 0x060 6))
  ∧ (∀ (req : Node) (n : Spire) (v : Word) (s : State), ∀ a ∈ [Reg.TIME_MAX_GAP, Reg.TIME_OVR_POLICY, Reg.TIME_GROUP 3, Reg.SEQ_TBL_IDX, Reg.SEQ_HB_MASK,
      Reg.EVT_CTR_VAL n.val, Reg.EVT_AUD_CTL n.val, Reg.CP_VBASE n.val, Reg.CP_IRQ_EN n.val],
    Opens s req.val (a / 0x1000) → ¬ (a = Reg.TIME_OVR_POLICY ∧ v.toNat % 4 = 3) →
    exec (.regWrite req (BitVec.ofNat 26 a) 4 v) s = .next (s.setReg a ((v &&& rwBits a) ||| (s.reg a &&& ~~~(rwBits a)))))
  ∧ (∀ (req : Node) (n : Spire) (v : Word) (s : State), ∀ a ∈ [Reg.TIME_MAX_GAP, Reg.TIME_OVR_POLICY, Reg.SEQ_TBL_IDX, Reg.EVT_CTR_VAL n.val, Reg.CP_VBASE n.val],
    s.reaches req.val = true → s.pageOpen req.val (a / 0x1000) = true → s.lockedPage (a / 0x1000) = true → ¬ (a = Reg.TIME_OVR_POLICY ∧ v.toNat % 4 = 3) →
    exec (.regWrite req (BitVec.ofNat 26 a) 4 v) s =
      .next (if (s.reg a ^^^ v) &&& rwBits a = 0 then s else reports s (errPage (a / 0x1000)) 0xFE req.val (a % 0x1000) req.val))
  ∧ (∀ (req : Node) (v : Word) (s : State), s.reaches req.val = true → v.toNat % 4 = 3 →
    exec (.regWrite req (BitVec.ofNat 26 Reg.TIME_OVR_POLICY) 4 v) s = .next s)

/-- The value a read returned last to requester req at offset a. -/
def Sys2Proof.delivered (t : State) (req a : Nat) : Word := Tab.get (fun _ => 0) t.readData (req <<< 26 + a)

/-- R6, R7, R8, R11: a read of an error count returns it and clears it; a read of the low word of device time returns it and keeps the high word of the same value, which the requester's next
read of the high word returns; offsets with no register read 0, and a read of one or two bytes of a word returns their lanes of what a read of the word returns.
Where the rules leave a choice, it is the model's (log entry 82). -/
def Obligations.RegisterReads : Prop :=
  (∀ (req : Node) (page : BitVec 14) (s : State), s.reaches req.val = true → s.pageOpen req.val page.toNat = true → pageListed page.toNat = true →
    let a := page.toNat * 0x1000 + 0x28
    ∃ t, exec (.rcRead req ⟨(BitVec.ofNat 26 a), 4⟩) s = .next t ∧ delivered t req.val a = s.reg a ∧ t.reg a = 0 ∧ (∀ b, b ≠ a → t.reg b = s.reg b) ∧ t.mem = s.mem
      ∧ t.tb = s.tb ∧ t.cores = s.cores)
  ∧ (∀ (req : Node) (s : State), s.reaches req.val = true → s.pageOpen req.val 0x010 = true → s.shadow = [] →
    ∃ t, exec (.wideReadLow req ⟨(BitVec.ofNat 26 Reg.TIME_NOW_LO), 4⟩) s = .next t ∧ delivered t req.val Reg.TIME_NOW_LO = s.tb.now.extractLsb' 0 32 ∧ t.regs = s.regs
      ∧ ∀ (now : BitVec 64), let u := { t with tb := { t.tb with now := now } }
        ∃ w, exec (.rcRead req ⟨(BitVec.ofNat 26 Reg.TIME_NOW_HI), 4⟩) u = .next w ∧ delivered w req.val Reg.TIME_NOW_HI = s.tb.now.extractLsb' 32 32)
  ∧ (∀ (req : Node) (a : BitVec 26) (s : State), s.reaches req.val = true → s.pageOpen req.val (a.toNat / 0x1000) = true → pageListed (a.toNat / 0x1000) = true →
    a.toNat % 4 = 0 → 0x40 ≤ a.toNat % 0x1000 → a.toNat % 0x1000 < 0x800 → isMsix a.toNat = false → descAt a.toNat = none → isLow a.toNat = false →
    isLow (a.toNat - 4) = false → ¬ (0x42000 ≤ a.toNat ∧ a.toNat < 0x43000) →
    exec (.rcRead req ⟨a, 4⟩) s = .next { s with readData := Tab.set (fun _ => 0) s.readData (req.val <<< 26 + a.toNat) 0 })
  ∧ (∀ (req : Node) (a : BitVec 26) (width : Nat) (s : State), s.reaches req.val = true → width = 1 ∨ width = 2 → a.toNat % 4 + width ≤ 4 →
    let w := a.toNat / 4 * 4
    ∃ t u, exec (.rcRead req ⟨(BitVec.ofNat 26 w), 4⟩) s = .next t ∧ exec (.rcRead req ⟨a, width⟩) s = .next u ∧
      (delivered u req.val a.toNat).toNat = (delivered t req.val w).toNat / 256 ^ (a.toNat % 4) % 256 ^ width)

/-- R9, R12, R14, R359: writes through the set and clear aliases of a register with aliases write it with the value read back, its ones added or taken away, a log ring going on unless EN
is among them; INT_RAW is cleared by ones, INT_FORCE acts as the
event of each defined bit, and LOCK, on the first page of a block, sets by a 1. -/
def Obligations.AliasesAndHeaders : Prop :=
  (∀ (req : Node) (a : BitVec 26) (v : Word) (s : State) (d : RegDesc) (k : Nat), let b := a.toNat / 0x1000 * 0x1000 + a.toNat % 0x400
    Opens s req.val (b / 0x1000) → b % 4 = 0 → 0x40 ≤ b % 0x1000 → b / 0x1000 ≠ 0x6E → b / 0x1000 ≠ 0x6F → descAt b = some (d, k) → d.sc = true →
    let kept := fun (t : State) => if isRingCfg b = true ∧ v.getLsbD 31 = false then t.ringKept s ((b % 0x1000 - 0x80) / 8) else t
    exec (.setAliasWrite req a v) s = .next (kept (s.bodyWrite req.val b (s.bodyVal b ||| v))) ∧
    exec (.clearAliasWrite req a v) s = .next (kept (s.bodyWrite req.val b (s.bodyVal b &&& ~~~v))))
  ∧ (∀ (req : Node) (page : BitVec 14) (v : Word) (s : State), let p := page.toNat
    s.reaches req.val = true → s.pageOpen req.val p = true → pageListed p = true →
    exec (.intRawClear req page v) s = .next (s.setReg (p * 0x1000 + 0x10) (s.reg (p * 0x1000 + 0x10) &&& ~~~v)))
  ∧ (∀ (req : Node) (page : BitVec 14) (b : Fin 32) (s : State), let p := page.toNat
    s.reaches req.val = true → s.pageOpen req.val p = true → pageListed p = true →
    exec (.intForce req page (1 <<< b.val)) s = .next (if (intBits p).getLsbD b.val then s.raise p b.val else s))
  ∧ (∀ (req : Node) (page : BitVec 14) (v : Word) (s : State), let p := page.toNat
    s.reaches req.val = true → s.pageOpen req.val p = true → pageListed p = true →
    exec (.lock req page v) s = .next (if p = blockBase p ∧ v.getLsbD 0 = true then s.setReg (p * 0x1000 + 0x2C) 1 else s))

/-- The pages of the Belfry, of streams and of DMA channels. -/
def Sys2Proof.engagedPage (p : Nat) : Bool := (0x020 ≤ p && p ≤ 0x024) || (0x028 ≤ p && p < 0x030) || (isSpirePage p && (pageK p == 10 || pageK p == 11))

/-- R14, R76, R292, R293, R457: BLK_RST of a page of the Belfry, of streams or of DMA channels returns every register of the page to its reset value except ERR_CNT and LOCK, and leaves every
other page's registers and memory; while the block works it is dropped and reported, and so it is when its block is locked.
Where the rules leave a choice, it is the model's (log entry 18). -/
def Obligations.BlockResets : Prop :=
  (∀ (req : Node) (page : BitVec 14) (v : Word) (s : State), s.Canon → Opens s req.val page.toNat → engagedPage page.toNat = true →
    s.blkRstDropped page.toNat = false →
    ∃ t, exec (.blkRst req page v) s = .next t ∧ t.mem = s.mem ∧ t.tb = s.tb ∧
      ∀ a, t.reg a = if a / 0x1000 = page.toNat ∧ a % 0x1000 ≠ 0x28 ∧ a % 0x1000 ≠ 0x2C then regReset a else s.reg a)
  ∧ (∀ (req : Node) (page : BitVec 14) (v : Word) (s : State), s.reaches req.val = true → s.pageOpen req.val page.toNat = true → pageListed page.toNat = true →
    engagedPage page.toNat = true → s.blkRstDropped page.toNat = true →
    exec (.blkRst req page v) s = .next (reports s (if page.toNat < 0x025 then errPage page.toNat else page.toNat) 0x50 0 8 req.val))
  ∧ (∀ (req : Node) (page : BitVec 14) (v : Word) (s : State), s.reaches req.val = true → s.pageOpen req.val page.toNat = true → pageListed page.toNat = true →
    s.lockedPage page.toNat = true → s.blkRstDropped page.toNat = false → exec (.blkRst req page v) s = .next (reports s (errPage page.toNat) 0xFE req.val 8 req.val))

/-! ### Device time and ticks -/

/-- R41, R48, R51: the writes of the timebase. Device time and the tick count are set from their two words, sources and the encoder count are stored, a correction restarts its phase, and each is refused
and reported where its rule refuses it; EN going from 0 to 1 is marked with its time.
Where the rules leave a choice, it is the model's (log entry 83), and TIME_SRC stores reserved codes (log entry 15). -/
def Obligations.TimebaseWrites : Prop :=
  (∀ (req : Node) (v : Word) (s : State), Opens s req.val 0x010 →
    (s.bit Reg.TIME_LINK 6 = false → exec (.timeAdj req v) s =
      .next { s.setReg Reg.TIME_ADJ v with tb := { s.tb with slewPhase := 0 } })
    ∧ (s.bit Reg.TIME_LINK 6 = true → exec (.timeAdj req v) s = .next (reports s 0x010 0x03 0 0xA8 req.val))
    ∧ (s.bit Reg.TIME_LINK 6 = false → s.bit Reg.SEQ_STATE 3 = false → s.qany = false → exec (.timeSet req v) s =
      .next { s with tb := { s.tb with now := v ++ s.tb.setLo } })
    ∧ (s.bit Reg.TIME_LINK 6 = true → exec (.timeSet req v) s = .next (reports s 0x010 0x03 0 0xB0 req.val))
    ∧ (s.bit Reg.TIME_LINK 6 = false → s.bit Reg.SEQ_STATE 3 = true → s.qany = false → exec (.timeSet req v) s = .next (reports s 0x010 0x02 0 1 req.val))
    ∧ (s.bit Reg.TIME_LINK 6 = false → s.qany = true →
      exec (.timeSet req v) s = .next (reports s 0x010 0x02 0 (if s.bit Reg.SEQ_STATE 3 then 3 else 2) req.val))
    ∧ (s.bit Reg.SEQ_STATE 3 = false → exec (.tickSet req v) s = .next { s with tb := { s.tb with tickCnt := v.extractLsb' 0 16 ++ s.tb.tickSetLo } })
    ∧ (s.bit Reg.SEQ_STATE 3 = true → exec (.tickSet req v) s = .next (reports s 0x010 0x02 1 1 req.val))
    ∧ (s.bit Reg.SEQ_STATE 3 = false → exec (.timeSrcWrite req false v) s = .next (s.setReg Reg.TIME_SRC (v &&& 0xFFFF)))
    ∧ (s.bit Reg.SEQ_STATE 3 = false → exec (.timeSrcWrite req true v) s =
      .next (s.setReg Reg.TIME_ENC_N (if v &&& 0xFFFFFF = 0 then 1 else v &&& 0xFFFFFF)))
    ∧ (∀ encN, s.bit Reg.SEQ_STATE 3 = true → exec (.timeSrcWrite req encN v) s = .next (reports s 0x010 0x01 0 (if encN then 0x68 else 0x64) req.val))
    ∧ (v.getLsbD 1 = false → exec (.timebaseEnable req v) s =
      .next (let t := s.setReg 0x010008 (putBit (s.reg 0x010008) 0 (v.getLsbD 0))
        if v.getLsbD 0 && !(s.reg 0x010008).getLsbD 0 then { t with tb := { s.tb with enAt := some s.tb.now } } else t)))

/-- A source event with its time, nothing merged into it. -/
def Sys2Proof.plainEvent (tm : BitVec 64) : SourceEvent := { time := tm, merged := 0, link := none, late := false }

/-- Time of the next grid point (R39, R70). -/
def Sys2Proof.gridAt (s : State) : Nat := s.bel.startTime + s.tb.gridK * (s.reg Reg.TIME_PERIOD).toNat

/-- Device time in the TCLK cycle after this one: the next nanosecond, but two more or none more when that cycle is a slew step of the correction pending (R31, R48). -/
def Sys2Proof.nextTime (s : State) : Nat :=
  if s.reg Reg.TIME_ADJ ≠ 0 ∧ 999 ≤ s.tb.slewPhase then s.tb.now.toNat + (if 0 < (s.reg Reg.TIME_ADJ).toInt then 2 else 0) else s.tb.now.toNat + 1

/-- R38, R39, R42, R47, R48: a grid point whose time has come becomes the pending source event, or is merged into the one pending and counted; a stall is raised once when the gap has passed since the last tick's start, or the schedule's start before its first tick; TIME_SYNC captures device time and
counts; a slew step is a TCLK cycle that moves device time by 2 or 0 and the correction by 1 towards 0. Before their times nothing happens. Where the rules leave a choice, it is the model's (log entries 12, 78 and 83). -/
def Obligations.TimeEvents : Prop :=
  (∀ s : State, s.bit Reg.SEQ_STATE 3 = true → s.fld Reg.TIME_SRC 0 2 = 0 → gridAt s ≤ s.tb.now.toNat →
    (s.tb.pend = none → exec .internalGridPoint s =
      .next { s with tb := { s.tb with gridK := s.tb.gridK + 1, pend := some (plainEvent (BitVec.ofNat 64 (gridAt s))) } })
    ∧ (∀ p, s.tb.pend = some p → exec .internalGridPoint s =
      .next ((State.bump { s with tb := { s.tb with gridK := s.tb.gridK + 1, pend := some { p with merged := p.merged + 1 } } } Reg.TIME_MERGE_CNT).raise 0x010 1)))
  ∧ (∀ s : State, s.tb.now.toNat < gridAt s → exec .internalGridPoint s = .next s)
  ∧ (∀ s : State, s.reg Reg.TIME_MAX_GAP ≠ 0 → s.bit Reg.SEQ_STATE 3 = true → s.tb.stalled = false →
    (if s.bel.first then s.bel.startTime else s.tb.tickStart.toNat) + (s.reg Reg.TIME_MAX_GAP).toNat ≤ s.tb.now.toNat →
    exec .tickStall s = .next (State.raise { s with tb := { s.tb with stalled := true } } 0x010 4))
  ∧ (∀ s : State, s.tb.stalled = true → exec .tickStall s = .next s)
  ∧ (∀ s : State, let q := s.reg Reg.TIME_SYNC_SEQ
    let t := (s.setReg64 Reg.TIME_SYNC_LO s.tb.now).setReg Reg.TIME_SYNC_SEQ
      (putFld (if s.tb.syncUnread then putBit q 16 true else q) 0 16 (q.toNat % 2 ^ 16 + 1))
    exec .timeSyncCapture s = .next (State.raise { t with tb := { s.tb with syncUnread := true } } 0x010 5))
  ∧ (∀ s : State, s.tb.running = true → s.reg Reg.TIME_ADJ ≠ 0 → 999 ≤ s.tb.slewPhase →
    let adj := (s.reg Reg.TIME_ADJ).toInt
    let now := s.tb.now + (if 0 < adj then 2 else 0)
    let t := { s.setReg Reg.TIME_ADJ (BitVec.ofInt 32 (if 0 < adj then adj - 1 else adj + 1)) with
      tb := { s.tb with now := now, slewPhase := 0 }
      bel := if s.bel.sent then { s.bel with sent := false, reach := now.toNat } else s.bel }
    exec .slewStep s = .next (if adj = 1 ∨ adj = -1 then t.raise 0x010 9 else t))

/-- The latest of the four times before which a pending event starts no tick (R36). -/
def Sys2Proof.boundaryAt (s : State) (e : SourceEvent) : Nat :=
  max (max (e.time.toNat + 8) (if s.bel.first then 0 else s.tb.tickStart.toNat + (s.reg Reg.TIME_PERIOD).toNat))
    (max (if s.bel.first then 0 else match s.tb.tickEndAt with
      | some d => d.toNat + 1
      | none => 0) (match s.tb.enAt with
      | some d => d.toNat
      | none => 0))

/-- The tick of event e is early (R37): it starts as the minimum period after the last one's start says, and its event alone would have let it start before. -/
def Sys2Proof.isEarly (s : State) (e : SourceEvent) : Bool :=
  !s.bel.first && boundaryAt s e == s.tb.tickStart.toNat + (s.reg Reg.TIME_PERIOD).toNat && decide (e.time.toNat + 8 < boundaryAt s e)

/-- The tick of event e is held (R37): the end of the tick before it, or the write of EN, decides its start. -/
def Sys2Proof.isHeld (s : State) (e : SourceEvent) : Bool :=
  decide (e.time.toNat + 8 < boundaryAt s e) &&
    ((!s.bel.first && s.tb.tickEndAt.any (fun d => boundaryAt s e == d.toNat + 1)) || s.tb.enAt.any (fun d => boundaryAt s e == d.toNat))

/-- R35 to R37, R70, R72: a tick starts at its boundary when no stop is pending: the count takes the link's or goes up by 1, TICK_START and TICK_EVENT take device time and the event's time, the event is used, and the walk of the active
descriptor begins. A tick that the minimum period decides is early, one that the end of the tick before it or EN decides is held, each with its flag, interrupt bit and count; with a stop pending the schedule stops instead. Before the boundary nothing happens. Where the rules leave a choice, it is the model's (log entries 12, 25 and 83). -/
def Obligations.TickBoundaries : Prop :=
  (∀ (s : State) (e : SourceEvent), s.tb.pend = some e → s.bit Reg.SEQ_STATE 3 = true → s.bit 0x010008 0 = true → s.bel.walk = none → boundaryAt s e ≤ s.tb.now.toNat →
    s.stopCause = 0 → ∃ t, exec .tickBoundary s = .next t ∧ t.tb.tickCnt = e.link.getD (s.tb.tickCnt + 1) ∧ t.tb.tickStart = s.tb.now ∧ t.tb.tickEvent = e.time ∧
      t.tb.now = s.tb.now ∧ t.tb.pend = none ∧ t.bel.walk = some 0 ∧ t.bel.reach = s.tb.now.toNat ∧ t.bel.skip = s.bel.nextSkip ∧ t.bel.dispatched = 0 ∧
      t.reg Reg.SEQ_HB_SEEN = 0 ∧ t.bit 0x010010 0 = true ∧ t.mem = s.mem ∧
      (let early := isEarly s e
       let held := isHeld s e
       t.reg Reg.TICK_INFO = w32 (min e.merged 255 + (if early then 256 else 0) + (if held then 512 else 0) + (if e.late then 1024 else 0)) ∧
       t.bit 0x010010 1 = (s.bit 0x010010 1 || early) ∧ t.bit 0x010010 3 = (s.bit 0x010010 3 || held) ∧ t.bit 0x010010 8 = (s.bit 0x010010 8 || e.late) ∧
       (t.reg Reg.TIME_EARLY_CNT).toNat = min 0xFFFFFFFF ((s.reg Reg.TIME_EARLY_CNT).toNat + (if early then 1 else 0)) ∧
       (t.reg Reg.TIME_HELD_CNT).toNat = min 0xFFFFFFFF ((s.reg Reg.TIME_HELD_CNT).toNat + (if held then 1 else 0))) ∧
      (s.bit Reg.SEQ_STATE 8 = true → t.fld Reg.SEQ_STATE 0 3 = s.fld Reg.SEQ_STATE 4 3 ∧ t.bit Reg.SEQ_STATE 8 = false ∧ t.bel.startTime = e.time.toNat) ∧
      (s.bit Reg.SEQ_STATE 8 = false → t.reg Reg.SEQ_STATE = s.reg Reg.SEQ_STATE ∧ t.bel.startTime = s.bel.startTime))
  ∧ (∀ (s : State) (e : SourceEvent), s.tb.pend = some e → s.bit Reg.SEQ_STATE 3 = true → s.bit 0x010008 0 = true → s.bel.walk = none → boundaryAt s e ≤ s.tb.now.toNat →
    s.bit Reg.SEQ_STATE 9 = true → ∃ t, exec .tickBoundary s = .next t ∧ t.bit Reg.SEQ_STATE 3 = false ∧ t.tb.pend = none ∧ t.bel.walk = none ∧
      t.reg Reg.TIME_PERIOD = 0 ∧ t.tb.tickCnt = s.tb.tickCnt ∧ t.bit 0x020010 2 = true)
  ∧ (∀ (s : State) (e : SourceEvent), s.tb.pend = some e → s.tb.now.toNat < boundaryAt s e → exec .tickBoundary s = .next s)

/-- R17: while the spire mapping is not complete, a host read of any spire register page returns 0 and a host write to such a page is dropped; neither is recorded as an error. -/
def Obligations.BeforeSpireMapping : Prop :=
  ∀ (req : Node) (s : State), req.val = 40 → s.host.up = true → s.host.d3 = false → s.host.mse = true → s.reg Reg.KEEP_GRID = 0 →
    (∀ (a : BitVec 26) (width : Nat), isSpirePage (a.toNat / 0x1000) = true → 0 < width → a.toNat % 0x1000 + width ≤ 0x1000 → ∀ i ∈ [Instr.rcRead req ⟨a, width⟩, .wideReadLow req ⟨a, width⟩], ∃ t, exec i s = .next t ∧ delivered t 40 a.toNat = 0 ∧ { t with readData := s.readData } = s)
    ∧ (∀ (a : BitVec 26) (width : Nat) (v : Word), isSpirePage (a.toNat / 0x1000) = true → ∀ i ∈ [Instr.regWrite req a width v, .setAliasWrite req a v, .clearAliasWrite req a v], exec i s = .next s)
    ∧ (∀ (page : BitVec 14) (v : Word), isSpirePage page.toNat = true → ∀ i ∈ [Instr.intRawClear req page v, .intForce req page v, .lock req page v, .blkRst req page v], exec i s = .next s)
    ∧ (∀ (n : Spire) (v : Word), ∀ i ∈ [Instr.cpNmi req n v, .haltReq req n v, .cpIrqSet req n v, .tcmpArm req n v, .icInvalidate req n v], exec i s = .next s)

/-! ### The Belfry -/

/-- The walk stands at entry k of the table, position i of the active descriptor, whose number is e; it fits its opcode, its ECC is good, no entry has gone out in this TCLK
cycle, and the cycle of its dispatch, due, has come (R54, R63, R64). -/
structure Sys2Proof.EntryDue (s : State) (i k e due : Nat) : Prop where
  walk : s.bel.walk = some i
  inside : i < s.fld (Reg.SEQ_DESC_LEN (s.fld Reg.SEQ_STATE 0 3)) 0 18
  index : k = s.fld (Reg.SEQ_DESC_BASE (s.fld Reg.SEQ_STATE 0 3)) 0 17 + i
  entry : e = s.numLE (tblAddr k) 16
  sound : s.eccTwo.contains (tblAddr k / 8) = false ∧ s.eccTwo.contains (tblAddr k / 8 + 1) = false
  fits : entryFits e = true
  time : due = s.tb.tickStart.toNat + entOffset e + (if s.bel.prevOff = some (entOffset e) then s.bel.run + 1 else 0)
  alone : s.bel.sent = false
  come : max due s.bel.reach ≤ s.tb.now.toNat

/-- The state in which an entry has gone out, its effect apart (R63, R64): the walk stands at the next, SEQ_ENTRY_IDX and SEQ_DISP_CNT are written, and a late entry is counted and
reported. -/
def Sys2Proof.goesOut (s : State) (i k e due : Nat) : State :=
  let t := (s.setReg Reg.SEQ_ENTRY_IDX (w32 (k % 2 ^ 17))).bump Reg.SEQ_DISP_CNT
  let u := { t with bel := { s.bel with walk := some (i + 1), sent := true, prevOff := some (entOffset e)
                                        run := if s.bel.prevOff = some (entOffset e) then s.bel.run + 1 else 0 } }
  if due < s.bel.reach then ((u.bump Reg.SEQ_LATE_ENTRIES).raiseTo Reg.SEQ_LATE_MAX (s.bel.reach - due)).raise 0x020 3 else u

/-- A spire that an entry names and that is not in service (R57, R58). -/
def Sys2Proof.notServed (t : State) (k n : Nat) : State :=
  (((t.bump Reg.SEQ_DISP_DROP).seqErr 0x24 n k)).raise 0x020 8

/-- The spires of a 32-bit mask, lowest first. -/
def Sys2Proof.spiresOf (m : Nat) : List Nat := (List.range 32).filter (fun n => m.testBit n)

/-- One spire of a DISPATCH entry (R43, R44, R58): not in service, it is dropped and reported; to be skipped, it is counted; otherwise its expected count goes up once in the tick and
the entry point arrives at its queue. -/
def Sys2Proof.dispatchTo (e k : Nat) (t : State) (n : Nat) : State :=
  if !(t.inGrid n && t.bit Reg.KEEP_SPIRE_PSTAT n) then notServed t k n
  else if t.bel.skip.toNat.testBit n then t.bump Reg.SEQ_SKIP_CNT
  else State.cpDispatch (if bitOf t.bel.dispatched n then t
    else { t.count (Reg.SEQ_TC_EXP n) with bel := { t.bel with dispatched := putBit t.bel.dispatched n true } }) n (e / 2 ^ 21 % 2 ^ 19 * 32) (e % 2 ^ 16)

/-- One spire in service of a SCALE_COMMIT entry (R60): late for a spire dispatched in this tick. -/
def Sys2Proof.commitTo (e k : Nat) (t : State) (n : Nat) : State :=
  if bitOf t.bel.dispatched n then ((t.bump Reg.SEQ_COMMIT_LATE).seqErr 0x25 n k).raise 0x020 9
  else t.scaleCommit n (e.testBit 0) (e.testBit 1)

/-- R55 to R64: what each entry does when it goes out; in its cycle nothing else goes out, and before it nothing does. The TCLK cycle behind it reaches the next entry. The
spires of a mask that are not in service are reported before what is late for another spire, since their code is the lower one (R13). TICK_END, or the cycle after the last entry, ends the walk; the
entries not reached are counted, an end that the schedule does not hold is reported, and the next boundary waits for this cycle. Where the rules leave a choice, it is the model's (log entries 12, 24, 28, 84 and 88). -/
def Obligations.EntriesGoOut : Prop :=
  (∀ (s : State) (i k e due : Nat), EntryDue s i k e due → entOpcode e = 0x00 → exec .nopEntry s = .next (goesOut s i k e due))
  ∧ (∀ (s : State) (i k e due : Nat), EntryDue s i k e due → entOpcode e = 0x02 →
    let t := goesOut s i k e due
    let slot := e / 2 ^ 68 % 2 ^ 4
    let lag := s.tb.now.toNat - due
    let u := (t.setReg64 (Reg.SEQ_BAR_TIME_LO slot) s.tb.now).setReg (Reg.SEQ_BAR_LAG slot) (w32 lag)
    (lag ≤ e % 2 ^ 32 → exec .barrier s = .next u)
    ∧ (e % 2 ^ 32 < lag → ∃ v, exec .barrier s = .next v ∧ v.reg Reg.SEQ_BAR_MISS = (u.bump Reg.SEQ_BAR_MISS).reg Reg.SEQ_BAR_MISS ∧ v.bit 0x020010 10 = true ∧
      v.reg (Reg.SEQ_BAR_LAG slot) = w32 lag ∧ v.tb = s.tb ∧ v.bel = t.bel))
  ∧ (∀ (s : State) (i k e due : Nat), EntryDue s i k e due → entOpcode e = 0x10 →
    exec .portArm s = .next ((goesOut s i k e due).portArm (entTindex e) (e % 2 ^ 72)))
  ∧ (∀ (s : State) (i k e due : Nat), EntryDue s i k e due → entOpcode e = 0x11 → let t := goesOut s i k e due
    exec .dmaStart s = .next (if entClass e = 4 then t.dmaStart (256 + entTindex e)
      else if t.inGrid (entTindex e) && t.bit Reg.KEEP_SPIRE_PSTAT (entTindex e) then t.dmaStart (8 * entTindex e + e / 2 ^ 69 % 2 ^ 3) else notServed t k (entTindex e)))
  ∧ (∀ (s : State) (i k e due : Nat), EntryDue s i k e due → entOpcode e = 0x12 → let t := goesOut s i k e due
    exec .streamArm s = .next (if t.inGrid (entTindex e) && t.bit Reg.KEEP_SPIRE_PSTAT (entTindex e) then
      t.streamArm (entTindex e) (e / 2 ^ 70 % 2 ^ 2) (w32 (e % 2 ^ 32)) else notServed t k (entTindex e)))
  ∧ (∀ (s : State) (i k e due : Nat), EntryDue s i k e due → entOpcode e = 0x20 →
    exec .dispatch s = .next ((spiresOf (e / 2 ^ 40 % 2 ^ 32)).foldl (dispatchTo e k) (goesOut s i k e due)))
  ∧ (∀ (s : State) (i k e due : Nat), EntryDue s i k e due → entOpcode e = 0x21 → let t := goesOut s i k e due
    exec .evtPost s = .next (if t.inGrid (entTindex e) then t.evtAdd (entTindex e) (e / 2 ^ 63 % 2 ^ 9) (e % 2 ^ 16) else notServed t k (entTindex e)))
  ∧ (∀ (s : State) (i k e due : Nat), EntryDue s i k e due → entOpcode e = 0x22 →
    let t := goesOut s i k e due
    let served := fun n => t.inGrid n && t.bit Reg.KEEP_SPIRE_PSTAT n
    exec .scaleCommit s = .next (((spiresOf (e / 2 ^ 40 % 2 ^ 32)).filter served).foldl (commitTo e k)
      (((spiresOf (e / 2 ^ 40 % 2 ^ 32)).filter (fun n => !served n)).foldl (fun t n => notServed t k n) t)))
  ∧ (∀ (s : State) (i : Nat), s.bel.walk = some i → s.bel.sent = true →
    ∀ c ∈ [Instr.nopEntry, .barrier, .portArm, .dmaStart, .streamArm, .dispatch, .evtPost, .scaleCommit, .tickEnd], exec c s = .next s)
  ∧ (∀ s : State, s.tb.running = true → s.bel.sent = true → s.tclk.bel.sent = false ∧ s.tclk.bel.reach = s.tclk.tb.now.toNat)
  ∧ (∀ s : State, s.bel.walk = none → ∀ c ∈ [Instr.nopEntry, .barrier, .portArm, .dmaStart, .streamArm, .dispatch, .evtPost, .scaleCommit, .tickEnd], exec c s = .next s)
  ∧ (∀ (s : State) (i : Nat), s.bel.walk = some i → i < s.descLen s.actDesc → s.tb.now.toNat < max (s.walkEntry i).2.2.1 s.bel.reach →
    ∀ c ∈ [Instr.nopEntry, .barrier, .portArm, .dmaStart, .streamArm, .dispatch, .evtPost, .scaleCommit, .tickEnd], exec c s = .next s)
  ∧ (∀ (s : State) (i k e due : Nat), EntryDue s i k e due → entOpcode e = 0x01 →
    ∃ t, exec .tickEnd s = .next t ∧ t.bel.walk = none ∧ t.tb.tickEndAt = some s.tb.now ∧ t.tb.tickStart = s.tb.tickStart ∧ t.tb.tickCnt = s.tb.tickCnt ∧ t.mem = s.mem ∧
      t.reg Reg.SEQ_ENTRY_IDX = w32 (k % 2 ^ 17) ∧
      t.reg Reg.SEQ_UNREACHED = w32 (min 0xFFFFFFFF ((s.reg Reg.SEQ_UNREACHED).toNat + (s.fld (Reg.SEQ_DESC_LEN (s.fld Reg.SEQ_STATE 0 3)) 0 18 - (i + 1)))))
  ∧ (∀ (s : State) (i : Nat), s.bel.walk = some i → s.descLen s.actDesc ≤ i → s.bel.sent = false → s.bel.reach ≤ s.tb.now.toNat →
    ∃ t, exec .tickEnd s = .next t ∧ t.bel.walk = none ∧ t.tb.tickEndAt = some s.tb.now ∧ t.bit 0x020010 5 = true ∧ t.mem = s.mem ∧ t.tb.tickStart = s.tb.tickStart)

/-- A command written to SEQ_CMD is refused with reason (R69). -/
def Sys2Proof.refuses (s : State) (req cmd reason : Nat) : State := (reports s 0x020 0x21 cmd reason req).raise 0x020 7

/-- SEQ_STATE with the pending bits PEND_SWITCH and PEND_STOP and the pending descriptor replaced (R70 to R72). -/
def Sys2Proof.pends (s : State) (switch stop : Bool) (d : Nat) : State :=
  s.setReg Reg.SEQ_STATE (putFld (putBit (putBit (s.reg Reg.SEQ_STATE) 9 stop) 8 switch) 4 3 d)

/-- Descriptor d may run (R69): VALID is set and no more spires are asked for than are counted. -/
def Sys2Proof.runnable (s : State) (d : Nat) : Prop := s.bit (Reg.SEQ_DESC_CTL d) 31 = true ∧ s.fld (Reg.SEQ_DESC_CTL d) 0 6 ≤ s.fld Reg.KEEP_SPIRES 16 6

/-- R69 to R72: START, SWITCH, STOP and CANCEL. A START that passes its checks runs the descriptor with its period and counts cleared; a SWITCH or a STOP becomes pending and takes the other's place, and a CANCEL takes
both back. A check that alone fails refuses the command with its reason and changes nothing else; EN = 0 refuses all but STOP (R76). -/
def Obligations.ScheduleCommands : Prop :=
  (∀ (req : Node) (v : Word) (s : State), Opens s req.val 0x020 → let d := v.toNat % 8
    (s.bit Reg.SEQ_STATE 3 = false → s.chip = 2 ∨ s.chip = 4 → s.bit 0x020008 0 = true → runnable s d → ∃ t, exec (.start req v) s = .next t ∧
      t.reg Reg.SEQ_STATE = w32 (s.fld Reg.SEQ_STATE 10 2 * 2 ^ 10 + 8 + d) ∧ t.reg Reg.TIME_PERIOD = s.reg (Reg.SEQ_DESC_PERIOD d) ∧
      (∀ n < 32, t.reg (Reg.SEQ_TC_EXP n) = 0 ∧ t.reg (Reg.SEQ_TC_DONE n) = 0) ∧ t.tb.pend = none ∧ t.tb.gridK = 0 ∧ t.tb.encAcc = 0 ∧ t.tb.now = s.tb.now ∧
      t.bel.walk = none ∧ t.bel.first = true ∧ t.bel.startTime = nextTime s ∧ t.bit 0x020010 0 = true ∧ t.mem = s.mem ∧ t.chip = (if s.chip = 2 then 3 else 4))
    ∧ (s.bit Reg.SEQ_STATE 3 = true → s.bit 0x020008 0 = true → s.chip = 2 ∨ s.chip = 4 → runnable s d → exec (.start req v) s = .next (refuses s req.val 1 1))
    ∧ (s.bit Reg.SEQ_STATE 3 = false → s.bit 0x020008 0 = false ∨ (s.chip ≠ 2 ∧ s.chip ≠ 4) → runnable s d → exec (.start req v) s = .next (refuses s req.val 1 2))
    ∧ (s.bit Reg.SEQ_STATE 3 = false → s.chip = 2 ∨ s.chip = 4 → s.bit 0x020008 0 = true → s.bit (Reg.SEQ_DESC_CTL d) 31 = false → s.fld (Reg.SEQ_DESC_CTL d) 0 6 ≤ s.fld Reg.KEEP_SPIRES 16 6 →
      exec (.start req v) s = .next (refuses s req.val 1 3))
    ∧ (s.bit Reg.SEQ_STATE 3 = false → s.chip = 2 ∨ s.chip = 4 → s.bit 0x020008 0 = true → s.bit (Reg.SEQ_DESC_CTL d) 31 = true → s.fld Reg.KEEP_SPIRES 16 6 < s.fld (Reg.SEQ_DESC_CTL d) 0 6 →
      exec (.start req v) s = .next (refuses s req.val 1 4)))
  ∧ (∀ (req : Node) (v : Word) (s : State), Opens s req.val 0x020 → let d := v.toNat % 8
    (s.bit Reg.SEQ_STATE 3 = true → s.bit 0x020008 0 = true → runnable s d → exec (.switch req v) s = .next (pends s true false d))
    ∧ (s.bit Reg.SEQ_STATE 3 = false → s.bit 0x020008 0 = true → runnable s d → exec (.switch req v) s = .next (refuses s req.val 2 5))
    ∧ (s.bit Reg.SEQ_STATE 3 = true → s.bit 0x020008 0 = false → runnable s d → exec (.switch req v) s = .next (refuses s req.val 2 2))
    ∧ (s.bit Reg.SEQ_STATE 3 = true → s.bit 0x020008 0 = true → s.bit (Reg.SEQ_DESC_CTL d) 31 = false → s.fld (Reg.SEQ_DESC_CTL d) 0 6 ≤ s.fld Reg.KEEP_SPIRES 16 6 →
      exec (.switch req v) s = .next (refuses s req.val 2 3))
    ∧ (s.bit Reg.SEQ_STATE 3 = true → s.bit 0x020008 0 = true → s.bit (Reg.SEQ_DESC_CTL d) 31 = true → s.fld Reg.KEEP_SPIRES 16 6 < s.fld (Reg.SEQ_DESC_CTL d) 0 6 →
      exec (.switch req v) s = .next (refuses s req.val 2 4))
    ∧ (s.bit Reg.SEQ_STATE 3 = true → exec (.stop req v) s = .next (pends s false true 0))
    ∧ (s.bit Reg.SEQ_STATE 3 = false → exec (.stop req v) s = .next (refuses s req.val 3 5))
    ∧ (s.bit Reg.SEQ_STATE 8 = true ∨ s.bit Reg.SEQ_STATE 9 = true → s.bit 0x020008 0 = true → exec (.cancel req v) s = .next (pends s false false 0))
    ∧ (s.bit Reg.SEQ_STATE 8 = true ∨ s.bit Reg.SEQ_STATE 9 = true → s.bit 0x020008 0 = false → exec (.cancel req v) s = .next (refuses s req.val 4 2))
    ∧ (s.bit Reg.SEQ_STATE 8 = false → s.bit Reg.SEQ_STATE 9 = false → s.bit 0x020008 0 = true → exec (.cancel req v) s = .next (refuses s req.val 4 6)))

/-- The reason descriptor d cannot be made valid (R68), 0 when it can. -/
def Sys2Proof.descWrong (s : State) (d : Nat) : Nat :=
  let len := s.fld (Reg.SEQ_DESC_LEN d) 0 18
  let period := (s.reg (Reg.SEQ_DESC_PERIOD d)).toNat
  let spires := s.fld (Reg.SEQ_DESC_CTL d) 0 6
  if len < 1 ∨ 131072 < len then 1
  else if 131072 < s.fld (Reg.SEQ_DESC_BASE d) 0 17 + len then 2
  else if period < 50000 ∨ 100000000 < period then 3
  else if spires < 1 ∨ 32 < spires then 4
  else 0

/-- A descriptor write is refused with reason (R68). -/
def Sys2Proof.descRefuses (s : State) (req d reason : Nat) : State := (reports s 0x020 0x20 d reason req).raise 0x020 6

/-- Table entry i lies in the active descriptor's range or a pending one's while a schedule runs (R73). -/
def Sys2Proof.entryInUse (s : State) (i : Nat) : Prop :=
  s.bit Reg.SEQ_STATE 3 = true ∧ ∃ d < 8, (s.fld Reg.SEQ_STATE 0 3 = d ∨ (s.bit Reg.SEQ_STATE 8 = true ∧ s.fld Reg.SEQ_STATE 4 3 = d)) ∧
    s.fld (Reg.SEQ_DESC_BASE d) 0 17 ≤ i ∧ i < s.fld (Reg.SEQ_DESC_BASE d) 0 17 + s.fld (Reg.SEQ_DESC_LEN d) 0 18

/-- R68, R73, R76: VALID is set when the checks pass and refused with its reason otherwise; EN = 0 while a schedule runs makes a stop pending; a write of SEQ_TBL_W3 writes the 16 bytes of the entry at SEQ_TBL_IDX and no other byte, and moves the
index when INC is 1, or, for an entry in use, is refused and reported. -/
def Obligations.DescriptorsAndTable : Prop :=
  (∀ (req : Node) (d : Fin 8) (v : Word) (s : State), Opens s req.val 0x021 → let a := Reg.SEQ_DESC_CTL d.val
    let t := s.setReg a (w32 (v.toNat % 64))
    (v.getLsbD 31 = true → s.bit a 31 = false → descWrong t d.val = 0 → exec (.descValid req d v) s = .next (t.setBit a 31 true))
    ∧ (v.getLsbD 31 = true → s.bit a 31 = false → descWrong t d.val ≠ 0 → exec (.descValid req d v) s = .next (descRefuses t req.val d.val (descWrong t d.val)))
    ∧ (v.getLsbD 31 = false → s.bit Reg.SEQ_STATE 3 = false → exec (.descValid req d v) s = .next t)
    ∧ (v.getLsbD 31 = false → s.bit Reg.SEQ_STATE 3 = true → s.fld Reg.SEQ_STATE 0 3 = d.val → exec (.descValid req d v) s = .next (descRefuses s req.val d.val 6)))
  ∧ (∀ (req : Node) (v : Word) (s : State), Opens s req.val 0x020 → v.getLsbD 1 = false →
    let t := s.setReg 0x020008 (putBit (s.reg 0x020008) 0 (v.getLsbD 0))
    exec (.belfryEnable req v) s = .next (if v.getLsbD 0 = false ∧ s.bit Reg.SEQ_STATE 3 = true then pends t false true 0 else t))
  ∧ (∀ (req : Node) (v : Word) (s : State), Opens s req.val 0x023 → let i := s.fld Reg.SEQ_TBL_IDX 0 17
    let w := [s.reg Reg.SEQ_TBL_W0, s.reg Reg.SEQ_TBL_W1, s.reg Reg.SEQ_TBL_W2, v]
    (¬ entryInUse s i → ∃ t, exec (.tableEntryWrite req v) s = .next t ∧
      (∀ a, t.byte a = if tblAddr i ≤ a ∧ a < tblAddr i + 16 then (w.getD ((a - tblAddr i) / 4) 0).extractLsb' (8 * ((a - tblAddr i) % 4)) 8 else s.byte a) ∧
      t.reg Reg.SEQ_TBL_IDX = (if s.bit Reg.SEQ_TBL_IDX 31 then putFld (s.reg Reg.SEQ_TBL_IDX) 0 17 (i + 1) else s.reg Reg.SEQ_TBL_IDX) ∧ t.cores = s.cores ∧ t.tb = s.tb)
    ∧ (entryInUse s i → ∃ t, exec (.tableEntryWrite req v) s = .next t ∧ t.mem = s.mem ∧ t.reg Reg.SEQ_TBL_IDX = s.reg Reg.SEQ_TBL_IDX ∧
      (s.bit 0x020010 31 = false → t.reg 0x020020 = w32 (0x27 <<< 24 + i % 2 ^ 16) ∧ t.reg Reg.SEQ_ERR_IDX = w32 i)))

/-- The range of an active or pending descriptor meets [i, i + n) while a schedule runs (R73). -/
def Sys2Proof.rangeInUse (s : State) (i n : Nat) : Prop :=
  s.bit Reg.SEQ_STATE 3 = true ∧ ∃ d < 8, (s.fld Reg.SEQ_STATE 0 3 = d ∨ (s.bit Reg.SEQ_STATE 8 = true ∧ s.fld Reg.SEQ_STATE 4 3 = d)) ∧
    s.fld (Reg.SEQ_DESC_BASE d) 0 17 < i + n ∧ i < s.fld (Reg.SEQ_DESC_BASE d) 0 17 + s.fld (Reg.SEQ_DESC_LEN d) 0 18

/-- R73, R75: a raw load of entries that fit and are not in use, and an image load, become busy and present a first read, or wait for a read credit; a raw load of no entry ends at once. Data that has returned without poison goes into the table, and the load ends
when its last byte has; LOAD_DONE then reports the result. Where the rules leave a choice, it is the model's (log entries 12, 27 and 87). -/
def Obligations.TableLoads : Prop :=
  (∀ (req : Node) (v : Word) (s : State), Opens s req.val 0x023 → s.bit Reg.SEQ_LOAD_CTL 30 = false →
    let src := s.reg64 Reg.SEQ_LOAD_SRC_LO
    let idx := s.fld Reg.SEQ_LOAD_IDX 0 17
    let cnt := s.fld Reg.SEQ_LOAD_CNT 0 18
    (cnt ≠ 0 → idx + cnt ≤ 131072 → ¬ rangeInUse s idx cnt → src < s.dramCap → s.credUsed 42 (s.nodeOf src) < 2 → ∃ t, exec (.rawLoad req v) s = .next t ∧ t.bit Reg.SEQ_LOAD_CTL 30 = true ∧
      t.bel.loader = { Loader.reset with phase := 2, src := src, left := 16 * cnt, idx := idx, crc := 0xFFFFFFFF } ∧
      t.mesh = s.mesh ++ [{ id := s.msgId, src := nodeFin 42, dst := nodeFin (s.nodeOf src), body := .rd src (min (16 * cnt) (256 - src % 256)) (.loader (s.bel.loads + 1)) }] ∧ t.mem = s.mem)
    ∧ (cnt = 0 → ∃ t, exec (.rawLoad req v) s = .next t ∧ t.reg Reg.SEQ_LOAD_STAT = 0 ∧ t.bit Reg.SEQ_LOAD_CTL 30 = false ∧ t.bit 0x020010 11 = true ∧ t.mem = s.mem)
    ∧ (src < s.dramCap → s.credUsed 42 (s.nodeOf src) < 2 → ∃ t, exec (.imageLoad req v) s = .next t ∧ t.bit Reg.SEQ_LOAD_CTL 30 = true ∧
      t.bel.loader = { Loader.reset with image := true, phase := 1, src := src, left := 64, idx := idx, dslot := v.toNat % 8, base := src } ∧
      t.mesh = s.mesh ++ [{ id := s.msgId, src := nodeFin 42, dst := nodeFin (s.nodeOf src), body := .rd src (min 64 (256 - src % 256)) (.loader (s.bel.loads + 1)) }] ∧ t.mem = s.mem)
    ∧ (src < s.dramCap → 2 ≤ s.credUsed 42 (s.nodeOf src) → ∃ t, exec (.imageLoad req v) s = .next t ∧ t.bit Reg.SEQ_LOAD_CTL 30 = true ∧
      t.bel.loader = { Loader.reset with image := true, phase := 1, src := src, left := 64, idx := idx, dslot := v.toNat % 8, base := src, wait := true } ∧ t.mesh = s.mesh ∧ t.mem = s.mem))
  ∧ (∀ (s : State) (x : Returned), s.returned.find? (fun x => x.tag == .loader s.bel.loads) = some x → x.pois = [] → s.bel.loader.phase = 2 →
    x.data.length = 16 * (x.data.length / 16) → s.bel.loader.left = x.data.length → ¬ rangeInUse s s.bel.loader.idx (x.data.length / 16) →
    ∃ t, exec .loadCopy s = .next t ∧ t.bel.loader.phase = 3 ∧ t.bel.loader.result = 0 ∧ t.bel.loader.crc = crcBytes s.bel.loader.crc x.data ∧ t.returned = s.returned.erase x ∧
      ∀ a, t.byte a = if tblAddr s.bel.loader.idx ≤ a ∧ a < tblAddr s.bel.loader.idx + x.data.length then x.data.getD (a - tblAddr s.bel.loader.idx) 0 else s.byte a)
  ∧ (∀ (s : State), s.bel.loader.phase = 3 → s.bel.loader.image = false ∨ s.bel.loader.result ≠ 0 →
    ∃ t, exec .loadDone s = .next t ∧ t.bel.loader = Loader.reset ∧ t.reg Reg.SEQ_LOAD_STAT = w32 s.bel.loader.result ∧ t.bit Reg.SEQ_LOAD_CTL 30 = false ∧
      t.bit 0x020010 (if s.bel.loader.result = 0 then 11 else 12) = true ∧ t.mem = s.mem)
  ∧ (∀ (s : State), s.bel.loader.phase = 3 → s.bel.loader.image = true → s.bel.loader.result = 0 → (~~~s.bel.loader.crc).toNat ≠ leAt s.bel.loader.hdrBytes 0x18 4 →
    ∃ t, exec .loadDone s = .next t ∧ t.bel.loader = Loader.reset ∧ t.reg Reg.SEQ_LOAD_STAT = 7 ∧ t.bit Reg.SEQ_LOAD_CTL 30 = false ∧ t.bit 0x020010 12 = true ∧
      (∀ d < 8, t.reg (Reg.SEQ_DESC_CTL d) = s.reg (Reg.SEQ_DESC_CTL d)))

/-! ### Control processors between programs -/

/-- Nothing that core c has issued is still to return. -/
def Sys2Proof.Settled (c : Core) : Prop := c.loads = [] ∧ c.mtcs = [] ∧ c.vpend = [] ∧ c.late = []

/-- SR of core c as the handler of an interrupt or fault starts with it (R100): C is what it was before memory results that came behind cycle E4, and LACT is 0. -/
def Sys2Proof.handlerSr (c : Core) : Word := putBit (putBit c.sr 0 (c.lateC.getD (c.sr.getLsbD 0))) 6 false

/-- FG of core n, in RUN, misses the fetch group of local address a (R83, R84): the group of PC or the one after it, which stands neither in the group buffer nor in a line of the cache or in the line buffer. -/
def Sys2Proof.Misses (s : State) (n a : Nat) : Prop :=
  let c := s.core n
  c.st = 1 ∧ (a / 32 * 32 = c.pc.toNat / 32 * 32 ∨ a / 32 * 32 = (c.pc.toNat / 32 * 32 + 32) % 2 ^ 32) ∧ (∀ g ∈ c.groups, g.addr ≠ a / 32 * 32) ∧
    (∀ l ∈ c.icache, l.addr ≠ a / 64 * 64) ∧ c.lineBuf.map (fun l => l.addr) ≠ some (a / 64 * 64)

/-- R83 to R86, R88, R94 to R104, R107, R134, R459: an IDLE core takes the oldest entry point; the lowest eligible source enters its handler with PC and SR saved, whatever bundle comes; an NMI is held or taken; a bundle whose first
word has a reserved slot or opcode is an ILLEGAL_OP fault; halts are asked for, reached and left; sources are set, the timer is armed and fires once its time has come; the instruction cache is emptied and, on a miss alone, filled by lines of
sixteen words, behind the stores that wait, while a stall on the missing group of PC passes its cycles; the oldest store of the buffer is written. Where the rules leave a choice, it is the model's (log entries 11, 12, 53, 60, 68 and 89). -/
def Obligations.CoreEvents : Prop :=
  (∀ (n : CpId) (s : State) (entry arg : Nat) (rest : List (Nat × Nat)), let c := s.core n.val
    Settled c → c.queue = (entry, arg) :: rest → c.st = 0 → s.bit (spirePage n.val 0 * 0x1000 + 8) 0 = true → s.bit (Reg.CP_CTL n.val) 0 = false → s.eligible n.val = none →
    c.nmiPend = false →
    ∃ d, exec (.entryPointTake n) s = .next (s.setCore n.val d) ∧ d.queue = rest ∧ d.pc = w32 entry ∧ d.f = { c.f with acc := w32 arg } ∧ d.sr = putFld c.sr 8 6 32 ∧ d.st = 1 ∧
      d.stack = c.stack ∧ d.vregs = c.vregs ∧ d.lbeg = c.lbeg ∧ d.lend = c.lend ∧ d.ln = c.ln)
  ∧ (∀ (n : CpId) (s : State), (s.core n.val).queue = [] → exec (.entryPointTake n) s = .next s)
  ∧ (∀ (n : CpId) (b : List CpWord) (s : State) (k : Nat), let c := s.core n.val
    Settled c → s.atBoundary n.val = true → s.bit (Reg.CP_CTL n.val) 0 = false → c.nmiPend = false → s.eligible n.val = some k →
    ∃ d, exec (.interruptEntry ⟨n, b⟩) s = .next (s.setCore n.val d) ∧
      d.stack = (putBit (if c.st = 0 then s.reg (Reg.CP_PC n.val) else c.pc) 0 (c.st == 0), c.sr) :: c.stack ∧ d.sr = putFld (handlerSr c) 8 6 k ∧
      d.pc = (s.reg (Reg.CP_VBASE n.val) &&& 0xFFF000) + w32 (64 * k) ∧ d.st = 1 ∧ d.f = c.f ∧ d.vregs = c.vregs)
  ∧ (∀ (n : CpId) (b : List CpWord) (s : State), let c := s.core n.val
    Settled c → s.atBoundary n.val = true → s.bit (Reg.CP_CTL n.val) 0 = false → c.nmiPend = true → c.nmiAct = false →
    ∃ d, exec (.interruptEntry ⟨n, b⟩) s = .next (((s.setReg (Reg.CP_NPC n.val) (putBit (if c.st = 0 then s.reg (Reg.CP_PC n.val) else c.pc) 0 (c.st == 0))).setReg
        (Reg.CP_NSR n.val) c.sr).setCore n.val d) ∧ d.nmiAct = true ∧ d.nmiPend = false ∧ d.sr = handlerSr c ∧
      d.pc = (s.reg (Reg.CP_VBASE n.val) &&& 0xFFF000) + 0x800 ∧ d.st = 1 ∧ d.stack = c.stack ∧ d.f = c.f)
  ∧ (∀ (n : CpId) (s : State), (s.core n.val).late = [] → s.atBoundary n.val = false ∨ s.bit (Reg.CP_CTL n.val) 0 = true → exec (.interruptEntry ⟨n, []⟩) s = .next s)
  ∧ (∀ (n : CpId) (w : CpWord) (b : List CpWord) (g g' : FetchGroup) (s : State), let c := s.core n.val
    Settled c → c.st = 1 → c.part = [] → c.todo = [] → s.mustYield n.val = false → c.groups = [g, g'] → g.addr = c.pc.toNat / 32 * 32 → g.bad = [] → w.ok (n.val == 32) = false →
    c.nmiAct = false → c.stack.length < 8 →
    ∃ t, exec (.interruptEntry ⟨n, w :: b⟩) s = .next t ∧ t.reg (Reg.CP_FAULT_PC n.val) = c.pc ∧ t.reg (Reg.CP_FAULT_SRC n.val) = 0 ∧ t.reg (Reg.CP_FAULT_OP n.val) = w.word ∧
      t.bit (Reg.CP_IRQ_RAW n.val) 0 = true ∧ (t.core n.val).stack = (putBit c.pc 0 false, c.sr) :: c.stack ∧ (t.core n.val).pc = s.reg (Reg.CP_VBASE n.val) &&& 0xFFF000 ∧
      (t.core n.val).ilvl = 0 ∧ (t.core n.val).f = c.f ∧ (t.core n.val).vregs = c.vregs ∧ t.mem = s.mem)
  ∧ (∀ (req : Node) (n : Spire) (v : Word) (s : State), Opens s req.val (Reg.CP_NMI n.val / 0x1000) →
    (v.getLsbD 0 = false → exec (.cpNmi req n v) s = .next s)
    ∧ (v.getLsbD 0 = true → s.atBoundary n.val = false → exec (.cpNmi req n v) s = .next (s.modCore n.val (fun c => { c with nmiPend := true }))))
  ∧ (∀ (req : Node) (n : Spire) (v : Word) (s : State), Opens s req.val (Reg.CP_CTL n.val / 0x1000) → let t := s.setBit (Reg.CP_CTL n.val) 0 (v.getLsbD 0)
    exec (.haltReq req n v) s = .next (if v.getLsbD 0 = false ∧ (s.core n.val).st = 2 then
      t.modCore n.val (fun c => { c with st := if c.resumeRun then 1 else 0 }) else t))
  ∧ (∀ (n : CpId) (s : State), Settled (s.core n.val) → s.bit (Reg.CP_CTL n.val) 0 = true → s.atBoundary n.val = true →
    ∃ d, exec (.halted n) s = .next ((s.setCore n.val d).raise (spirePage n.val 0) 2) ∧ d.st = 2 ∧ d.resumeRun = ((s.core n.val).st == 1) ∧ d.pc = (s.core n.val).pc ∧
      d.f = (s.core n.val).f ∧ d.sr = (s.core n.val).sr ∧ d.stack = (s.core n.val).stack ∧ d.queue = (s.core n.val).queue)
  ∧ (∀ (n : CpId) (s : State), s.bit (Reg.CP_CTL n.val) 0 = false → exec (.halted n) s = .next s)
  ∧ (∀ (req : Node) (n : Spire) (v : Word) (s : State), Opens s req.val (Reg.CP_IRQ_SET n.val / 0x1000) →
    exec (.cpIrqSet req n v) s = .next (s.setReg (Reg.CP_IRQ_RAW n.val) (s.reg (Reg.CP_IRQ_RAW n.val) ||| (v &&& 0xFFFFFFC0))))
  ∧ (∀ (req : Node) (n : Spire) (v : Word) (s : State), Opens s req.val (Reg.CP_TCMP_HI n.val / 0x1000) →
    exec (.tcmpArm req n v) s = .next ((s.setReg (Reg.CP_TCMP_HI n.val) v).modCore n.val (fun c => { c with tcmpArmed := true })))
  ∧ (∀ (n : CpId) (s : State), (s.core n.val).tcmpArmed = true →
    (s.reg64 (Reg.CP_TCMP_LO n.val) ≤ s.tb.now.toNat →
      exec (.timer n) s = .next ((s.modCore n.val (fun c => { c with tcmpArmed := false })).setBit (Reg.CP_IRQ_RAW n.val) 7 true))
    ∧ (s.tb.now.toNat < s.reg64 (Reg.CP_TCMP_LO n.val) → exec (.timer n) s = .next s))
  ∧ (∀ (req : Node) (n : Spire) (v : Word) (s : State), Opens s req.val (Reg.CP_IC_CTL n.val / 0x1000) → let t := s.setReg (Reg.CP_IC_CTL n.val) (v &&& 0xF0)
    exec (.icInvalidate req n v) s = .next (if (s.core n.val).st = 0 ∨ (s.core n.val).st = 2 then t.modCore n.val (fun c => { c with icache := [], lineBuf := none }) else t))
  ∧ (∀ (n : CpId) (a : Word) (lost stall : Nat) (s : State) (p : Nat → Nat), (s.core n.val).sbuf = [] → Misses s n.val a.toNat →
    (∀ i < 16, s.localPart n.val (a.toNat / 64 * 64 + 4 * i) 4 2 = .mem (p i) ∧ ∀ w ∈ wordsOf (p i) 4, w ∉ s.poison ∧ w ∉ s.eccTwo ∧ w ∉ s.eccOne) →
    let c := if s.missAt n.val (s.core n.val).pc.toNat = true ∧ (s.core n.val).part = [] ∧ (s.core n.val).todo = [] then (s.core n.val).pass stall else s.core n.val
    ∃ t d, exec (.icacheLineFill n ⟨a, lost, stall⟩) s = .next t ∧ t.regs = ((s.bump (Reg.CP_IC_MISS n.val)).bump (Reg.CP_FETCH_WAIT n.val) lost).regs ∧ t.cores = (s.setCore n.val d).cores ∧
      t.mem = s.mem ∧ d.f = c.f ∧ d.pc = c.pc ∧ d.vregs = c.vregs ∧
      d.lineBuf = some { way := 0, addr := a.toNat / 64 * 64, words := (List.range 16).map (fun i => w32 (leNum (s.bytes (p i) 4))), bad := [] })
  ∧ (∀ (n : CpId) (a : Word) (lost stall : Nat) (s u : State) (cells : List (Nat × Byte)), (s.core n.val).sbuf = [.bytes cells] → (∀ c ∈ cells, s.cellOn n.val c = true) → Misses s n.val a.toNat →
    (∀ i < 16, ∃ p, s.localPart n.val (a.toNat / 64 * 64 + 4 * i) 4 2 = .mem p) →
    exec (.storeBufferWrite n) s = .next u → exec (.icacheLineFill n ⟨a, lost, stall⟩) s = exec (.icacheLineFill n ⟨a, lost, stall⟩) u)
  ∧ (∀ (n : CpId) (a : Word) (lost stall : Nat) (s : State), ¬ Misses s n.val a.toNat → exec (.icacheLineFill n ⟨a, lost, stall⟩) s = .next s)
  ∧ (∀ (n : CpId) (s : State) (cells : List (Nat × Byte)) (t : List SbEntry), (s.core n.val).sbuf = .bytes cells :: t → (∀ c ∈ cells, s.cellOn n.val c = true) →
    exec (.storeBufferWrite n) s = .next ((s.modCore n.val (fun c => { c with sbuf := t })).writeMem cells [] 6))
  ∧ (∀ (n : CpId) (s : State), (s.core n.val).sbuf = [] → exec (.storeBufferWrite n) s = .next s)

/-! ### Messages -/

/-- The command by which message m arrives with header h. -/
def Sys2Proof.arrival (m : Msg) (h : Header) : Instr :=
  match m.body with
  | .pw .. => .pw m h
  | .rreq .. => .rreq m h
  | .rd .. => .rd m h
  | .rdr .. => .rdr m h
  | .inc .. => .inc m h
  | .ack .. => .ack m h
  | .rcred => .rcred m h
  | .tc => .tc m h
  | .hb => .hb m h

/-- Message m can arrive in state s (R301, R460): none of its class, source and destination is before it; a full DRAM channel takes no request yet; increments go to spires, TC and HB from a spire to the
Belfry. -/
def Sys2Proof.CanArrive (s : State) (m : Msg) : Prop :=
  s.mayArrive m = true ∧
  match m.body with
  | .pw .. | .rreq .. | .rd .. => atDram m.dst.val = true → (s.dch (m.dst.val - 32)).queue.length < 64
  | .inc .. => m.dst.val < 32
  | .tc | .hb => m.dst.val = 42 ∧ m.src.val < 32
  | _ => True

/-- The acknowledgement of m from node nd is presented (R302). -/
def Sys2Proof.acknowledges (t : State) (nd : Nat) (m : Msg) (tag : Tag) : State := t.post nd (ackNode m.src.val tag) (.ack m.id tag)

/-- R43, R181, R298 to R308, R312, R313: what the arrival of each message does: a write to a vault in an ON segment stores its bytes, counts its arrival and is acknowledged; a read is answered with its credit; increments, acknowledgements, credits, TC and HB take
effect; DRAM channels queue. A message that cannot arrive yet changes nothing; one of a reserved kind or with a broken header is refused, and its node counts and captures it; each header or data word with a single-bit error is corrected and counted, and a data word whose flit has a double-bit error arrives poisoned. Spires send heartbeats and release held events. Where the rules leave a choice, it is the model's (log entries 12, 50, 69, 73, 82, 89 and 95). -/
def Obligations.Messages : Prop :=
  (∀ (s : State) (m : Msg) (h : Header), s.mayArrive m = false → exec (arrival m h) s = .next s)
  ∧ (∀ (s : State) (m : Msg) (k : BitVec 8), CanArrive s m → exec (arrival m (.reservedKind k)) s = .next ((s.takeMsg m).refuseMsg (refuseNode (routerOf m.src.val) m.dst.val) m.src.val k.toNat))
  ∧ (∀ (s : State) (m : Msg) (src dst : Node) (k : BitVec 8) (r : Spire), CanArrive s m → exec (arrival m (.uncorrectable src k dst r)) s =
      .next (((s.takeMsg m).refuseMsg (refuseNode r.val dst.val) src.val k.toNat).faultLine 3 (refuseNode r.val dst.val)))
  ∧ (∀ (s : State) (nd src k : Nat), nd < 64 → let p := nodePage nd
    let t := s.refuseMsg nd src k
    t.bit (p * 0x1000 + 0x10) 2 = true ∧ (nd < 32 → t.reg (Reg.EVT_REFUSED nd) = w32 (min 0xFFFFFFFF ((s.reg (Reg.EVT_REFUSED nd)).toNat + 1))) ∧
      t.mesh = s.mesh ∧ t.mem = s.mem ∧ (s.bit (p * 0x1000 + 0x10) 31 = false → t.reg (p * 0x1000 + 0x20) = w32 (0x82 * 2 ^ 24 + src % 256 * 2 ^ 16 + k % 2 ^ 16)))
  ∧ (∀ (s : State) (m : Msg), CanArrive s m → exec (arrival m .corrected) s = exec (arrival m .good) (s.classCnt 0))
  ∧ (∀ (s : State) (m : Msg) (hdr : Bool) (one two pois : List Nat) (a : Nat) (data : List Byte) (off : Bool) (tag : Tag), m.body = .rdr a data pois off tag → CanArrive s m → two.Nodup → data.length = 8 → a % 8 = 0 →
    let bad := if a / 8 ∈ two ∧ a / 8 ∉ pois then pois ++ [a / 8] else pois
    let t := if hdr then (s.takeMsg m).classCnt 0 else s.takeMsg m
    exec (.rdr m (.data hdr one two)) s = .next ((if a / 8 ∈ one ∧ a / 8 ∉ two then t.classCnt 0 else t).rdrArrive a data bad off tag))
  ∧ (∀ (s : State) (m : Msg) (a n : Nat) (b : Byte) (cells : List (Nat × Byte)) (pois : List Nat) (arr : Option Ctr) (landing : Bool) (tag : Tag),
    m.body = .pw ((a, b) :: cells) pois arr landing tag → CanArrive s m → s.regionOf a = .vault n → s.segOn n ((a - vaultAddr n 0) % 2 ^ 24) = true →
    let t := (s.takeMsg m).writeMem ((a, b) :: cells) pois (if landing then 5 else 3)
    exec (.pw m .good) s = .next (acknowledges (match arr with
      | some k => (t.bump (Reg.VLT_ARR_CNT n)).evtAdd n k.val 1
      | none => t) m.dst.val m tag))
  ∧ (∀ (s : State) (m : Msg), CanArrive s m → atDram m.dst.val = true → msgOrder m.body = 1 → (∀ a d p o t, m.body ≠ .rdr a d p o t) →
    (∀ a b l p r g t, m.body = .pw ((a, b) :: l) p r g t → s.regionOf a = .dram ∨ s.regionOf a = .none) →
    ∃ u, exec (arrival m .good) s = .next u ∧ (u.dch (m.dst.val - 32)).queue = (s.dch (m.dst.val - 32)).queue ++ [m] ∧ u.mem = s.mem ∧ u.regs = s.regs)
  ∧ (∀ (s : State) (m : Msg) (a len : Nat) (tag : Tag), m.body = .rd a len tag → CanArrive s m → atDram m.dst.val = false → (∀ n blk, tag ≠ .loadw n blk) →
    let r := ((s.takeMsg m).post m.dst.val m.src.val .rcred).nodeRead m.src.val a len
    exec (.rd m .good) s = .next (r.2.2.2.post m.dst.val m.src.val (.rdr a r.1 r.2.1 r.2.2.1 tag)))
  ∧ (∀ (s : State) (m : Msg) (a len blk : Nat) (n : Spire), m.body = .rd a len (.loadw n blk) → CanArrive s m → atDram m.dst.val = false →
    exec (.rd m .good) s = .next ((s.takeMsg m).setLanQueue (lanBank a) (s.lanQueue (lanBank a) ++ [{ spire := n.val, blk := blk, addr := a }])))
  ∧ (∀ (s : State) (m : Msg) (a len dst : Nat) (tag : Tag), m.body = .rreq a len dst tag → CanArrive s m → atDram m.dst.val = false →
    exec (.rreq m .good) s = .next ((cutBlocks a len).foldl (fun t q =>
      let r := t.nodeRead m.src.val q.1 q.2
      r.2.2.2.answerWrites m.dst.val q.1 (dst + (q.1 - a)) r.1 r.2.1 tag) ((s.takeMsg m).post m.dst.val m.src.val .rcred)))
  ∧ (∀ (s : State) (m : Msg) (a : Nat) (data : List Byte) (pois : List Nat) (off : Bool) (tag : Tag), m.body = .rdr a data pois off tag → CanArrive s m →
    exec (.rdr m .good) s = .next (match tag with
      | .stream n st row _ => (s.takeMsg m).streamData n.val st.val row a data pois
      | .rdma l c key _ => (s.takeMsg m).rdData l.val c.val key a data pois off
      | .host g o _ => (s.takeMsg m).hostCpl g o data (!pois.isEmpty)
      | .loadw n blk => (s.takeMsg m).lanGot n.val blk a data (!pois.isEmpty)
      | .keep => (s.takeMsg m).aperData a data (!pois.isEmpty)
      | .loader k => if k = s.bel.loads then { s.takeMsg m with returned := s.returned ++ [{ tag := tag, addr := a, data := data, pois := pois, off := off }] } else s.takeMsg m
      | _ => { s.takeMsg m with returned := s.returned ++ [{ tag := tag, addr := a, data := data, pois := pois, off := off }] }))
  ∧ (∀ (s : State) (m : Msg) (k : Ctr) (amt : BitVec 16), m.body = .inc k amt → CanArrive s m →
    exec (.inc m .good) s = .next (acknowledges ((((s.takeMsg m).count (Reg.EVT_RX m.dst.val))).evtAdd m.dst.val k.val amt.toNat) m.dst.val m .plain))
  ∧ (∀ (s : State) (m : Msg) (id : Nat) (tag : Tag), m.body = .ack id tag → CanArrive s m →
    let t := { s.takeMsg m with unacked := s.unacked.erase (m.dst.val, id) }
    let u := if m.dst.val = 40 then { t with host := { s.host with bar2Out := s.host.bar2Out.erase id } } else if m.dst.val = 41 then t.aperAck id else t
    exec (.ack m .good) s = .next (match tag with
      | .dma ch bytes blk pois => u.dmaAck ch.val bytes blk pois
      | .rwr l key => u.rwrAck l.val key
      | _ => u))
  ∧ (∀ (s : State) (m : Msg), m.body = .rcred → CanArrive s m →
    let t := (s.takeMsg m).setCred m.dst.val m.src.val (s.credUsed m.dst.val m.src.val - 1)
    exec (.rcred m .good) s = .next (if m.dst.val = 40 then t.hostReadsGo
      else if m.dst.val < 32 then ((((t.strSend m.dst.val 0).strSend m.dst.val 1).strSend m.dst.val 2).strSend m.dst.val 3).lanSend m.dst.val 33
      else if 48 ≤ m.dst.val ∧ m.dst.val < 52 then t.lanGo (m.dst.val - 48)
      else if m.dst.val = 42 ∧ s.bel.loader.wait = true then t.loaderRead else t))
  ∧ (∀ (s : State) (m : Msg), m.body = .tc → CanArrive s m → exec (.tc m .good) s = .next ((s.takeMsg m).setReg (Reg.SEQ_TC_DONE m.src.val) (s.reg (Reg.SEQ_TC_DONE m.src.val) + 1)))
  ∧ (∀ (s : State) (m : Msg), m.body = .hb → CanArrive s m → exec (.hb m .good) s = .next ((s.takeMsg m).setBit Reg.SEQ_HB_SEEN m.src.val true))
  ∧ (∀ (s : State) (n : Spire), s.bel.hbDue.getLsbD n.val = true → s.bit Reg.KEEP_SPIRE_PSTAT n.val = true →
    ((s.core n.val).st = 0 ∨ ((s.core n.val).st = 1 ∧ (s.core n.val).part = [] ∧ (s.core n.val).todo = [] ∧
      ((s.core n.val).first ≠ 0 ∨ (s.core n.val).wait ≠ [] ∨ ¬ Misses s n.val (s.core n.val).pc.toNat)) ∨
      ((s.core n.val).st = 1 ∧ (s.core n.val).part ≠ [] ∧ (s.core n.val).rpt = none)) →
    exec (.heartbeat n) s = .next (State.post { s with bel := { s.bel with hbDue := putBit s.bel.hbDue n.val false } } n.val 42 .hb))
  ∧ (∀ (s : State) (n : Spire), s.bel.hbDue.getLsbD n.val = false ∨ s.bit Reg.KEEP_SPIRE_PSTAT n.val = false ∨ 2 ≤ (s.core n.val).st ∨
    ((s.core n.val).st = 1 ∧ (s.core n.val).part = [] ∧ ((s.core n.val).todo ≠ [] ∨
      (s.missAt n.val (s.core n.val).pc.toNat = true ∧ (s.core n.val).first = 0 ∧ (s.core n.val).wait = []))) → exec (.heartbeat n) s = .next s)
  ∧ (∀ (s : State) (src : Node) (h : Held), s.held.find? (fun h => h.node == src.val) = some h →
    ((∃ i ∈ h.waits, (src.val, i) ∈ s.unacked) → exec (.outboundEventRelease src) s = .next s)
    ∧ ((∀ i ∈ h.waits, (src.val, i) ∉ s.unacked) → h.body = .tc → exec (.outboundEventRelease src) s =
      .next (State.post { s with held := s.held.erase h } src.val h.dst.val .tc))
    ∧ (∀ k amt, (∀ i ∈ h.waits, (src.val, i) ∉ s.unacked) → h.body = .inc k amt → exec (.outboundEventRelease src) s =
      .next (State.post { s with held := (s.held.erase h).map (fun x => if x.node == src.val then { x with waits := x.waits ++ [s.msgId] } else x) } src.val h.dst.val (.inc k amt))))

/-! ### Event registers and vaults -/

/-- R184, R188, R305, R310, R311, R315: a watch armed fires at once when its counter has reached its value, else stays armed; counters are set and added to; an audit starts at its counter's value; segments 1 to 15 follow their power bits, waking for 20 µs or
losing their bytes; a waking segment becomes ON; the scrubber reads block after block and writes corrected words back. Where the rules leave a choice, it is the model's (log entries 12 and 48). -/
def Obligations.CountersAndVaults : Prop :=
  (∀ (req : Node) (n : Spire) (w : Fin 4) (v : Word) (s : State), Opens s req.val (spirePage n.val 12) → ∃ t, exec (.watchArm req n w v) s = .next t ∧
    let met := decide ((s.reg (evtReg n.val (v.toNat % 512)) - s.reg (Reg.EVT_WATCH_VAL n.val w.val)).toNat < 2 ^ 31)
    t.bit (Reg.EVT_WATCH_CFG n.val w.val) 31 = !met ∧ (met = true → t.bit (Reg.CP_IRQ_RAW n.val) (21 + w.val) = true) ∧
      t.fld (Reg.EVT_WATCH_CFG n.val w.val) 0 9 = v.toNat % 512 ∧ t.mem = s.mem ∧ t.cores = s.cores ∧ ∀ k < 512, t.reg (evtReg n.val k) = s.reg (evtReg n.val k))
  ∧ (∀ (req : Node) (n : Spire) (v : Word) (s : State), Opens s req.val (spirePage n.val 12) → let k := v.toNat % 512
    ∃ t u, exec (.counterSet req n v) s = .next t ∧ t.reg (evtReg n.val k) = s.reg (Reg.EVT_CTR_VAL n.val) ∧
      exec (.counterAdd req n v) s = .next u ∧ u.reg (evtReg n.val k) = s.reg (evtReg n.val k) + w32 ((s.reg (Reg.EVT_CTR_VAL n.val)).toNat % 2 ^ 16) ∧
      (∀ j < 512, j ≠ k → t.reg (evtReg n.val j) = s.reg (evtReg n.val j) ∧ u.reg (evtReg n.val j) = s.reg (evtReg n.val j)) ∧ t.mem = s.mem ∧ u.mem = s.mem)
  ∧ (∀ (req : Node) (n : Spire) (i : Fin 16) (v : Word) (s : State), Opens s req.val (spirePage n.val 12) → let a := Reg.EVT_AUD_CFG n.val i.val
    exec (.auditEnable req n i v) s = .next ((s.setReg a (((v ||| 0x80000000) &&& rwBits a) ||| (s.reg a &&& ~~~(rwBits a)))).setReg (Reg.EVT_AUD_LAST n.val i.val)
      (s.reg (evtReg n.val (v.toNat / 2 ^ 16 % 2 ^ 9)))))
  ∧ (∀ (req : Node) (n : Spire) (v : Word) (s : State), Opens s req.val (spirePage n.val 4) → ∀ c ∈ [Instr.segmentPowerUp req n v, Instr.segmentPowerDown req n v],
    ∃ t, exec c s = .next t ∧ t.fld (Reg.VLT_SEG_STAT n.val) 0 2 = s.fld (Reg.VLT_SEG_STAT n.val) 0 2 ∧
      (∀ seg < 16, 0 < seg → let old := s.fld (Reg.VLT_SEG_STAT n.val) (2 * seg) 2
        t.fld (Reg.VLT_SEG_STAT n.val) (2 * seg) 2 = (if v.getLsbD seg then (if old = 0 then 1 else old) else 0) ∧
        (v.getLsbD seg = true → old = 0 → Tab.get (fun _ => 0) t.wakeAt (n.val * 16 + seg) = s.tb.now.toNat + 20000)) ∧
      (∀ a, let seg := (a - vaultAddr n.val 0) / 2 ^ 20
        t.byte a = if vaultAddr n.val 0 ≤ a ∧ 0 < seg ∧ seg < 16 ∧ v.getLsbD seg = false ∧ s.fld (Reg.VLT_SEG_STAT n.val) (2 * seg) 2 ≠ 0
          then memDefault a else s.byte a))
  ∧ (∀ (n : Spire) (seg : Fin 16) (s : State), let a := Reg.VLT_SEG_STAT n.val
    (s.fld a (2 * seg.val) 2 = 1 → Tab.get (fun _ => 0) s.wakeAt (n.val * 16 + seg.val) ≤ s.tb.now.toNat →
      exec (.segReady n seg) s = .next ((s.setFld a (2 * seg.val) 2 2).raise (spirePage n.val 4) 0))
    ∧ (s.fld a (2 * seg.val) 2 ≠ 1 ∨ s.tb.now.toNat < Tab.get (fun _ => 0) s.wakeAt (n.val * 16 + seg.val) → exec (.segReady n seg) s = .next s))
  ∧ (∀ (n : Spire) (s : State), let k := (s.reg (Reg.VLT_SCRUB_POS n.val)).toNat
    let b := vaultAddr n.val 0 / 256 + k
    (s.bit (Reg.VLT_SCRUB_CTL n.val) 31 = false → exec (.scrubRead n) s = .next s)
    ∧ (s.bit (Reg.VLT_SCRUB_CTL n.val) 31 = true → k + 1 < 2 ^ 16 → s.segOn n.val (k * 256) = true → s.segOn n.val ((k + 1) * 256) = true →
      (∀ w, 32 * b ≤ w → w < 32 * b + 32 → w ∉ s.poison ∧ w ∉ s.eccTwo) →
      ∃ t, exec (.scrubRead n) s = .next t ∧ t.reg (Reg.VLT_SCRUB_POS n.val) = w32 (k + 1) ∧ t.mem = s.mem ∧
        t.scrubWb = s.scrubWb ++ (if ((List.range 32).map (32 * b + ·)).filter (fun w => s.eccOne.contains w) = [] then []
          else [(b, ((List.range 32).map (32 * b + ·)).filter (fun w => s.eccOne.contains w))])))
  ∧ (∀ (n : Spire) (s : State) (e : Nat × List Nat), s.scrubWb.find? (fun e => decide (vaultAddr n.val 0 / 256 ≤ e.1) && decide (e.1 < vaultAddr n.val 0 / 256 + 2 ^ 16)) = some e →
    exec (.scrubWriteback n) s = .next { s with eccOne := s.eccOne.filter (fun w => !e.2.contains w), scrubWb := s.scrubWb.erase e })

/-! ### The dome -/

/-- Descriptor ws stands at the head of the dome's queue, rest behind it, and may issue as far as R204's common conditions go: the dome is enabled, its queue is not halted and no table load is in
progress. -/
structure Sys2Proof.Heads (s : State) (n : Nat) (ws : List Nat) (rest : List (List Nat)) : Prop where
  enabled : s.bit (domePage n * 0x1000 + 8) 0 = true
  running : (s.dome n).halt = false
  free : (s.dome n).tl = none
  head : (s.dome n).queue = ws :: rest

/-- The 256-byte block at physical offset p of vault n reads without error (R183, R186): its segment is ON and no word of it is poisoned or damaged. -/
def Sys2Proof.blockSound (s : State) (n p : Nat) : Prop :=
  p % 256 = 0 ∧ s.segOn n p = true ∧ ∀ w, vaultAddr n p / 8 ≤ w → w < vaultAddr n p / 8 + 32 → w ∉ s.poison ∧ w ∉ s.eccTwo ∧ w ∉ s.eccOne

/-- The bytes of cnt blocks from local address a. -/
def Sys2Proof.blocksFrom (s : State) (n a cnt : Nat) : List Byte :=
  (List.range cnt).flatMap (fun i => s.bytes (vaultAddr n (s.phys n (a + 256 * i))) 256)

/-- The load l has read k blocks, block i being g i: bytes and poison. -/
def Sys2Proof.readTo (l : LoadSt) (k : Nat) (g : Nat → List Byte × Bool) : Prop := l.got = (List.range k).map (fun i => (i, g i))

/-- The blocks of the load l of dome n from the k-th on as they stand in the vault, behind the blocks g that it has read. -/
def Sys2Proof.readOn (s : State) (n : Nat) (l : LoadSt) (k : Nat) (g : Nat → List Byte × Bool) (i : Nat) : List Byte × Bool :=
  if i < k then g i else (blocksFrom s n (l.src + 256 * i) 1, false)

/-- The activations of a RUN of dome n as they stand in the vault, none of them poisoned (R191, R207, R237). -/
def Sys2Proof.memIn (s : State) (n : Nat) (f : RunF) : RunIn :=
  { elem := fun p e => match s.runElem n f p e with
      | .inl a => (s.byte (vaultAddr n (s.phys n a))).toNat
      | .inr v => v
    taint := fun _ => false }

/-- The accumulators of a FIRST or MID pass over the activations x, its RUN over (R191, R207). -/
def Sys2Proof.passed (d : Dome) (f : RunF) (x : RunIn) : Dome := { (List.range f.p).foldl (fun e p => e.putAbuf p (d.sums f x p)) d with run := none }

/-- A statistics register goes up by k and stays at its largest value. -/
def Sys2Proof.raised (s t : State) (a k : Nat) : Prop := (t.reg a).toNat = min 0xFFFFFFFF ((s.reg a).toNat + k)

/-- The descriptor ws has left the queue. -/
def Sys2Proof.dequeued (s : State) (n : Nat) (rest : List (List Nat)) : State := s.modDome n (fun d => { d with queue := rest })

/-- R191 to R215, R226, R236, R238: each descriptor at the head of the queue issues when its conditions hold, waits when they do not, and is rejected with its reason, its words kept and the queue halted, when its checks fail. A LOADW asks the Lantern for the blocks
of its tile when LSRC = 1, as its read credits allow (R289, R300), and fills SHADOW with its tile; it and a table load read their blocks one by one in address order, each as it stands in the vault at that read, and use none before the last; table loads, slots and MARK take effect as they say; a FIRST or MID pass leaves its sums in the accumulators, also when it is seen on its way, and what it has read stays as it read it; a SINGLE or LAST pass writes its outputs and no other byte, and keeps those it has
written when a later block is refused. A reserved TYPE waits for nothing before it is rejected. RESUME ends a halt and FLUSH empties the queue. Where the rules leave a choice, it is the model's (log entries 12, 30, 31 and 33). -/
def Obligations.DomeCommands : Prop :=
  (∀ (n : Spire) (s : State) (ws : List Nat) (rest : List (List Nat)), Heads s n.val ws rest → descType ws = 1 → s.loadwReason n.val ws = 0 →
    let src := if dw ws 1 24 1 = 1 then gaddr ws else s.redirect n.val (dw ws 1 0 24)
    let t := (dequeued s n.val rest).modDome n.val (fun d => { d with lw := some { words := ws, src := src, got := [], sent := 0 } })
    exec (.loadw n) s = .next (if dw ws 1 24 1 = 1 then t.lanSend n.val 33 else t))
  ∧ (∀ (n : Spire) (s : State) (l : LoadSt) (k : Nat), (s.dome n.val).lw = some l → let a := l.src + 256 * l.sent
    let nd := 48 + lanBank a
    (dw l.words 1 24 1 = 1 → l.sent < tileBlocks (dw l.words 4 0 2) → s.credUsed n.val nd < 2 → s.lanSend n.val (k + 1) =
      (((s.postRead n.val nd (.rd a 256 (.loadw n l.sent))).modDome n.val (fun d => { d with lw := some { l with sent := l.sent + 1 } })).lanSend n.val k))
    ∧ (dw l.words 1 24 1 ≠ 1 ∨ tileBlocks (dw l.words 4 0 2) ≤ l.sent ∨ 2 ≤ s.credUsed n.val nd → s.lanSend n.val (k + 1) = s))
  ∧ (∀ (n : Spire) (s : State) (ws : List Nat) (rest : List (List Nat)), Heads s n.val ws rest → descType ws = 1 → s.loadwReason n.val ws ≠ 0 →
    ∃ t, exec (.loadw n) s = .next t ∧ t.dome n.val = { s.dome n.val with queue := rest, halt := true } ∧ (∀ k < 8, t.reg (Reg.DOME_ERR_D n.val k) = w32 (ws.getD k 0)) ∧
      t.bit (domePage n.val * 0x1000 + 0x10) 1 = true ∧ t.mem = s.mem)
  ∧ (∀ (n : Spire) (s : State) (ws : List Nat) (rest : List (List Nat)), Heads s n.val ws rest → descType ws = 2 → (s.dome n.val).run = none →
    let f := runF ws
    (f.swap = true → (s.dome n.val).shFull = true ∨ (s.dome n.val).lw = none) → s.runReason n.val ws = 0 →
    ∃ t, exec (.run n) s = .next t ∧ (t.dome n.val).queue = rest ∧ (t.dome n.val).lw = (s.dome n.val).lw ∧ t.mem = s.mem ∧ t.regs = s.regs ∧
      (t.dome n.val).run = some (RunSt.start ws (s.tnsExp n.val f.itns true) (s.tnsExp n.val f.otns false)) ∧
      (f.swap = true → (t.dome n.val).active = (s.dome n.val).shadow ∧ (t.dome n.val).actValid = true ∧ (t.dome n.val).shFull = false) ∧
      (f.swap = false → (t.dome n.val).active = (s.dome n.val).active ∧ (t.dome n.val).shadow = (s.dome n.val).shadow ∧ (t.dome n.val).shFull = (s.dome n.val).shFull))
  ∧ (∀ (n : Spire) (s : State) (ws : List Nat) (rest : List (List Nat)), Heads s n.val ws rest → descType ws = 2 →
    (s.dome n.val).run.isSome = true ∨ ((runF ws).swap = true ∧ (s.dome n.val).shFull = false ∧ (s.dome n.val).lw.isSome = true) → exec (.run n) s = .next s)
  ∧ (∀ (n : Spire) (s : State) (ws : List Nat) (rest : List (List Nat)), Heads s n.val ws rest → (s.dome n.val).run = none → (s.dome n.val).lw = none → s.tableReason n.val ws = 0 →
    let go := (dequeued s n.val rest).modDome n.val (fun d => { d with tl := some { words := ws, src := dw ws 1 0 24, got := [], sent := 0 } })
    (descType ws = 3 → (s.dome n.val).upd = 0 → exec (.loadcb n) s = .next go)
    ∧ (descType ws = 4 → exec (.loadrs n) s = .next go)
    ∧ (descType ws = 5 → exec (.loadaf n) s = .next go)
    ∧ (descType ws = 6 → exec (.poolcfg n) s = .next (State.domeDone ((dequeued s n.val rest).modDome n.val (fun d => { d with
        pool := Tab.set (fun _ => 0) d.pool (dw ws 1 0 2) (2 ^ 15 + dw ws 1 0 15) })) n.val ws))
    ∧ (descType ws = 7 → let k := dw ws 1 0 3
      exec (.wincfg n) s = .next (State.domeDone ((((dequeued s n.val rest).setReg (Reg.DOME_WIN_POS n.val k) (w32 (dw ws 7 0 24))).setReg (Reg.DOME_WIN_TAP n.val k) (w32 (2 ^ 31))).modDome n.val
        (fun d => { d with win := Tab.set (fun _ => []) d.win k ws })) n.val ws))
    ∧ (descType ws = 8 → exec (.mark n) s = .next (State.domeDone (dequeued s n.val rest) n.val ws)))
  ∧ (∀ (n : Spire) (s : State), (s.dome n.val).queue = [] ∨ (s.dome n.val).halt = true ∨ (s.dome n.val).tl.isSome = true ∨ s.bit (domePage n.val * 0x1000 + 8) 0 = false →
    ∀ c ∈ [Instr.loadw n, .run n, .loadcb n, .loadrs n, .loadaf n, .poolcfg n, .wincfg n, .mark n], exec c s = .next s)
  ∧ (∀ (n : Spire) (s : State) (ws : List Nat) (rest : List (List Nat)), Heads s n.val ws rest → (s.dome n.val).run.isSome = true ∨ (s.dome n.val).lw.isSome = true → 1 ≤ descType ws → descType ws ≤ 8 →
    ∀ c ∈ [Instr.loadcb n, .loadrs n, .loadaf n, .poolcfg n, .wincfg n, .mark n], exec c s = .next s)
  ∧ (∀ (n : Spire) (s : State) (ws : List Nat) (rest : List (List Nat)), Heads s n.val ws rest → descType ws = 0 ∨ 8 < descType ws →
    ∃ t, exec (.mark n) s = .next t ∧ t.dome n.val = { s.dome n.val with queue := rest, halt := true } ∧ (∀ k < 8, t.reg (Reg.DOME_ERR_D n.val k) = w32 (ws.getD k 0)) ∧
      t.bit (domePage n.val * 0x1000 + 0x10) 1 = true ∧ t.mem = s.mem ∧
      (s.bit (domePage n.val * 0x1000 + 0x10) 31 = false → t.reg (domePage n.val * 0x1000 + 0x20) = w32 (0x70 * 2 ^ 24 + descType ws * 2 ^ 16 + 1)))
  ∧ (∀ (n : Spire) (s : State) (l : LoadSt), (s.dome n.val).lw = some l → let b := tileBlocks (dw l.words 4 0 2)
    (∀ k m g, dw l.words 1 24 1 ≠ 1 → readTo l k g → k ≤ m → m ≤ b → (∀ i < m, k ≤ i → blockSound s n.val (s.phys n.val (l.src + 256 * i))) → let x := readOn s n.val l k g
      (∃ l', exec (.loadwComplete ⟨n, some m⟩) s = .next (State.modDome { s with contended := l' } n.val (fun d =>
        { d with lw := some { l with got := (List.range m).map (fun i => (i, x i)) } })))
      ∧ (m = b → ∃ l', exec (.loadwComplete ⟨n, none⟩) s = .next (State.domeDone ((State.modDome { s with contended := l' } n.val (fun d =>
        { d with lw := none, shFull := true, shadow := d.fillBank l.words ((List.range b).flatMap (fun i => (x i).1)) ((List.range b).any (fun i => (x i).2)) })).bump
          (Reg.DOME_LOADW_CNT n.val)) n.val l.words)))
    ∧ (dw l.words 1 24 1 = 1 → (∃ i < b, ∀ e ∈ l.got, e.1 ≠ i) → exec (.loadwComplete ⟨n, none⟩) s = .next s)
    ∧ (∀ m, dw l.words 1 24 1 = 1 → exec (.loadwComplete ⟨n, some m⟩) s = .next s)
    ∧ (dw l.words 1 24 1 = 1 → (∀ i < b, ∃ e ∈ l.got, e.1 = i) → ∃ t, exec (.loadwComplete ⟨n, none⟩) s = .next t ∧ (t.dome n.val).lw = none ∧ (t.dome n.val).shFull = true ∧
      (t.dome n.val).active = (s.dome n.val).active ∧ t.mem = s.mem))
  ∧ (∀ (n : Spire) (s : State) (l : LoadSt) (k m : Nat) (g : Nat → List Byte × Bool), (s.dome n.val).tl = some l → let b := tableBlocks l.words
    readTo l k g → k ≤ m → m ≤ b → (∀ i < m, k ≤ i → blockSound s n.val (s.phys n.val (l.src + 256 * i))) → let x := readOn s n.val l k g
      (∃ l', exec (.tableLoadComplete ⟨n, some m⟩) s = .next (State.modDome { s with contended := l' } n.val (fun d =>
        { d with tl := some { l with got := (List.range m).map (fun i => (i, x i)) } })))
      ∧ (m = b → ∃ l', exec (.tableLoadComplete ⟨n, none⟩) s = .next (State.domeDone (State.modDome { s with contended := l' } n.val (fun d =>
        { d.fillTable l.words ((List.range b).flatMap (fun i => (x i).1)) ((List.range b).any (fun i => (x i).2)) with tl := none })) n.val l.words)))
  ∧ (∀ (n : Spire) (s : State) (l : LoadSt), (s.dome n.val).tl = some l → l.got.length < tableBlocks l.words → let ws := l.words
    let p := s.phys n.val (l.src + 256 * l.got.length)
    p % 256 = 0 → s.segOn n.val p = false → ∃ t, exec (.tableLoadComplete ⟨n, none⟩) s = .next t ∧ (t.dome n.val).tl = none ∧ (t.dome n.val).halt = true ∧
      (t.dome n.val).cb = (s.dome n.val).cb ∧ (t.dome n.val).rs = (s.dome n.val).rs ∧ (t.dome n.val).af = (s.dome n.val).af ∧ t.bit (domePage n.val * 0x1000 + 0x10) 2 = true ∧
      (∀ k < 8, t.reg (Reg.DOME_ERR_D n.val k) = w32 (ws.getD k 0)) ∧ t.mem = s.mem)
  ∧ (∀ (n : Spire) (s : State) (ws : List Nat) (ein eout : Int), (s.dome n.val).run = some (RunSt.start ws ein eout) → let f := runF ws
    (∀ b ∈ s.runBlocks n.val f, blockSound s n.val (s.phys n.val (256 * b))) → f.outs = false → f.win = 0 →
    (∃ t, exec (.runComplete ⟨n, none⟩) s = .next t ∧ t.dome n.val = passed (s.dome n.val) f (memIn s n.val f) ∧ t.mem = s.mem ∧ raised s t (Reg.DOME_RUN_CNT n.val) 1 ∧
      raised s t (Reg.DOME_ARRAY_CYC n.val) (256 + max f.p (s.runBlocks n.val f).length) ∧ raised s t (Reg.DOME_POS_CNT n.val) f.p)
    ∧ (∀ m k, k ≤ f.p → ∃ t r u, exec (.runComplete ⟨n, some (m, k)⟩) s = .next t ∧ (t.dome n.val).run = some r ∧ r.words = ws ∧ r.pos = k ∧ t.mem = s.mem ∧
      (f.p ≤ 256 → r.buf.length = if k = 0 then min m (s.runBlocks n.val f).length else (s.runBlocks n.val f).length) ∧
      (∀ e ∈ r.buf, e.1 ∈ s.runBlocks n.val f ∧ e.2 = (s.bytes (vaultAddr n.val (s.phys n.val (256 * e.1))) 256, [])) ∧
      t.reg (Reg.DOME_RUN_CNT n.val) = s.reg (Reg.DOME_RUN_CNT n.val) ∧ raised s t (Reg.DOME_POS_CNT n.val) k ∧
      exec (.runComplete ⟨n, none⟩) t = .next u ∧ u.dome n.val = passed (s.dome n.val) f (memIn s n.val f) ∧ raised s u (Reg.DOME_POS_CNT n.val) f.p ∧
      (f.p ≤ 256 → (s.runBlocks n.val f).length ≤ m → ∀ mem, ∃ v, exec (.runComplete ⟨n, none⟩) { t with mem := mem } = .next v ∧ v.dome n.val = u.dome n.val)))
  ∧ (∀ (n : Spire) (s : State) (ws : List Nat) (ein eout : Int) (j e : Nat), (s.dome n.val).run = some (RunSt.start ws ein eout) → let f := runF ws
    (∀ b ∈ s.runBlocks n.val f, blockSound s n.val (s.phys n.val (256 * b))) → f.outs = true → f.pen = false → f.win = 0 → s.eccOne = [] → s.eccTwo = [] → j ≤ e → e < f.p → let blk := fun p => s.outAddr n.val f p 0 / 256
    (∀ p < e, j ≤ p → blk (p + 1) = blk p) → e + 1 = f.p ∨ blk (e + 1) ≠ blk e →
    (∀ p < j, ∀ c < f.n, s.segOn n.val (s.phys n.val (s.outAddr n.val f p c)) = true) → (∀ p < e + 1, j ≤ p → ∀ c < f.n, s.segOn n.val (s.phys n.val (s.outAddr n.val f p c)) = false) →
    ∃ t, exec (.runComplete ⟨n, none⟩) s = .next t ∧ (t.dome n.val).run = none ∧ (t.dome n.val).halt = true ∧ t.bit (domePage n.val * 0x1000 + 0x10) 2 = true ∧
      (∀ k < 8, t.reg (Reg.DOME_ERR_D n.val k) = w32 (ws.getD k 0)) ∧ t.reg (Reg.DOME_RUN_CNT n.val) = s.reg (Reg.DOME_RUN_CNT n.val) ∧
      raised s t (Reg.DOME_POS_CNT n.val) (min f.p (e + 65)) ∧ raised s t (Reg.DOME_ARRAY_CYC n.val) (256 + e) ∧
      (∀ a, (∀ p < j, ∀ c < f.n, ∀ i < f.osize, a ≠ vaultAddr n.val (s.phys n.val (s.outAddr n.val f p c)) + i) → t.byte a = s.byte a))
  ∧ (∀ (n : Spire) (s : State) (ws : List Nat) (ein eout : Int), (s.dome n.val).run = some (RunSt.start ws ein eout) → let f := runF ws
    (∀ b ∈ s.runBlocks n.val f, blockSound s n.val (s.phys n.val (256 * b))) → f.outs = true → f.pen = false → s.eccOne = [] → s.eccTwo = [] →
    (∀ p < f.p, ∀ c < f.n, s.segOn n.val (s.phys n.val (s.outAddr n.val f p c)) = true) →
    ∃ t, exec (.runComplete ⟨n, none⟩) s = .next t ∧ (t.dome n.val).run = none ∧ (t.dome n.val).active = (s.dome n.val).active ∧ (t.dome n.val).queue = (s.dome n.val).queue ∧
      (∀ a, (∀ p < f.p, ∀ c < f.n, ∀ i < f.osize, a ≠ vaultAddr n.val (s.phys n.val (s.outAddr n.val f p c)) + i) → t.byte a = s.byte a) ∧
      (f.int = true → f.ofmt ≠ 2 → f.p = 1 → f.win = 0 → f.odst % 64 = 0 → ∀ c < f.n, let m := (s.dome n.val).sums f (memIn s n.val f) 0
        t.byte (vaultAddr n.val (s.phys n.val (f.odst + c))) = BitVec.ofNat 8 (((s.dome n.val).outI f c (m.1.getD c 0) m.2.1).q)))
  ∧ (∀ (n : Spire) (upTo : Option (Nat × Nat)) (k : Option Nat) (s : State), (s.dome n.val).run = none → (s.dome n.val).lw = none → (s.dome n.val).tl = none →
    ∀ c ∈ [Instr.runComplete ⟨n, upTo⟩, .loadwComplete ⟨n, k⟩, .tableLoadComplete ⟨n, k⟩], exec c s = .next s)
  ∧ (∀ (req : Node) (n : Spire) (v : Word) (s : State), Opens s req.val (domePage n.val) →
    exec (.resume req n v) s = .next (s.modDome n.val (fun d => { d with halt := false, queue := if v.getLsbD 1 then [] else d.queue }))
    ∧ exec (.flush req n v) s = .next (s.modDome n.val (fun d => { d with halt := if v.getLsbD 0 then false else d.halt, queue := [] })))

/-! ### Scales, weight regions and the update engine -/

/-- Physical offset of the log's record at DOME_LOG_POS, in the ring as LOG_EN found it (R224). -/
def Sys2Proof.logPlace (s : State) (n : Nat) : Nat := (s.dome n).logPhys ((s.dome n).logBase + s.fld (Reg.DOME_LOG_POS n) 0 20 * 16)

/-- The local ranges that the update engine of spire n may write (R230): the new weights, m, v and, under TEN, the two transposed tiles. -/
def Sys2Proof.updRanges (s : State) (n : Nat) : List (Nat × Nat) :=
  let (_, _, ma, va, nwa, ta) := s.updAddrs n
  let b := 256 * tileBlocks (updCode (s.dome n).updCtl)
  [(nwa, b), (ma, 256 * 33), (va, 256 * 33)] ++ (if (s.dome n).updCtl.getLsbD 11 then [(ta, 2 * b)] else [])

/-- Blocks that the update engine of spire n reads, by their local addresses in order (R230, R231): the gradients' 128, the weight tile, m and v. -/
def Sys2Proof.updReadBlocks (s : State) (n : Nat) : List Nat :=
  let (ga, wa, ma, va, _, _) := s.updAddrs n
  let run := fun (a k : Nat) => (List.range k).map (fun i => a + 256 * i)
  run ga 128 ++ run wa (tileBlocks (updCode (s.dome n).updCtl)) ++ run ma 33 ++ run va 33

/-- R223, R224, R228 to R232: a configuration write keeps its defined bits and a set FRZ clears the proposal; an exponent is written while its tensor is frozen and refused otherwise; LOG_EN sets when the log's range may be written and keeps the ring as it then is; a record goes to the place the position names and moves it, modulo the ring; a start that passes its checks
makes the engine ready, one that does not is refused with its reason and writes nothing; the engine begins when no LOADCB is in progress, reads block by block and, once begun, ends: with every segment ON and no error it counts
a tile, a refused first read is reported, and in every case no byte is written but those of the new weights, the two states and, under TEN, the transposed tiles. Where the rules leave a choice, it is the model's (log entries 12 and 32). -/
def Obligations.ScaleCommands : Prop :=
  (∀ (req : Node) (n : Spire) (t : Fin 64) (v : Word) (s : State), Opens s req.val (spirePage n.val 8) → let a := Reg.DOME_TNS_CFG n.val t.val
    let e := Reg.DOME_TNS_EXP n.val t.val
    (v.extractLsb' 0 2 = 3#2 → exec (.tnsCfgWrite req n t v) s = .next s)
    ∧ (v.extractLsb' 0 2 ≠ 3#2 → exec (.tnsCfgWrite req n t v) s = .next (if v.getLsbD 7 then
        (s.setReg a (v &&& 0xFFFFFFC3)).setReg e (s.reg e &&& 0x7F00FFFF) else s.setReg a (v &&& 0xFFFFFFC3))))
  ∧ (∀ (req : Node) (n : Spire) (t : Fin 64) (v : Word) (s : State), Opens s req.val (spirePage n.val 8) → let e := Reg.DOME_TNS_EXP n.val t.val
    (s.bit (Reg.DOME_TNS_CFG n.val t.val) 7 = true → exec (.expWrite req n t v) s = .next (s.setReg e ((s.reg e &&& 0xFFFFFF80) ||| (v &&& 0x7F))))
    ∧ (s.bit (Reg.DOME_TNS_CFG n.val t.val) 7 = false → exec (.expWrite req n t v) s = .next (reports s (spirePage n.val 8) 0x74 t.val 0 req.val)))
  ∧ (∀ (req : Node) (n : Spire) (v : Word) (s : State), Opens s req.val (spirePage n.val 9) →
    let len := max 1 (s.fld (Reg.DOME_LOG_LEN n.val) 0 16) * 256
    (s.rangeOk n.val (s.fld (Reg.DOME_LOG_BASE n.val) 8 16 * 256) len 1 = true → exec (.logEnWrite req n v) s = .next ((s.setReg (Reg.DOME_ADP_CTL n.val) ((v ||| 2) &&& 3)).modDome n.val (fun d =>
      { d with logBase := s.fld (Reg.DOME_LOG_BASE n.val) 8 16 * 256, logLen := max 1 (s.fld (Reg.DOME_LOG_LEN n.val) 0 16), logTb := [s.reg (Reg.VLT_TB_BASE n.val 0),
        s.reg (Reg.VLT_TB_BASE n.val 1), s.reg (Reg.VLT_TB_BASE n.val 2), s.reg (Reg.VLT_TB_BASE n.val 3)] })))
    ∧ (s.rangeOk n.val (s.fld (Reg.DOME_LOG_BASE n.val) 8 16 * 256) len 1 = false → ∃ t, exec (.logEnWrite req n v) s = .next t ∧ t.reg (Reg.DOME_ADP_CTL n.val) = s.reg (Reg.DOME_ADP_CTL n.val) ∧
      t.mem = s.mem ∧ t.bit (spirePage n.val 8 * 0x1000 + 0x10) 31 = true))
  ∧ (∀ (n : Spire) (r16 : List Byte) (s : State), r16.length = 16 → s.segOn n.val (logPlace s n.val) = true → let k := (s.fld (Reg.DOME_LOG_POS n.val) 0 20 + 1) % (16 * max 1 (s.dome n.val).logLen)
    let t := s.logAppend n.val r16
    (∀ a, t.byte a = if vaultAddr n.val (logPlace s n.val) ≤ a ∧ a < vaultAddr n.val (logPlace s n.val) + 16 then r16.getD (a - vaultAddr n.val (logPlace s n.val)) 0 else s.byte a) ∧
      t.reg (Reg.DOME_LOG_POS n.val) = w32 k ∧ (k = 0 → t.bit (spirePage n.val 8 * 0x1000 + 0x10) 6 = true))
  ∧ (∀ (req : Node) (n : Spire) (v : Word) (s : State), Opens s req.val (spirePage n.val 9) → let t := s.setReg (Reg.DOME_UPD_CTL n.val) (v &&& 0xFFFFFE)
    (s.updReason n.val (v ||| 0x80000000) = 0 → exec (.updStart req n v) s = .next (t.modDome n.val (fun d => { d with upd := 1, updCtl := v ||| 0x80000000 })))
    ∧ (s.updReason n.val (v ||| 0x80000000) ≠ 0 → exec (.updStart req n v) s =
      .next (State.raise (reports s (spirePage n.val 8) 0x75 (s.fld (Reg.DOME_UPD_REG n.val) 0 2) (s.updReason n.val (v ||| 0x80000000)) req.val) (spirePage n.val 8) 3)))
  ∧ (∀ (n : Spire) (s : State), (s.dome n.val).upd = 1 → (∀ l, (s.dome n.val).tl = some l → descType l.words ≠ 3) →
    exec (.updEngineBegin n) s = .next (s.modDome n.val (fun d => { d with upd := 2, updGot := [] })))
  ∧ (∀ (n : Spire) (s : State) (l : LoadSt), (s.dome n.val).tl = some l → descType l.words = 3 → exec (.updEngineBegin n) s = .next s)
  ∧ (∀ (n : Spire) (s : State), (s.dome n.val).upd ≠ 1 → exec (.updEngineBegin n) s = .next s)
  ∧ (∀ (n : Spire) (s : State), (s.dome n.val).upd = 2 → ∃ t, exec (.updDone ⟨n, none⟩) s = .next t ∧ (t.dome n.val).upd = 0 ∧ t.reg (Reg.DOME_UPD_REG n.val) = s.reg (Reg.DOME_UPD_REG n.val) ∧
    (∀ a, (∀ q ∈ updRanges s n.val, ∀ i < q.2, a ≠ vaultAddr n.val (s.phys n.val (q.1 + i))) → t.byte a = s.byte a) ∧
    ((∀ seg < 16, s.segOn n.val (seg * 2 ^ 20) = true) → s.poison = [] → s.eccOne = [] → s.eccTwo = [] → raised s t (Reg.DOME_UPD_CNT n.val) 1 ∧
      t.bit (spirePage n.val 8 * 0x1000 + 0x10) 2 = true) ∧
    ((s.dome n.val).updGot = [] → s.segOn n.val (s.phys n.val (s.fld (Reg.DOME_UPD_GSRC n.val) 0 24)) = false → s.phys n.val (s.fld (Reg.DOME_UPD_GSRC n.val) 0 24) % 256 = 0 → t.mem = s.mem ∧
      t.bit (spirePage n.val 8 * 0x1000 + 0x10) 4 = true ∧ t.reg (Reg.DOME_UPD_CNT n.val) = s.reg (Reg.DOME_UPD_CNT n.val)))
  ∧ (∀ (n : Spire) (s : State) (k : Nat), (s.dome n.val).upd = 2 → (s.dome n.val).updGot = [] → k ≤ (updReadBlocks s n.val).length →
    (∀ b ∈ (updReadBlocks s n.val).take k, blockSound s n.val (s.phys n.val b)) →
    ∃ l', exec (.updDone ⟨n, some k⟩) s = .next (State.modDome { s with contended := l' } n.val (fun d => { d with
      updGot := ((updReadBlocks s n.val).take k).map (fun b => (blocksFrom s n.val b 1, [])) })))
  ∧ (∀ (n : Spire) (s t : State) (k : Nat), exec (.updDone ⟨n, some k⟩) s = .next t → (t.dome n.val).upd = 2 → exec (.updDone ⟨n, none⟩) t = exec (.updDone ⟨n, none⟩) s)
  ∧ (∀ (n : Spire) (k : Option Nat) (s : State), (s.dome n.val).upd ≠ 2 → exec (.updDone ⟨n, k⟩) s = .next s)

/-! ### DMA channels and streams -/

/-- Words that n bytes from address a touch read without error (R186, R400). -/
def Sys2Proof.wordsSound (s : State) (a n : Nat) : Prop := ∀ w ∈ wordsOf a n, w ∉ s.poison ∧ w ∉ s.eccTwo ∧ w ∉ s.eccOne

/-- The 256-byte blocks that n bytes from address a touch read without error (R169, R186). -/
def Sys2Proof.blocksSound (s : State) (a n : Nat) : Prop := wordsSound s (a / 256 * 256) ((a + n + 255) / 256 * 256 - a / 256 * 256)

/-- R175, R268 to R276: START of an idle channel that passes its checks makes it busy with all bytes left and none done; refused, it leaves its reason in DMA_STAT and reports it; on a busy channel it reports 7. STOP ends a busy channel, at once when nothing is in flight. A busy channel requests its next piece, cut at
256-byte boundaries of the destination, when its read credits last, or sends the bytes of its own vault, as they stand or shaped tile by tile, in a posted write, also to its own vault, where it is written later than it was read (R174, R277); otherwise it presents nothing. Where the rules leave a choice, it is the model's (log entries 12, 75 and 97). -/
def Obligations.DmaChannels : Prop :=
  (∀ (req : Node) (ch : Fin 288) (v : Word) (s : State), Opens s req.val (dmaPage ch.val) → s.bit (dmaReg Reg.DMA_STAT ch.val) 31 = false →
    let t := s.setReg (dmaReg Reg.DMA_CTL ch.val) (v &&& 0x0FFFFFF8)
    let cnt := s.reg (dmaReg Reg.DMA_CNT ch.val)
    (t.dmaReason ch.val = 0 → cnt ≠ 0 → exec (.dmaCtlStart req ch v) s = .next ((((t.setReg (dmaReg Reg.DMA_LEFT ch.val) cnt).setReg (dmaReg Reg.DMA_DONE ch.val) 0).setReg
      (dmaReg Reg.DMA_STAT ch.val) 0x80000000).setDma ch.val DmaSt.reset))
    ∧ (t.dmaReason ch.val = 0 → cnt = 0 → ∃ u, exec (.dmaCtlStart req ch v) s = .next u ∧ u.reg (dmaReg Reg.DMA_STAT ch.val) = 0 ∧ u.reg (dmaReg Reg.DMA_DONE ch.val) = 0 ∧ u.mem = s.mem ∧
      u.bit (dmaPage ch.val * 0x1000 + 0x10) (dmaIdx ch.val) = true)
    ∧ (t.dmaReason ch.val ≠ 0 → ∃ u, exec (.dmaCtlStart req ch v) s = .next u ∧ u.reg (dmaReg Reg.DMA_STAT ch.val) = w32 (t.dmaReason ch.val <<< 24) ∧ u.mem = s.mem ∧
      u.reg (dmaReg Reg.DMA_LEFT ch.val) = s.reg (dmaReg Reg.DMA_LEFT ch.val) ∧ u.bit (dmaPage ch.val * 0x1000 + 0x10) (if ch.val < 256 then 8 + dmaIdx ch.val else 4 + dmaIdx ch.val) = true))
  ∧ (∀ (req : Node) (ch : Fin 288) (v : Word) (s : State), Opens s req.val (dmaPage ch.val) → s.bit (dmaReg Reg.DMA_STAT ch.val) 31 = true → v.getLsbD 30 = false →
    exec (.dmaCtlStart req ch v) s = .next (State.dmaErrInt (reports s (dmaPage ch.val) 0xA0 (if ch.val < 256 then ch.val % 8 else ch.val - 256) 7 41) ch.val))
  ∧ (∀ (req : Node) (ch : Fin 288) (v : Word) (s : State), Opens s req.val (dmaPage ch.val) → let left := s.reg (dmaReg Reg.DMA_LEFT ch.val)
    let done := s.reg (dmaReg Reg.DMA_DONE ch.val)
    let flown := left.toNat + done.toNat = (s.reg (dmaReg Reg.DMA_CNT ch.val)).toNat
    let r := (s.dmaSt ch.val).ending.getD 6
    (s.bit (dmaReg Reg.DMA_STAT ch.val) 31 = true → ¬ flown →
      exec (.dmaCtlStop req ch v) s = .next (s.setDma ch.val { s.dmaSt ch.val with ending := some r }))
    ∧ (s.bit (dmaReg Reg.DMA_STAT ch.val) 31 = true → flown → ∃ t, exec (.dmaCtlStop req ch v) s = .next t ∧ t.reg (dmaReg Reg.DMA_STAT ch.val) = w32 (r <<< 24) ∧
      t.reg (dmaReg Reg.DMA_LEFT ch.val) = left ∧ t.reg (dmaReg Reg.DMA_DONE ch.val) = done ∧ t.dmaSt ch.val = DmaSt.reset ∧ t.mem = s.mem)
    ∧ (s.bit (dmaReg Reg.DMA_STAT ch.val) 31 = false → exec (.dmaCtlStop req ch v) s = .next (s.setReg (dmaReg Reg.DMA_CTL ch.val) (v &&& 0x0FFFFFF8))))
  ∧ (∀ (ch : Fin 288) (s : State), s.bit (dmaReg Reg.DMA_STAT ch.val) 31 = false ∨ (s.dmaSt ch.val).ending.isSome = true ∨
    (s.reg (dmaReg Reg.DMA_CNT ch.val)).toNat ≤ (s.dmaSt ch.val).next → exec (.dmaPieceRequest ch) s = .next s)
  ∧ (∀ (ch : Fin 288) (s : State), let src := s.reg64 (dmaReg Reg.DMA_SRC_LO ch.val) + (s.dmaSt ch.val).next
    let dst := s.reg64 (dmaReg Reg.DMA_DST_LO ch.val) + (s.dmaSt ch.val).next
    let len := min ((s.reg (dmaReg Reg.DMA_CNT ch.val)).toNat - (s.dmaSt ch.val).next) (256 - dst % 256)
    s.bit (dmaReg Reg.DMA_STAT ch.val) 31 = true → (s.dmaSt ch.val).ending = none → 0 < len → s.fld (dmaReg Reg.DMA_SHAPE ch.val) 24 3 = 0 →
    (256 ≤ ch.val ∨ s.regionOf (s.reg64 (dmaReg Reg.DMA_SRC_LO ch.val)) ≠ .vault (ch.val / 8)) →
    ((∀ nd, s.credUsed (dmaNode ch.val) nd = 0) → ∃ t, exec (.dmaPieceRequest ch) s = .next t ∧ t.mem = s.mem ∧
      t.mesh.map Msg.body = s.mesh.map Msg.body ++ (cutBlocks src len).map (fun q => Body.rreq q.1 q.2 (dst + (q.1 - src)) (dmaTag ch.val q.2 ((dst + (q.1 - src)) / 256) false)) ∧
      t.reg (dmaReg Reg.DMA_LEFT ch.val) = s.reg (dmaReg Reg.DMA_LEFT ch.val) - w32 len ∧ t.dmaSt ch.val = { s.dmaSt ch.val with next := (s.dmaSt ch.val).next + len })
    ∧ ((∃ q ∈ cutBlocks src len, 2 ≤ s.credUsed (dmaNode ch.val) (s.nodeOf q.1)) → exec (.dmaPieceRequest ch) s = .next s))
  ∧ (∀ (ch : Fin 288) (s : State), ch.val < 256 → let n := ch.val / 8
    let o := (s.dmaSt ch.val).next
    let src := s.reg64 (dmaReg Reg.DMA_SRC_LO ch.val)
    let dst := s.reg64 (dmaReg Reg.DMA_DST_LO ch.val) + o
    let cnt := (s.reg (dmaReg Reg.DMA_CNT ch.val)).toNat
    let len := min (cnt - o) (256 - dst % 256)
    let ctl := s.reg (dmaReg Reg.DMA_CTL ch.val)
    s.bit (dmaReg Reg.DMA_STAT ch.val) 31 = true → (s.dmaSt ch.val).ending = none → 0 < len → s.fld (dmaReg Reg.DMA_SHAPE ch.val) 24 3 = 0 → s.regionOf src = .vault n →
    s.segsOn n (src - vaultAddr n 0 + o) len = true → blocksSound s (src + o) len →
    ∃ l, exec (.dmaPieceRequest ch) s = .next (State.post ((State.setReg { s with contended := l } (dmaReg Reg.DMA_LEFT ch.val) (s.reg (dmaReg Reg.DMA_LEFT ch.val) - w32 len)).setDma ch.val { s.dmaSt ch.val with next := o + len }) n (s.nodeOf dst)
      (.pw (cellsAt dst (s.bytes (src + o) len)) [] (if ctl.getLsbD 27 = true ∧ o + len = cnt then some ⟨ctl.toNat / 2 ^ 18 % 2 ^ 9, Nat.mod_lt _ (by decide)⟩ else none) false
        (dmaTag ch.val len (dst / 256) false)) (s.regionOf dst != .vault n)))
  ∧ (∀ (ch : Fin 288) (s : State), ch.val < 256 → let n := ch.val / 8
    let o := (s.dmaSt ch.val).next
    let shape := s.fld (dmaReg Reg.DMA_SHAPE ch.val) 24 3
    let pitch := s.fld (dmaReg Reg.DMA_SHAPE ch.val) 0 20
    let p := s.reg64 (dmaReg Reg.DMA_SRC_LO ch.val) - vaultAddr n 0 + o / 256 * (s.reg (dmaReg Reg.DMA_TSTEP ch.val)).toNat
    let dst := s.reg64 (dmaReg Reg.DMA_DST_LO ch.val) + o
    let cnt := (s.reg (dmaReg Reg.DMA_CNT ch.val)).toNat
    s.bit (dmaReg Reg.DMA_STAT ch.val) 31 = true → (s.dmaSt ch.val).ending = none → o % 256 = 0 → o + 256 ≤ cnt → dst % 256 = 0 → 1 ≤ shape → shape ≤ 4 →
    s.regionOf (s.reg64 (dmaReg Reg.DMA_SRC_LO ch.val)) = .vault n → p + shapeSpan shape pitch ≤ 2 ^ 24 →
    (∀ seg < 16, s.segOn n (seg * 2 ^ 20) = true) → s.poison = [] → s.eccOne = [] → s.eccTwo = [] →
    ∃ t arr, exec (.dmaPieceRequest ch) s = .next t ∧ t.mem = s.mem ∧ (t.dmaSt ch.val).next = o + 256 ∧ t.reg (dmaReg Reg.DMA_LEFT ch.val) = s.reg (dmaReg Reg.DMA_LEFT ch.val) - 256 ∧
      t.mesh.map Msg.body = s.mesh.map Msg.body ++ [.pw (cellsAt dst ((List.range 256).map (fun k => s.byte (vaultAddr n (p + shapeSrc shape pitch k))))) [] arr false (dmaTag ch.val 256 (dst / 256) false)])

/-- R279 to R283: an arm that passes its checks gives the stream its credits and reads its first index blocks; a busy stream that holds an index and a credit uses the index; a row of another memory takes the credit and the next slot and stands among the rows being fetched, none of its bytes landed; a row outside the ranges, or a refused index block, is reported and ends the run. The oldest row, once whole, counts as ready
and signals its event, and the last ends the run. Where the rules leave a choice, it is the model's (log entries 12, 20 and 74). -/
def Obligations.StreamRows : Prop :=
  (∀ (n : Spire) (st : Fin 4) (s : State), s.bit (Reg.STR_STAT n.val st.val) 31 = false ∨ (s.strm n.val st.val).ending.isSome = true ∨
    (s.strm n.val st.val).count ≤ (s.strm n.val st.val).next ∨ s.fld (Reg.STR_STAT n.val st.val) 9 9 = 0 → exec (.streamRowFetch n st) s = .next s)
  ∧ (∀ (n : Spire) (st : Fin 4) (s : State), let x := s.strm n.val st.val
    let stat := Reg.STR_STAT n.val st.val
    let k := (s.reg64 (Reg.STR_IBASE_LO n.val st.val) - vaultAddr n.val 0 + 4 * x.next) % 256
    ∀ (b : List Byte) (more : List (Option (List Byte))), x.held = some b :: more → let a := s.strAddr n.val st.val (leNum ((b.drop k).take 4))
    s.bit stat 31 = true → x.ending = none → x.next < x.count → s.fld stat 9 9 ≠ 0 →
    (s.strRowOk n.val st.val a = true → s.fld (Reg.STR_ROW n.val st.val) 16 3 = 0 → s.regionOf a ≠ .vault n.val → ∃ t, exec (.streamRowFetch n st) s = .next t ∧
      t.fld stat 9 9 = s.fld stat 9 9 - 1 ∧ t.fld stat 18 9 = (s.fld stat 18 9 + 1) % 512 ∧ t.bit stat 31 = true ∧ t.mem = s.mem ∧
      t.fld (Reg.STR_HEAD n.val st.val) 8 8 = (x.next + 1) % (s.fld (Reg.STR_RING n.val st.val) 24 8 + 1) ∧ (t.strm n.val st.val).next = x.next + 1 ∧
      (t.strm n.val st.val).rows = x.rows ++ [{ j := x.next, origin := a, slot := x.next % (s.fld (Reg.STR_RING n.val st.val) 24 8 + 1), left := s.fld (Reg.STR_ROW n.val st.val) 0 16 + 1 }])
    ∧ (s.strRowOk n.val st.val a = false → exec (.streamRowFetch n st) s = .next (State.strStopAt (reports s (strPage n.val) 0x91 st.val (x.next % 2 ^ 16) 41) n.val st.val 2)))
  ∧ (∀ (n : Spire) (st : Fin 4) (s : State), let x := s.strm n.val st.val
    s.bit (Reg.STR_STAT n.val st.val) 31 = true → x.ending = none → x.next < x.count → s.fld (Reg.STR_STAT n.val st.val) 9 9 ≠ 0 →
    (x.held = [] → exec (.streamRowFetch n st) s = .next s)
    ∧ (∀ more, x.held = none :: more → x.rows = [] → ∃ t, exec (.streamRowFetch n st) s = .next t ∧ t.bit (Reg.STR_STAT n.val st.val) 31 = false ∧ t.fld (Reg.STR_STAT n.val st.val) 27 4 = 4 ∧
      t.bit (strPage n.val * 0x1000 + 0x10) (4 + st.val) = true ∧ t.mem = s.mem))
  ∧ (∀ (n : Spire) (st : Fin 4) (count : Word) (s : State), let cnt := if count = 0 then (s.reg (Reg.STR_COUNT n.val st.val)).toNat else count.toNat
    let stat := Reg.STR_STAT n.val st.val
    let p := (s.reg64 (Reg.STR_IBASE_LO n.val st.val) - vaultAddr n.val 0) / 256 * 256
    s.bit stat 31 = false → s.armReason n.val st.val cnt = 0 → cnt ≠ 0 → s.segOn n.val p = true →
    let t := s.streamArm n.val st.val count
    t.bit stat 31 = true ∧ t.fld stat 9 9 = s.fld (Reg.STR_RING n.val st.val) 24 8 + 1 ∧ t.fld stat 18 9 = 0 ∧ t.reg (Reg.STR_READY n.val st.val) = 0 ∧ t.reg (Reg.STR_HEAD n.val st.val) = 0 ∧ t.mem = s.mem ∧
      (t.strm n.val st.val).count = cnt ∧ (t.strm n.val st.val).next = 0 ∧ (t.strm n.val st.val).rows = [] ∧ (t.strm n.val st.val).held.length ≤ 2 ∧
      (t.strm n.val st.val).held.head? = some (some (s.bytes (vaultAddr n.val p) 256)))
  ∧ (∀ (n : Spire) (st : Fin 4) (s : State) (r : StreamRow) (rest : List StreamRow), let x := s.strm n.val st.val
    x.rows = r :: rest →
    (r.left ≠ 0 → exec (.slotReady n st) s = .next s)
    ∧ (r.left = 0 → x.ending = none → ∃ t, exec (.slotReady n st) s = .next t ∧ t.reg (Reg.STR_READY n.val st.val) = s.reg (Reg.STR_READY n.val st.val) + 1 ∧ t.mem = s.mem ∧
      (s.bit (Reg.STR_CTL n.val st.val) 9 = true → t.reg (evtReg n.val (s.fld (Reg.STR_CTL n.val st.val) 0 9)) = s.reg (evtReg n.val (s.fld (Reg.STR_CTL n.val st.val) 0 9)) + 1) ∧
      (s.bit (Reg.STR_CTL n.val st.val) 9 = false → ∀ k < 512, t.reg (evtReg n.val k) = s.reg (evtReg n.val k)) ∧
      ((s.reg (Reg.STR_READY n.val st.val) + 1).toNat ≠ x.count → (t.strm n.val st.val).rows = rest ∧ t.bit (Reg.STR_STAT n.val st.val) 31 = s.bit (Reg.STR_STAT n.val st.val) 31) ∧
      ((s.reg (Reg.STR_READY n.val st.val) + 1).toNat = x.count → t.bit (Reg.STR_STAT n.val st.val) 31 = false ∧ t.fld (Reg.STR_STAT n.val st.val) 27 4 = 0 ∧
        t.bit (strPage n.val * 0x1000 + 0x10) st.val = true)))
  ∧ (∀ (n : Spire) (st : Fin 4) (s : State), (s.strm n.val st.val).rows = [] → exec (.slotReady n st) s = .next s)

/-! ### The Lantern -/

/-- The number of blocks counted once more (saturating, R288). -/
def Sys2Proof.counted (s : State) (a : Nat) : Word := w32 (min 0xFFFFFFFF ((s.reg a).toNat + 1))

/-- R287 to R291, R294: the oldest request of a bank is served, which gives the read credit of its spire back: from the line that holds its block, moved to the front of its set, whose data go to the spire that asked, or as a miss, which reads the block from DRAM or joins the fill that does. A fill installs its block and delivers it to the spires that wait for it; an invalidation empties every set and ends with INV_DONE;
a preload asks for its blocks. Where the rules leave a choice, it is the model's (log entries 12 and 33). -/
def Obligations.LanternCommands : Prop :=
  (∀ (b : Fin 4) (s : State), s.lanQueue b.val = [] ∨ s.lantern.inv = true → exec (.lanternFetch b) s = .next s)
  ∧ (∀ (b : Fin 4) (s : State) (r : LanReq) (rest : List LanReq), s.lanQueue b.val = r :: rest → s.lantern.inv = false → r.addr / 256 % 4 = b.val → r.spire < 32 → s.bit 0x0C0008 0 = true →
    (∀ x, (s.lanLines r.addr).find? (fun l => l.addr == r.addr) = some x → x.ue = false → x.ce = 0 → ∃ t, exec (.lanternFetch b) s = .next t ∧ t.lanQueue b.val = rest ∧
      t.lanLines r.addr = x :: (s.lanLines r.addr).erase x ∧ t.reg Reg.LAN_HIT = counted s Reg.LAN_HIT ∧ t.reg Reg.LAN_BLOCKS = counted s Reg.LAN_BLOCKS ∧ t.mem = s.mem ∧ t.domes = s.domes ∧
      t.mesh.map (fun m => (m.src.val, m.dst.val, m.body)) = s.mesh.map (fun m => (m.src.val, m.dst.val, m.body)) ++
        [(48 + b.val, r.spire, .rcred), (48 + b.val, r.spire, .rdr r.addr x.data [] false (.loadw ⟨r.spire % 32, Nat.mod_lt _ (by decide)⟩ r.blk))])
    ∧ ((s.lanLines r.addr).find? (fun l => l.addr == r.addr) = none → r.addr < s.dramCap → (∀ f ∈ s.lanFills b.val, f.addr ≠ r.addr ∧ f.sent = true) → (s.lanFills b.val).length < 32 →
      s.credUsed (48 + b.val) (s.nodeOf r.addr) = 0 →
      ∃ t, exec (.lanternFetch b) s = .next t ∧ t.lanQueue b.val = rest ∧ t.lanFills b.val = s.lanFills b.val ++ [{ addr := r.addr, waiters := [r], install := true, sent := true }] ∧
        t.reg Reg.LAN_MISS = counted s Reg.LAN_MISS ∧ t.mesh.map Msg.body = s.mesh.map Msg.body ++ [.rcred, .rd r.addr 256 (.lantern b (r.addr / 256))] ∧ t.mem = s.mem)
    ∧ ((s.lanLines r.addr).find? (fun l => l.addr == r.addr) = none → r.addr < s.dramCap → (∃ f ∈ s.lanFills b.val, f.addr = r.addr) → exec (.lanternFetch b) s =
      .next ((((s.setLanQueue b.val rest).post (48 + b.val) r.spire .rcred).bump Reg.LAN_MERGE).setLanFills b.val ((s.lanFills b.val).map (fun f => if f.addr = r.addr then { f with waiters := f.waiters ++ [r] } else f))))
    ∧ ((s.lanLines r.addr).find? (fun l => l.addr == r.addr) = none → r.addr < s.dramCap → (∀ f ∈ s.lanFills b.val, f.addr ≠ r.addr) → 32 ≤ (s.lanFills b.val).length →
      exec (.lanternFetch b) s = .next s))
  ∧ (∀ (b : Fin 4) (s : State) (x : Returned) (f : LanFill) (key : Nat), s.returned = [x] → x.tag = .lantern b key → x.pois = [] → s.lanFills b.val = [f] → f.addr = x.addr → f.install = true →
    (∀ r ∈ f.waiters, r.spire < 32) → s.bit 0x0C0008 0 = true → let old := (s.lanLines x.addr).filter (fun l => l.addr != x.addr)
    ∃ t, exec (.lanternFill b) s = .next t ∧ t.returned = [] ∧ t.lanFills b.val = [] ∧ t.lanLines x.addr = { addr := x.addr, data := x.data, ce := 0, ue := false } :: old.take 15 ∧ t.mem = s.mem ∧
      t.reg Reg.LAN_EVICT = (if 16 ≤ old.length then counted s Reg.LAN_EVICT else s.reg Reg.LAN_EVICT) ∧ t.reg Reg.LAN_BLOCKS = w32 (min 0xFFFFFFFF ((s.reg Reg.LAN_BLOCKS).toNat + f.waiters.length)) ∧
      t.mesh.map (fun m => (m.dst.val, m.body)) = s.mesh.map (fun m => (m.dst.val, m.body)) ++
        f.waiters.map (fun r => (r.spire, .rdr r.addr x.data [] false (.loadw ⟨r.spire % 32, Nat.mod_lt _ (by decide)⟩ r.blk))))
  ∧ (∀ (b : Fin 4) (s : State), (∀ x ∈ s.returned, ∀ key, x.tag ≠ .lantern b key) → exec (.lanternFill b) s = .next s)
  ∧ (∀ (req : Node) (v : Word) (s : State), Opens s req.val 0x0C0 → s.lantern.inv = false → s.lantern.pre = none →
    (v.getLsbD 1 = false → ∃ t, exec (.inv req v) s = .next t ∧ t.lantern.inv = true ∧ t.lantern.lines = [] ∧ t.lantern.queue = s.lantern.queue ∧ t.regs = s.regs ∧ t.mem = s.mem ∧
      ∀ b, ∀ f ∈ t.lanFills b, f.install = false)
    ∧ (v.getLsbD 0 = false → s.fld Reg.LAN_PRE_LEN 0 15 = 0 → exec (.preStart req v) s = .next (s.raise 0x0C0 1))
    ∧ (v.getLsbD 0 = false → s.fld Reg.LAN_PRE_LEN 0 15 ≠ 0 → ∃ t, exec (.preStart req v) s = .next t ∧ t.lantern.pre = some (s.fld Reg.LAN_PRE_LEN 0 15) ∧ t.lantern.lines = s.lantern.lines ∧
      t.regs = s.regs ∧ t.mem = s.mem ∧ ∀ b < 4, t.lanQueue b = s.lanQueue b ++ ((List.range (s.fld Reg.LAN_PRE_LEN 0 15)).map (fun i =>
        ({ spire := 32, blk := i, addr := s.reg64 Reg.LAN_PRE_ADDR_LO + 256 * i } : LanReq))).filter (fun r => r.addr / 256 % 4 = b)))
  ∧ (∀ (req : Node) (v : Word) (s : State), Opens s req.val 0x0C0 → s.lantern.inv = true ∨ s.lantern.pre.isSome = true → ∀ c ∈ [Instr.inv req v, .preStart req v],
    exec c s = .next (reports s 0x0C0 0x50 0 0x40 req.val))
  ∧ (∀ s : State, (s.lantern.inv = true → exec .invDone s = .next (State.raise { s with lantern := { s.lantern with inv := false } } 0x0C0 0))
    ∧ (s.lantern.inv = false → exec .invDone s = .next s))

/-! ### Sensor ports -/

/-- Port p with its lanes back in the stop state after a packet. -/
def Sys2Proof.stopped (s : State) (p : Nat) : State := s.modPort p (fun x => { x with link := 1 })

/-- Port p is enabled and not the idle half of a combined pair (R317, R325). -/
def Sys2Proof.portOn (s : State) (p : Nat) : Prop :=
  s.bit ((0x080 + p) * 0x1000 + 8) 0 = true ∧ ¬ (p % 2 = 1 ∧ s.bit (Reg.SP_CFG (p - 1)) 4 = true)

/-- R316 to R331: a line of an enabled channel with an arm is counted, goes through the front stage and lands as one row of its stripe; without an arm it is discarded; other data types are only counted. A frame start resets the channel's row; a lost header marks every channel. The oldest landing write goes
out, and a stripe's last completes it. A stripe that begins with another pixel list walks it from the row it stands at. Pulses are driven when due, control transactions start with what their master sends and end with their results, tables take words outside the bank in use, and a port off keeps no arm. Where the rules leave a choice, it is the model's (log entries 12, 34, 35, the packing of RAW samples and the lanes back in the stop state after a packet, and 91). -/
def Obligations.SensorPorts : Prop :=
  (∀ (p : Fin 16) (s : State) (vc : Fin 4) (dt : BitVec 6) (pay : List Byte) (crc cor : Bool) (e : LinkEv), ¬ portOn s p.val →
    ∀ c ∈ [Instr.line p vc dt pay crc cor, .frameStart p vc cor, .hdrUe p, .hsDeskew p, .ulps p e], exec c s = .next s)
  ∧ (∀ (p : Fin 16) (s : State) (vc : Fin 4) (dt : BitVec 6) (pay : List Byte) (crc : Bool), portOn s p.val →
    (s.bit (Reg.SP_CFG p.val) (12 + vc.val) = false → exec (.line p vc dt pay crc false) s = .next (stopped s p.val) ∧ exec (.frameStart p vc false) s = .next (stopped s p.val))
    ∧ (s.bit (Reg.SP_CFG p.val) (12 + vc.val) = true → dt.toNat ≠ s.fld (Reg.SP_CFG p.val) 6 6 →
      exec (.line p vc dt pay crc false) s = .next ((stopped s p.val).bump (Reg.SP_OTHER p.val)))
    ∧ (s.bit (Reg.SP_CFG p.val) (12 + vc.val) = true → exec (.frameStart p vc false) s =
      .next ((stopped s p.val).setPch p.val vc.val { (s.port p.val).chan vc.val with y := 0, wrapped := false })))
  ∧ (∀ (p : Fin 16) (s : State) (vc : Fin 4) (pay : List Byte) (a : Arm) (arms : List Arm) (st : Stripe), let dt := s.fld (Reg.SP_CFG p.val) 6 6
    let pix := s.fld (Reg.SP_LINE p.val) 0 14
    let x := s.port p.val
    let c := x.chan vc.val
    let room := (s.bufferSize p.val - x.buffered) / bppOf st.line
    portOn s p.val → s.bit (Reg.SP_CFG p.val) (12 + vc.val) = true → c.arms = a :: arms → c.stripe = some st → st.row < a.rows → pay.length = pix * dtBits dt / 8 → pix ≤ room →
    ∃ t, exec (.line p vc (BitVec.ofNat 6 dt) pay true false) s = .next t ∧ t.mem = s.mem ∧ t.mesh = s.mesh ∧ t.reg (Reg.SP_LINES p.val) = counted s (Reg.SP_LINES p.val) ∧
      (let row := x.frontRow st (dtBits dt) c.y pix c.wrapped (fun px => if px < room then rawPixel dt pay.toArray px else none)
       (t.port p.val).landing = x.landing ++ rowWrites a (rpOf st.line) st.slot st.row row.1 ∧
       t.reg (Reg.SP_SAT p.val) = w32 (min 0xFFFFFFFF ((s.reg (Reg.SP_SAT p.val)).toNat + row.2))) ∧
      (t.port p.val).chan vc.val = { c with y := (c.y + 1) % 65536, wrapped := c.wrapped || c.y == 65535, stripe := some { st with row := st.row + 1 } })
  ∧ (∀ (p : Fin 16) (s : State) (vc : Fin 4) (pay : List Byte) (a : Arm) (arms : List Arm), let dt := s.fld (Reg.SP_CFG p.val) 6 6
    let c := (s.port p.val).chan vc.val
    portOn s p.val → s.bit (Reg.SP_CFG p.val) (12 + vc.val) = true → c.arms = a :: arms → c.stripe = none → c.psel = !s.bit (Reg.SP_FS_CFG p.val) 1 →
    ∃ t, exec (.line p vc (BitVec.ofNat 6 dt) pay true false) s = .next t ∧ ((t.port p.val).chan vc.val).psel = s.bit (Reg.SP_FS_CFG p.val) 1 ∧
      ((t.port p.val).chan vc.val).wrapped = (c.y == 65535))
  ∧ (∀ (p : Fin 16) (s : State) (vc : Fin 4) (pay : List Byte), let dt := s.fld (Reg.SP_CFG p.val) 6 6
    let c := (s.port p.val).chan vc.val
    portOn s p.val → s.bit (Reg.SP_CFG p.val) (12 + vc.val) = true → c.arms = [] → c.stripe = none → pay.length = s.fld (Reg.SP_LINE p.val) 0 14 * dtBits dt / 8 →
    ∃ t, exec (.line p vc (BitVec.ofNat 6 dt) pay true false) s = .next t ∧ t.mem = s.mem ∧ t.mesh = s.mesh ∧ t.reg (Reg.SP_LINES p.val) = counted s (Reg.SP_LINES p.val) ∧
      t.reg (Reg.SP_DISC p.val) = counted s (Reg.SP_DISC p.val) ∧ t.bit ((0x080 + p.val) * 0x1000 + 0x10) 11 = true ∧ (t.port p.val).landing = (s.port p.val).landing ∧
      (t.port p.val).chan vc.val = { c with y := (c.y + 1) % 65536, wrapped := c.wrapped || c.y == 65535, disc := true })
  ∧ (∀ (p : Fin 16) (s : State), portOn s p.val → ∃ t, exec (.hdrUe p) s = .next t ∧ t.mem = s.mem ∧ t.reg (Reg.SP_HDR_UE p.val) = counted s (Reg.SP_HDR_UE p.val) ∧
    t.bit ((0x080 + p.val) * 0x1000 + 0x10) 2 = true ∧ ∀ v < 4, let c := (s.port p.val).chan v
      (t.port p.val).chan v = { c with disc := c.disc || s.bit (Reg.SP_CFG p.val) (12 + v), stripe := c.stripe.map (fun st => { st with hdr := true }) })
  ∧ (∀ (p : Fin 16) (s : State), portOn s p.val → exec (.hsDeskew p) s = .next (stopped s p.val) ∧ exec (.ulps p .ulpsExit) s = .next (stopped s p.val) ∧
    exec (.ulps p .ulpsEnter) s = .next (State.raise (s.modPort p.val (fun x => { x with link := 3 })) (0x080 + p.val) 10) ∧
    exec (.ulps p .hsLost) s = .next (State.raise (stopped s p.val) (0x080 + p.val) 10) ∧
    exec (.ulps p .hsEnter) s = .next (s.modPort p.val (fun x => { x with link := 2 })))
  ∧ (∀ (p : Fin 16) (s : State), (s.port p.val).landing = [] → exec (.landingWrite p) s = .next s)
  ∧ (∀ (p : Fin 16) (s : State) (w : LandW) (rest : List LandW), (s.port p.val).landing = w :: rest →
    let t := State.post (s.modPort p.val (fun x => { x with landing := rest })) (52 + p.val / 2) w.spire (.pw w.cells [] w.arr true .plain)
    (w.last = none → exec (.landingWrite p) s = .next t)
    ∧ (∀ v < 4, ∀ st, w.last = some v → ((s.port p.val).chan v).stripe = some st → ∃ u, exec (.landingWrite p) s = .next u ∧ u.mesh = t.mesh ∧ u.mem = s.mem ∧
      u.fld (Reg.SP_STRIPE p.val v) 0 16 = (s.fld (Reg.SP_STRIPE p.val v) 0 16 + 1) % 65536 ∧ u.fld (Reg.SP_STRIPE p.val v) 16 13 = st.slot % 8192 ∧
      u.bit (Reg.SP_STRIPE p.val v) 31 = st.cont ∧ u.bit (Reg.SP_STRIPE p.val v) 30 = st.dmg ∧ u.bit (Reg.SP_STRIPE p.val v) 29 = st.hdr ∧
      u.bit ((0x080 + p.val) * 0x1000 + 0x10) 0 = true ∧ (let c := (s.port p.val).chan v
        (u.port p.val).chan v = { c with arms := c.arms.tail, stripe := none, lastSlot := st.slot })))
  ∧ (∀ (p : Fin 16) (s : State), let x := s.port p.val
    let now := s.tb.now.toNat
    (∀ e, x.pulse = some e → e ≤ now → exec (.triggerPulse p) s = .next (s.modPort p.val (fun x => { x with pulse := none })))
    ∧ (∀ t rest, x.pulse = none → x.pulses = t :: rest → t ≤ now → exec (.triggerPulse p) s =
      .next (s.modPort p.val (fun x => { x with pulses := rest, pulse := some (now + s.fld (Reg.SP_TRIG_CFG p.val) 0 24) })))
    ∧ ((∀ e, x.pulse = some e → now < e) → (x.pulse = none → ∀ t, x.pulses.head? = some t → now < t) → exec (.triggerPulse p) s = .next s))
  ∧ (∀ (p : Fin 16) (s₀ : State) (w : Word), ∀ cmd tx, let s := s₀
    s.bit (Reg.SP_I2C_STAT p.val) 31 = true → (s.port p.val).i2c = i2cPlan cmd tx → let rlen := cmd.toNat / 2 ^ 22 % 8
    let s := s.modPort p.val (fun x => { x with i2c := [] })
    exec (.i2cDone p (.complete w)) s₀ = .next (State.raise ((s.setReg (Reg.SP_I2C_STAT p.val) 0).setReg (Reg.SP_I2C_RX p.val) (w32 (w.toNat % 2 ^ (8 * min 4 rlen)))) (0x080 + p.val) 7)
    ∧ (∀ k : Fin 5, exec (.i2cDone p (.timeout k w)) s₀ = .next (State.raise (reports ((s.setReg (Reg.SP_I2C_STAT p.val) 2).setReg (Reg.SP_I2C_RX p.val) (w32 (w.toNat % 2 ^ (8 * min k.val rlen))))
      (0x080 + p.val) 0x18 0 2 41) (0x080 + p.val) 8))
    ∧ exec (.i2cDone p .nack) s₀ = .next (State.raise (reports ((s.setReg (Reg.SP_I2C_STAT p.val) 1).setReg (Reg.SP_I2C_RX p.val) 0) (0x080 + p.val) 0x18 0 1 41) (0x080 + p.val) 8))
  ∧ (∀ (p : Fin 16) (s : State) (e : I2cEnd), s.bit (Reg.SP_I2C_STAT p.val) 31 = false → exec (.i2cDone p e) s = .next s)
  ∧ (∀ (p : Fin 16) (s : State) (rx : Word), (∀ x, p.val % 2 = 0 → s.bit (Reg.SP_SPI_CTL p.val) 30 = true → (s.port p.val).spi = some x → exec (.spiDone p rx) s =
      .next (State.raise (((s.setBit (Reg.SP_SPI_CTL p.val) 30 false).setReg (Reg.SP_SPI_RX p.val) (w32 (rx.toNat % 2 ^ x.out.length))).modPort p.val (fun x => { x with spi := none }))
        (0x080 + p.val) 9))
    ∧ (p.val % 2 = 1 ∨ s.bit (Reg.SP_SPI_CTL p.val) 30 = false → exec (.spiDone p rx) s = .next s))
  ∧ (∀ (req : Node) (p : Fin 16) (v : Word) (s : State), Opens s req.val (0x080 + p.val) → v.getLsbD 1 = false → ∃ t, exec (.portDisable req p v) s = .next t ∧
    t.bit ((0x080 + p.val) * 0x1000 + 8) 0 = false ∧ (t.port p.val).landing = [] ∧ t.mem = s.mem ∧ (t.port p.val).tables = (s.port p.val).tables ∧
    ∀ v, ((t.port p.val).chan v).arms = [] ∧ ((t.port p.val).chan v).stripe = none)
  ∧ (∀ (req : Node) (p : Fin 16) (v : Word) (s : State), Opens s req.val (0x080 + p.val) → let dt := v.toNat / 2 ^ 6 % 2 ^ 6
    let other := if p.val % 2 = 0 then p.val + 1 else p.val - 1
    let comb := decide (p.val % 2 = 0) && v.getLsbD 4
    (s.bit ((0x080 + p.val) * 0x1000 + 8) 0 = false → (comb = s.bit (Reg.SP_CFG p.val) 4 ∨ s.bit ((0x080 + other) * 0x1000 + 8) 0 = false) → 0x2A ≤ dt → dt ≤ 0x2E → v.toNat % 4 ≠ 3 →
      exec (.combWrite req p v) s = .next (s.setReg (Reg.SP_CFG p.val) (v &&& (if p.val % 2 = 0 then 0xBFFFF3 else 0xBFFFE3))))
    ∧ (s.bit ((0x080 + p.val) * 0x1000 + 8) 0 = true → exec (.combWrite req p v) s = .next (reports s (0x080 + p.val) 0x50 0 (Reg.SP_CFG p.val % 0x1000) req.val)))
  ∧ (∀ (req : Node) (p : Fin 16) (v : Word) (s : State), Opens s req.val (0x080 + p.val) → let sub := v.toNat / 2 ^ 29 % 4
    (s.bit (Reg.SP_I2C_STAT p.val) 31 = false → sub ≠ 3 → v.toNat / 2 ^ 25 % 8 ≤ 4 → v.toNat / 2 ^ 22 % 8 ≤ 4 →
      exec (.i2cStart req p v) s = .next (((s.setReg (Reg.SP_I2C_CMD p.val) (v &&& 0x6FC07F00)).setReg (Reg.SP_I2C_STAT p.val) 0x80000000).modPort p.val
        (fun x => { x with i2c := i2cPlan v (s.reg (Reg.SP_I2C_TX p.val)) })))
    ∧ (s.bit (Reg.SP_I2C_STAT p.val) 31 = true → exec (.i2cStart req p v) s = .next (reports s (0x080 + p.val) 0x50 0 (Reg.SP_I2C_CMD p.val % 0x1000) req.val)))
  ∧ (∀ (req : Node) (p : Fin 16) (v : Word) (s : State), Opens s req.val (0x080 + p.val) →
    (p.val % 2 = 0 → s.bit (Reg.SP_SPI_CTL p.val) 30 = false → ∃ t, exec (.spiStart req p v) s = .next t ∧ t.bit (Reg.SP_SPI_CTL p.val) 30 = true ∧
      t.fld (Reg.SP_SPI_CTL p.val) 16 8 = max 9 (v.toNat / 2 ^ 16 % 2 ^ 8) ∧ t.fld (Reg.SP_SPI_CTL p.val) 0 5 = v.toNat % 2 ^ 5 ∧
      (t.port p.val).spi = some { cs := v.getLsbD 27, cpol := v.getLsbD 29, cpha := v.getLsbD 28, div := max 9 (v.toNat / 2 ^ 16 % 2 ^ 8),
                                  out := (List.range (v.toNat % 2 ^ 5 + 1)).map (fun k => (s.reg (Reg.SP_SPI_TX p.val)).getLsbD (v.toNat % 2 ^ 5 - k)) } ∧ t.mem = s.mem ∧ ∀ a, a ≠ Reg.SP_SPI_CTL p.val → t.reg a = s.reg a)
    ∧ (p.val % 2 = 1 ∨ s.bit (Reg.SP_SPI_CTL p.val) 30 = true → exec (.spiStart req p v) s = .next s))
  ∧ (∀ (req : Node) (p : Fin 16) (v : Word) (s : State), Opens s req.val (0x080 + p.val) → let i := Reg.SP_TBL_IDX p.val
    let tbl := s.fld i 26 2
    let bank := s.fld i 25 1
    let w := s.fld i 0 14
    (tbl < 3 → bank ≠ s.fld (Reg.SP_FS_CFG p.val) tbl 1 → w < tblSize tbl → ∃ t, exec (.tblDataWrite req p v) s = .next t ∧ (t.port p.val).tbl tbl bank w = v ∧
      (∀ a b k, a < 3 → b < 2 → k < 16384 → (a, b, k) ≠ (tbl, bank, w) → (t.port p.val).tbl a b k = (s.port p.val).tbl a b k) ∧
      t.reg i = (if s.bit i 31 then putFld (s.reg i) 0 14 (w + 1) else s.reg i) ∧ t.mem = s.mem)
    ∧ (tbl < 3 → bank = s.fld (Reg.SP_FS_CFG p.val) tbl 1 → exec (.tblDataWrite req p v) s = .next (State.raise (reports s (0x080 + p.val) 0x16 tbl w req.val) (0x080 + p.val) 6)))

/-! ### Timed I/O -/

/-- The words of a rejected record and the reason are kept (R334). -/
def Sys2Proof.rejected (t : State) (r : FireRec) (outcome detail : Nat) : Prop :=
  t.reg Reg.TIO_REJ_W0 = r.w0 ∧ t.reg Reg.TIO_REJ_W1 = r.w1 ∧ t.reg Reg.TIO_REJ_W2 = r.w2 ∧ t.reg Reg.TIO_REJ_W3 = r.w3 ∧ t.reg Reg.TIO_REJ_INFO = w32 (outcome * 2 ^ 16 + detail)

/-- A record with no defect of R334's first check: whole, its reserved bits 0, its channel enabled, at least 20 ns wide and less than 2^32 ns ahead. -/
def Sys2Proof.soundRecord (s : State) (r : FireRec) : Prop :=
  r.whole = true ∧ r.w2.getLsbD 31 = false ∧ r.w3.toNat / 2 ^ 16 = 0 ∧ r.chan < 96 ∧ s.bit (Reg.TIO_OCFG r.chan) 0 = true ∧ 20 ≤ r.width ∧ (r.time - s.tb.now).toInt < 2 ^ 32

/-- Resolved time of a level that has held for held ns under a filter of filt ns: the crossing plus FILT (R340). -/
def Sys2Proof.acceptedAt (s : State) (held filt : Nat) : BitVec 64 := s.tb.now - BitVec.ofNat 64 (held - filt)

/-- R332 to R345: a record that passes its checks in order joins its channel's queue, in its chain when it starts before the chain has ended for 20 ns; a record too late, out of order or for a full queue is kept, counted and reported. Edges of outputs are driven at their times; a new level of an input that has held for FILT ns is an edge, which is captured with the time of its crossing plus FILT, or dropped when the FIFO is
full; the A, B and Z of an encoder are filtered one by one; encoders count forth and back, report a double change in one TCLK, and copy their position at an index. TIO_INJ_W3 submits a record, a read of the capture's time removes it, and the quiet conditions empty every queue and end every pulse. Where the rules leave a choice, it is the model's (log entries 12, 70 and 93). -/
def Obligations.TimedIo : Prop :=
  (∀ s : State, s.tio.inbox = [] → exec .fireRecord s = .next s)
  ∧ (∀ (s : State) (r : FireRec) (rest : List FireRec), s.tio.inbox = r :: rest → s.tio.quiet = false → soundRecord s r → let x := s.chan r.chan
    let d := (r.time - s.tb.now).toInt
    (100 ≤ d → x.last.toNat ≤ r.time.toNat → x.queue.length < 64 → ∃ t, exec .fireRecord s = .next t ∧ t.tio.inbox = rest ∧ t.mem = s.mem ∧ t.tio.caps = s.tio.caps ∧
      (t.chan r.chan).queue = x.queue ++ [{ time := r.time, width := r.width, joined := decide (r.time.toNat < x.endT.toNat + 20) }] ∧ (t.chan r.chan).last = r.time ∧
      (t.chan r.chan).active = x.active ∧ (x.endT.toNat + 20 ≤ r.time.toNat → (t.chan r.chan).endT = r.time + BitVec.ofNat 64 r.width) ∧
      t.reg Reg.TIO_JOIN = (if r.time.toNat < x.endT.toNat + 20 then counted s Reg.TIO_JOIN else s.reg Reg.TIO_JOIN) ∧ ∀ c, c ≠ r.chan → t.chan c = s.chan c)
    ∧ (d < 100 → ∃ t, exec .fireRecord s = .next t ∧ t.tio.inbox = rest ∧ t.tio.chans = s.tio.chans ∧ rejected t r 0xC0 (r.w3.toNat % 2 ^ 16) ∧ t.reg Reg.TIO_LATE = counted s Reg.TIO_LATE ∧
      t.bit 0x040010 0 = true)
    ∧ (100 ≤ d → r.time.toNat < x.last.toNat → ∃ t, exec .fireRecord s = .next t ∧ t.tio.inbox = rest ∧ t.tio.chans = s.tio.chans ∧ rejected t r 0xC1 (r.w3.toNat % 2 ^ 16) ∧
      t.reg Reg.TIO_ORDER = counted s Reg.TIO_ORDER ∧ t.bit 0x040010 1 = true)
    ∧ (100 ≤ d → x.last.toNat ≤ r.time.toNat → 64 ≤ x.queue.length → ∃ t, exec .fireRecord s = .next t ∧ t.tio.inbox = rest ∧ t.tio.chans = s.tio.chans ∧ rejected t r 0xC2 (r.w3.toNat % 2 ^ 16) ∧
      t.reg Reg.TIO_FULL = counted s Reg.TIO_FULL ∧ t.bit 0x040010 2 = true))
  ∧ (∀ (s : State) (r : FireRec) (rest : List FireRec), s.tio.inbox = r :: rest → s.tio.quiet = true → ∃ t, exec .fireRecord s = .next t ∧ t.tio.inbox = rest ∧ t.tio.chans = s.tio.chans ∧
    rejected t r 0xC7 (r.w3.toNat % 2 ^ 16) ∧ t.reg Reg.TIO_FLUSHED = counted s Reg.TIO_FLUSHED)
  ∧ (∀ (req : Node) (v : Word) (s : State), Opens s req.val 0x040 → let r : FireRec := { w0 := s.reg Reg.TIO_INJ_W0, w1 := s.reg Reg.TIO_INJ_W1, w2 := s.reg Reg.TIO_INJ_W2, w3 := v, whole := true }
    ∃ t, exec (.tioInj req v) s = .next t ∧ t.tio.inbox = s.tio.inbox ∧ t.reg Reg.TIO_INJ_W3 = v ∧ t.mem = s.mem ∧
      (s.tio.quiet = false → soundRecord s r → 100 ≤ (r.time - s.tb.now).toInt → (s.chan r.chan).last.toNat ≤ r.time.toNat → (s.chan r.chan).queue.length < 64 →
        (t.chan r.chan).queue = (s.chan r.chan).queue ++ [{ time := r.time, width := r.width, joined := decide (r.time.toNat < (s.chan r.chan).endT.toNat + 20) }]) ∧
      (s.tio.quiet = true → t.tio.chans = s.tio.chans ∧ rejected t r 0xC7 (v.toNat % 2 ^ 16)))
  ∧ (∀ (c : Fin 96) (s : State), (s.chan c.val).queue = [] → exec (.activeEdge c) s = .next s)
  ∧ (∀ (c : Fin 96) (s : State) (r : TioRec) (rest : List TioRec), let x := s.chan c.val
    x.queue = r :: rest →
    (s.tb.now.toNat < r.time.toNat → exec (.activeEdge c) s = .next s)
    ∧ (r.time.toNat ≤ s.tb.now.toNat → r.joined = false →
      exec (.activeEdge c) s = .next ((s.setChan c.val { x with queue := rest, active := true, pulseEnd := r.time + BitVec.ofNat 64 r.width }).bump Reg.TIO_FIRED))
    ∧ (r.time.toNat ≤ s.tb.now.toNat → r.joined = true → ∃ t, exec (.activeEdge c) s = .next t ∧ (t.chan c.val).queue = rest ∧ (t.chan c.val).active = true ∧
      (t.chan c.val).pulseEnd.toNat = max x.pulseEnd.toNat (r.time + BitVec.ofNat 64 r.width).toNat))
  ∧ (∀ (c : Fin 96) (s : State), let x := s.chan c.val
    (x.active = true → x.chainEnd ≤ s.tb.now.toNat → exec (.inactiveEdge c) s = .next (s.setChan c.val { x with active := false }))
    ∧ (x.active = false ∨ s.tb.now.toNat < x.chainEnd → exec (.inactiveEdge c) s = .next s))
  ∧ (∀ (i : Fin 32) (rising : Bool) (held : Nat) (s : State), held < s.fld (Reg.TIO_IN_CFG i.val) 0 8 ∨ (i.val ∈ s.tio.inLvl ↔ rising = true) → exec (.inputEdge i ⟨rising, held⟩) s = .next s)
  ∧ (∀ (i : Fin 32) (rising : Bool) (held : Nat) (s : State), s.fld (Reg.TIO_IN_CFG i.val) 0 8 ≤ held → (i.val ∈ s.tio.inLvl ↔ rising = false) → let cfg := Reg.TIO_IN_CFG i.val
    let st := Reg.TIO_IN_CAP_STAT i.val
    let edge := s.fld cfg 29 2
    let tm := acceptedAt s held (s.fld cfg 0 8)
    (s.bit cfg 31 = false ∨ (edge = 0 ∧ rising = false) ∨ (edge = 1 ∧ rising = true) ∨ edge = 3 → ∃ l, (∀ j, j ∈ l ↔ (if j = i.val then rising = true else j ∈ s.tio.inLvl)) ∧
      exec (.inputEdge i ⟨rising, held⟩) s = .next { s with tio := { s.tio with inLvl := l } })
    ∧ (s.bit cfg 31 = true → (edge = 0 ∧ rising = true) ∨ (edge = 1 ∧ rising = false) ∨ edge = 2 → (s.caps i.val).length < 4 → ∃ t, exec (.inputEdge i ⟨rising, held⟩) s = .next t ∧
      t.caps i.val = s.caps i.val ++ [{ time := tm, rise := rising }] ∧ t.fld st 0 16 = (s.fld st 0 16 + 1) % 65536 ∧ t.bit 0x042010 0 = true ∧ t.mem = s.mem ∧
      (s.bit cfg 28 = false ∨ s.inGrid (s.fld cfg 19 5) = false → t.mesh = s.mesh) ∧
      (s.bit cfg 28 = true → s.inGrid (s.fld cfg 19 5) = true → ∃ m, t.mesh = s.mesh ++ [m] ∧ m.dst.val = s.fld cfg 19 5 ∧ m.body = .pw (cellsAt (vaultAddr (s.fld cfg 19 5)
          ((s.fld (Reg.TIO_IN_RING i.val) 0 16 * 256 + s.fld st 0 16 % 2 ^ s.fld cfg 24 4 * 16) % 2 ^ 24)) (capRecord i.val rising tm (s.fld st 0 16))) []
        (some ⟨s.fld cfg 10 9 % 512, Nat.mod_lt _ (by decide)⟩) false .plain))
    ∧ (s.bit cfg 31 = true → (edge = 0 ∧ rising = true) ∨ (edge = 1 ∧ rising = false) ∨ edge = 2 → 4 ≤ (s.caps i.val).length → ∃ t, exec (.inputEdge i ⟨rising, held⟩) s = .next t ∧
      t.caps i.val = s.caps i.val ∧ t.fld st 24 8 = min 255 (s.fld st 24 8 + 1) ∧ t.fld st 0 16 = s.fld st 0 16 ∧ t.bit 0x042010 1 = true ∧ t.mem = s.mem ∧ t.mesh = s.mesh))
  ∧ (∀ (e : Fin 8) (a b : Bool) (ha hb : Nat) (s : State), let cfg := Reg.TIO_ENC_CFG e.val
    let pos := Reg.TIO_ENC_POS e.val
    let old := s.encLvl e.val
    let filt := s.fld cfg 0 8
    let newA := a ≠ old.1 ∧ filt ≤ ha
    let newB := b ≠ old.2 ∧ filt ≤ hb
    let levels := fun (l : Bool × Bool) => ({ s with tio := { s.tio with encLvl := Tab.set (fun _ => (false, false)) s.tio.encLvl e.val l } } : State)
    let once := fun (l : Bool × Bool) (fwd : Bool) (held : Nat) => ∃ u, exec (.encoderCount ⟨e, ha, hb⟩ a b) s = .next u ∧ u.encLvl e.val = l ∧
      u.reg pos = (if fwd = s.bit cfg 30 then s.reg pos - 1 else s.reg pos + 1) ∧ u.reg64 (Reg.TIO_ENC_TLO e.val) = (acceptedAt s held filt).toNat ∧ u.mem = s.mem
    (¬ newA → ¬ newB → exec (.encoderCount ⟨e, ha, hb⟩ a b) s = .next s)
    ∧ (newA → ¬ newB → (s.bit cfg 31 = false → exec (.encoderCount ⟨e, ha, hb⟩ a b) s = .next (levels (a, old.2))) ∧ (s.bit cfg 31 = true → once (a, old.2) (a != old.2) ha))
    ∧ (¬ newA → newB → (s.bit cfg 31 = false → exec (.encoderCount ⟨e, ha, hb⟩ a b) s = .next (levels (old.1, b))) ∧ (s.bit cfg 31 = true → once (old.1, b) (old.1 == b) hb))
    ∧ (newA → newB → (acceptedAt s ha filt).toNat / 2 = (acceptedAt s hb filt).toNat / 2 → (s.bit cfg 31 = false → exec (.encoderCount ⟨e, ha, hb⟩ a b) s = .next (levels (a, b))) ∧
      (s.bit cfg 31 = true → ∃ u, exec (.encoderCount ⟨e, ha, hb⟩ a b) s = .next u ∧ u.reg (Reg.TIO_ENC_ERR e.val) = counted s (Reg.TIO_ENC_ERR e.val) ∧ u.reg pos = s.reg pos ∧
        u.bit 0x043010 e.val = true ∧ u.encLvl e.val = (a, b)))
    ∧ (∀ u, newA → newB → (acceptedAt s ha filt).toNat / 2 ≠ (acceptedAt s hb filt).toNat / 2 →
      exec (.encoderCount ⟨e, ha, hb⟩ (if (acceptedAt s ha filt).toNat < (acceptedAt s hb filt).toNat then a else old.1)
        (if (acceptedAt s ha filt).toNat < (acceptedAt s hb filt).toNat then old.2 else b)) s = .next u →
      exec (.encoderCount ⟨e, ha, hb⟩ a b) s = exec (.encoderCount ⟨e, ha, hb⟩ a b) u))
  ∧ (∀ (e : Fin 8) (high : Bool) (held : Nat) (s : State), let cfg := Reg.TIO_ENC_CFG e.val
    (s.fld cfg 0 8 > held ∨ (e.val ∈ s.tio.encZ ↔ high = true) → exec (.index ⟨e, high, held⟩) s = .next s)
    ∧ (s.fld cfg 0 8 ≤ held → (e.val ∈ s.tio.encZ ↔ high = false) → ∃ l, (∀ j, j ∈ l ↔ (if j = e.val then high = true else j ∈ s.tio.encZ)) ∧
      (high = false ∨ s.bit cfg 29 = false → exec (.index ⟨e, high, held⟩) s = .next { s with tio := { s.tio with encZ := l } }) ∧
      (high = true → s.bit cfg 29 = true → ∃ t, exec (.index ⟨e, high, held⟩) s = .next t ∧ t.tio = { s.tio with encZ := l } ∧ t.reg (Reg.TIO_ENC_ZPOS e.val) = s.reg (Reg.TIO_ENC_POS e.val) ∧
        t.reg64 (Reg.TIO_ENC_ZTLO e.val) = (acceptedAt s held (s.fld cfg 0 8)).toNat ∧ t.bit 0x043010 (8 + e.val) = true ∧ t.reg (Reg.TIO_ENC_POS e.val) = s.reg (Reg.TIO_ENC_POS e.val) ∧ t.mem = s.mem)))
  ∧ (∀ (req : Node) (v : Word) (s : State), Opens s req.val 0x040 → s.chip ≠ 5 →
    (v.getLsbD 0 = true → s.tio.quiet = false → ∃ t, exec (.tioCtlQuiet req false v) s = .next t ∧ t.tio.quiet = true ∧ (∀ c, (t.chan c).queue = [] ∧ (t.chan c).active = false) ∧
      t.reg Reg.TIO_CTL = 1 ∧ t.bit 0x040010 4 = true ∧ t.tio.caps = s.tio.caps)
    ∧ (v.getLsbD 0 = false → s.tio.quiet = true → s.bit 0x040008 0 = true → ∃ t, exec (.tioCtlQuiet req false v) s = .next t ∧ t.tio.quiet = false ∧ t.tio.chans = [] ∧ t.reg Reg.TIO_CTL = 0)
    ∧ (v.getLsbD 0 = false → v.getLsbD 1 = false → s.tio.quiet = false → ∃ t, exec (.tioCtlQuiet req true v) s = .next t ∧ t.tio.quiet = true ∧ t.bit 0x040008 0 = false ∧
      ∀ c, (t.chan c).queue = [] ∧ (t.chan c).active = false))
  ∧ (∀ (req : Node) (i : Fin 32) (s : State), s.reaches req.val = true → s.pageOpen req.val 0x042 = true → s.shadow = [] → let a := Reg.TIO_IN_CAP_HI i.val
    ∃ t, exec (.capHiRead req i) s = .next t ∧ t.caps i.val = (s.caps i.val).tail ∧ t.regs = s.regs ∧ t.mem = s.mem ∧
      delivered t req.val a = (match s.caps i.val with
        | [] => 0
        | x :: _ => x.time.extractLsb' 32 32))

/-! ### The host -/

/-- The host may use slot k (R349, R351, R408): the window is open, the chip has not failed, and HOST owns the slot. -/
def Sys2Proof.hostSlot (s : State) (k : Nat) : Prop := s.bit Reg.OCU_CTL 0 = true ∧ s.keepOnly = false ∧ s.bit (Reg.OCU_OWN (k / 32)) (k % 32) = false

/-- Register a after a Function Level Reset (R347): the MSI-X table and the pending bits are as after reset, every other register as it was. -/
def Sys2Proof.afterFlr (s : State) (a : Nat) : Word := if (0x6E400 ≤ a ∧ a < 0x6E800) ∨ (0x6F400 ≤ a ∧ a < 0x6F408) then regReset a else s.reg a

/-- Address of the MSI-X table entry of vector v (R347, R350). -/
def Sys2Proof.vecAt (v : Nat) : Nat := 0x6E400 + 16 * v

/-- Vector v goes out when it is raised (R350): the link is up, the function in D0, Bus Master Enable and MSI-X Enable are set, and neither mask is. -/
def Sys2Proof.vecOpen (s : State) (v : Nat) : Prop :=
  s.host.up = true ∧ s.host.d3 = false ∧ s.host.bme = true ∧ s.host.msixEn = true ∧ s.host.msixMask = false ∧ s.bit (vecAt v + 12) 0 = false

/-- R346 to R359, R417, R425, R455: BAR2 writes and reads of a slot of HOST go to DRAM, others are counted, reported and read 0xDEAD_DEAD. Handovers wait for the writes before them, doorbells for the writes and handovers before them, and then change the flags, add to a counter or set a source; rings hand filled slots back. Vectors 40, 32 to 39 and 48 to 63 go out or wait in their pending bits. A reset of the
function clears the configuration space and the MSI-X registers and nothing else; the link goes down and up with its record; configuration requests are retried before stage PCIE, the BARs then keep the address bits above their sizes, Memory Space Enable opens them, and an AER fault sets its status bit and counts when it is not masked. Where the rules leave a choice, it is the model's (log entries 12, commands with nothing waiting for them or a link already down, 38 and 86). -/
def Obligations.HostInterface : Prop :=
  (∀ (off : BitVec 30) (data : List Byte) (len : Nat) (s : State), s.host.up = false ∨ s.host.d3 = true ∨ s.host.mse = false ∨ s.nslot * 2 ^ 18 ≤ off.toNat → exec (.hostBar2Write off data) s = .next s ∧ exec (.hostBar2Read off len) s = .next s)
  ∧ (∀ (off : BitVec 30) (data : List Byte) (len : Nat) (s : State), s.host.up = true → s.host.d3 = false → s.host.mse = true → off.toNat < s.nslot * 2 ^ 18 → let k := off.toNat / 2 ^ 18
    let a := s.wbase + off.toNat
    (hostSlot s k → ∃ t, exec (.hostBar2Write off data) s = .next t ∧ t.mem = s.mem ∧ t.regs = s.regs ∧
      t.mesh.map Msg.body = s.mesh.map Msg.body ++ (cutBlocks a data.length).map (fun q => Body.pw ((cellsAt a data).filter (fun c => q.1 ≤ c.1 && c.1 < q.1 + q.2)) [] none false .plain) ∧
      t.host.bar2Out = s.host.bar2Out ++ (List.range (cutBlocks a data.length).length).map (s.msgId + ·))
    ∧ (hostSlot s k → s.host.reads = [] → 0 < len → a % 256 + len ≤ 256 → s.credUsed 40 (s.nodeOf a) = 0 → ∃ t, exec (.hostBar2Read off len) s = .next t ∧ t.mem = s.mem ∧ t.host.reads = [] ∧
      t.mesh.map Msg.body = s.mesh.map Msg.body ++ [.rd a len (.host s.host.downs off.toNat len)] ∧ t.hostOut = s.hostOut)
    ∧ (¬ hostSlot s k → ∃ t u, exec (.hostBar2Write off data) s = .next t ∧ exec (.hostBar2Read off len) s = .next u ∧ t.mem = s.mem ∧ u.mem = s.mem ∧ t.mesh = s.mesh ∧ u.mesh = s.mesh ∧
      t.reg Reg.OCU_NOWN_CNT = counted s Reg.OCU_NOWN_CNT ∧ u.reg Reg.OCU_NOWN_CNT = counted s Reg.OCU_NOWN_CNT ∧ t.reg Reg.OCU_NOWN_LAST = w32 (k % 2 ^ 12) ∧ u.reg Reg.OCU_NOWN_LAST = w32 (2 ^ 31 + k % 2 ^ 12) ∧
      t.bit 0x060010 0 = true ∧ u.bit 0x060010 1 = true ∧
      u.hostOut.getLast? = some (.cpl off.toNat ((List.range len).map (fun i => if (off.toNat + i) % 2 = 0 then 0xAD else 0xDE)) false)))
  ∧ (∀ s : State, s.host.handovers = [] → exec .handoverTakeEffect s = .next s)
  ∧ (∀ (s : State) (h : Handover) (rest : List Handover), s.host.handovers = h :: rest →
    ((∃ i ∈ h.waits, i ∈ s.host.bar2Out) → exec .handoverTakeEffect s = .next s)
    ∧ ((∀ i ∈ h.waits, i ∉ s.host.bar2Out) → ∃ t, exec .handoverTakeEffect s = .next t ∧ t.host.handovers = rest ∧ t.host.doorbells = s.host.doorbells.map (fun d => { d with hands := d.hands - 1 }) ∧ t.mem = s.mem ∧
      (∀ k < 4096, t.bit (Reg.OCU_OWN (k / 32)) (k % 32) = (decide (k ∈ h.slots) || s.bit (Reg.OCU_OWN (k / 32)) (k % 32))) ∧
      (h.ack = true → t.reg Reg.OCU_HAND_STAT = w32 h.done))
    ∧ (∀ u, h.ack = true → (∀ i ∈ h.waits, i ∉ s.host.bar2Out) → exec .handoverTakeEffect { s with host := { s.host with handovers := { h with ack := false } :: rest } } = .next u →
      exec .handoverTakeEffect s = .next ((u.setReg Reg.OCU_HAND_STAT (w32 h.done)).sendVec 40)))
  ∧ (∀ (v : Nat) (s : State), (vecOpen s v → s.sendVec v = { s with hostOut := s.hostOut ++ [.msix v (s.reg64 (vecAt v)) (s.reg (vecAt v + 8))] })
    ∧ (¬ vecOpen s v → s.sendVec v = s.setBit (0x6F400 + 4 * (v / 32)) (v % 32) true))
  ∧ (∀ s : State, s.host.doorbells = [] → exec .doorbellPresent s = .next s)
  ∧ (∀ (s : State) (d : Doorbell) (rest : List Doorbell), s.host.doorbells = d :: rest → let n := d.v.toNat / 2 ^ 18 % 2 ^ 5
    ((∃ i ∈ d.waits, i ∈ s.host.bar2Out) ∨ d.hands ≠ 0 → exec .doorbellPresent s = .next s)
    ∧ ((∀ i ∈ d.waits, i ∉ s.host.bar2Out) → d.hands = 0 → d.v.getLsbD 23 = true → ∃ t, exec .doorbellPresent s = .next t ∧ t.host.doorbells = rest ∧ t.reg Reg.KEEP_HDB_CNT = counted s Reg.KEEP_HDB_CNT ∧
      t.bit (Reg.CP_IRQ_RAW 32) 28 = true ∧ t.mesh = s.mesh ∧ t.mem = s.mem)
    ∧ ((∀ i ∈ d.waits, i ∉ s.host.bar2Out) → d.hands = 0 → d.v.getLsbD 23 = false → s.inGrid n = true → ∃ t, exec .doorbellPresent s = .next t ∧ t.host.doorbells = rest ∧ t.mem = s.mem ∧
      t.mesh.map Msg.body = s.mesh.map Msg.body ++ (if d.v.getLsbD 1 then [.inc ⟨d.v.toNat / 2 ^ 6 % 2 ^ 9, Nat.mod_lt _ (by decide)⟩ 1] else []) ∧
      t.reg (Reg.CP_IRQ_RAW n) = (if d.v.getLsbD 0 then s.reg (Reg.CP_IRQ_RAW n) ||| 0x10000000 else s.reg (Reg.CP_IRQ_RAW n)))
    ∧ ((∀ i ∈ d.waits, i ∉ s.host.bar2Out) → d.hands = 0 → d.v.getLsbD 23 = false → s.inGrid n = false →
      exec .doorbellPresent s = .next (reports { s with host := { s.host with doorbells := rest } } 0x060 0x36 0 n 40)))
  ∧ (∀ (r : Fin 8) (s : State), (∀ x ∈ s.returned, x.tag ≠ .logRing r) → exec (.logRingRelease r) s = .next s)
  ∧ (∀ (r : Fin 8) (s : State) (x : Returned), s.returned = [x] → x.tag = .logRing r → let cfg := Reg.OCU_RING_CFG r.val
    let rel := s.fld (Reg.OCU_RING_LEN r.val) 16 12
    let pos := Tab.get (fun _ => 0) s.host.ringPos r.val
    let k := s.fld cfg 0 12 + pos
    let last := Tab.get (fun _ => 0) s.host.ringLast r.val
    (s.bit cfg 31 = false → exec (.logRingRelease r) s = .next { s with returned := [] })
    ∧ (s.bit cfg 31 = true → w32 (leNum x.data) = last + 1 → s.devOwns k = true → k < 4096 → ∃ t, exec (.logRingRelease r) s = .next t ∧ t.returned = [] ∧ t.bit (Reg.OCU_OWN (k / 32)) (k % 32) = false ∧
      t.fld (Reg.OCU_RING_LEN r.val) 16 12 = (rel + 1) % 4096 ∧
      Tab.get (fun _ => 0) t.host.ringPos r.val = (pos + 1) % max 1 (s.fld (Reg.OCU_RING_LEN r.val) 0 13) ∧ Tab.get (fun _ => 0) t.host.ringLast r.val = last + 1 ∧ t.mem = s.mem ∧
      ∃ u, u.hostOut = s.hostOut ∧ t = if s.bit cfg 30 then u.sendVec (32 + r.val) else u)
    ∧ (s.bit cfg 31 = true → w32 (leNum x.data) ≠ last → s.devOwns k = false → ∃ t, exec (.logRingRelease r) s = .next t ∧ t.returned = [] ∧ t.bit 0x060010 3 = true ∧
      t.fld (Reg.OCU_RING_LEN r.val) 16 12 = rel ∧ Tab.get (fun _ => 0) t.host.ringLast r.val = last ∧ t.mem = s.mem))
  ∧ (∀ s : State, ∃ t, exec .functionLevelReset s = .next t ∧ (∀ a, t.reg a = afterFlr s a) ∧ t.mem = s.mem ∧ t.cores = s.cores ∧ t.host.up = s.host.up ∧ t.host.bme = false ∧ t.host.mse = false ∧
    t.host.msixEn = false ∧ t.host.cfg = [] ∧ t.host.ringLast = s.host.ringLast ∧ t.host.handovers = s.host.handovers)
  ∧ (∀ s : State, s.host.up = false → exec .dlDown s = .next s)
  ∧ (∀ s : State, s.host.up = true → ∃ t, exec .dlDown s = .next t ∧ t.host.up = false ∧ t.host.downs = s.host.downs + 1 ∧ t.host.reads = s.host.reads ∧ t.host.bme = false ∧ t.host.mse = false ∧ t.host.msixEn = false ∧ t.host.cfg = [] ∧ t.bit Reg.OCU_LINK 8 = false ∧
    t.bit 0x060010 4 = true ∧ t.reg (Reg.KEEP_CLASS_CNT 5) = counted s (Reg.KEEP_CLASS_CNT 5) ∧ t.mem = s.mem ∧ t.cores = s.cores ∧ t.reg Reg.SEQ_STATE = s.reg Reg.SEQ_STATE ∧
    (∀ j < 128, t.reg (Reg.OCU_OWN j) = s.reg (Reg.OCU_OWN j)))
  ∧ (∀ (rate width : BitVec 4) (s : State), let v := w32 (256 + width.toNat * 16 + rate.toNat)
    (s.host.perstN = false ∨ s.host.trainEn = false ∨ s.bit Reg.KEEP_CLK_STAT 3 = false ∨ (s.host.up = true ∧ s.reg Reg.OCU_LINK = v) → exec (.dlUp rate width) s = .next s)
    ∧ (s.host.up = false ∨ s.reg Reg.OCU_LINK ≠ v → s.host.perstN = true → s.host.trainEn = true → s.bit Reg.KEEP_CLK_STAT 3 = true → ∃ t, exec (.dlUp rate width) s = .next t ∧ t.host.up = true ∧
      t.reg Reg.OCU_LINK = v ∧ t.bit 0x060010 4 = true ∧ t.mem = s.mem))
  ∧ (∀ s : State, ∃ t, exec .perstN s = .next t ∧ t.host.up = false ∧ t.host.perstN = false ∧ t.host.bme = false ∧ t.host.mse = false ∧ t.host.cfg = [] ∧ t.mem = s.mem ∧ t.cores = s.cores ∧
    t.reg Reg.KEEP_STATE = s.reg Reg.KEEP_STATE ∧ (s.host.up = true → t.bit 0x060010 4 = true))
  ∧ (∀ s : State, exec .perstNRise s = .next { s with host := { s.host with perstN := true } })
  ∧ (∀ (r : CfgReq) (s : State), (s.host.trainEn = false → exec (.configurationRequest r) s = .next { s with hostOut := s.hostOut ++ [.cfgCpl true 0] })
    ∧ (s.host.trainEn = true → s.host.up = false → exec (.configurationRequest r) s = .next s))
  ∧ (∀ s : State, s.host.trainEn = true → s.host.up = true →
    exec (.configurationRequest (.read 0)) s = .next { s with hostOut := s.hostOut ++ [.cfgCpl false (s.reg Reg.OCU_PCI_ID &&& 0xFFFF ||| 0x32080000)] } ∧
    (Tab.get (fun _ => 0) s.host.cfg 8 = 0 → exec (.configurationRequest (.read 8)) s = .next { s with hostOut := s.hostOut ++ [.cfgCpl false 0x120000B0] }) ∧
    (∀ v, ∃ t, exec (.configurationRequest (.other 0x10 v)) s = .next t ∧ t.regs = s.regs ∧ t.mem = s.mem ∧
      exec (.configurationRequest (.read 0x10)) t = .next { t with hostOut := t.hostOut ++ [.cfgCpl false (0x4 ||| v &&& 0xFC000000)] }) ∧
    (∀ v, ∃ t, exec (.configurationRequest (.other 0x18 v)) s = .next t ∧ t.regs = s.regs ∧ t.mem = s.mem ∧
      exec (.configurationRequest (.read 0x18)) t = .next { t with hostOut := t.hostOut ++ [.cfgCpl false (0xC ||| v &&& w32 (2 ^ 32 - s.nslot * 2 ^ 18))] }) ∧
    (∃ t, exec (.configurationRequest (.power true)) s = .next t ∧ t.host.d3 = true ∧ t.regs = s.regs ∧ t.mem = s.mem) ∧
    (s.host.d3 = true → ∃ t, exec (.configurationRequest (.power false)) s = .next t ∧ t.host.d3 = false ∧ t.host.bme = false ∧ (∀ a, t.reg a = afterFlr s a) ∧ t.mem = s.mem) ∧
    (∀ b m, ∃ t, exec (.configurationRequest (.command b m)) s = .next t ∧ t.host.bme = b ∧ t.host.mse = m ∧ t.host.msixEn = s.host.msixEn ∧ t.mem = s.mem) ∧
    (∀ m v, v < 64 → s.bit (0x6F400 + 4 * (v / 32)) (v % 32) = true → vecOpen { s with host := { s.host with bme := true } } v → ∃ t, exec (.configurationRequest (.command true m)) s = .next t ∧
      t.bit (0x6F400 + 4 * (v / 32)) (v % 32) = false ∧ .msix v (s.reg64 (vecAt v)) (s.reg (vecAt v + 8)) ∈ t.hostOut) ∧
    (∀ (u : Bool) (i : Fin 32), u = false ∨ i.val ≠ 19 ∨ (s.cfgWord 0x118).getLsbD 8 = true → let o := if u then 0x104 else 0x110
      ∃ t, exec (.configurationRequest (.faulty u i)) s = .next t ∧ t.mem = s.mem ∧ t.hostOut = s.hostOut ∧
        ((s.cfgWord (o + 4)).getLsbD i.val = true → t.regs = s.regs) ∧ ((s.cfgWord (o + 4)).getLsbD i.val = false → t.reg (Reg.KEEP_CLASS_CNT 5) = counted s (Reg.KEEP_CLASS_CNT 5)) ∧
        exec (.configurationRequest (.read (BitVec.ofNat 12 o))) t = .next { t with hostOut := t.hostOut ++ [.cfgCpl false (putBit (s.cfgWord o) i.val true)] }) ∧
    (∀ (u : Bool) (v : Word), let o := if u then 0x104 else 0x110
      ∃ t, exec (.configurationRequest (.other (BitVec.ofNat 12 o) v)) s = .next t ∧ t.cfgWord o = s.cfgWord o &&& ~~~v ∧ t.regs = s.regs ∧ t.mem = s.mem) ∧
    (∃ t, exec (.configurationRequest (.msixControl true false)) s = .next t ∧ t.host.msixEn = true ∧ t.host.msixMask = false ∧ t.host.bme = s.host.bme) ∧
    (∃ t, exec (.configurationRequest .initiateFlr) s = .next t ∧ (∀ a, t.reg a = afterFlr s a) ∧ t.host.msixEn = false ∧ t.host.up = true))
  ∧ (∀ (req : Node) (v : Word) (s : State), Opens s req.val 0x061 → let first := v.toNat % 2 ^ 12
    let cnt := v.toNat / 2 ^ 16 % 2 ^ 12 + 1
    let unit := if req.val = 40 then 0 else 1
    (s.nslot < first + cnt → exec (.ocuHand req v) s = .next (reports s 0x060 0x34 unit 0xFFFF req.val))
    ∧ (first + cnt ≤ s.nslot → v.getLsbD 30 = true → exec (.ocuHand req v) s = .next { s with host := { s.host with handovers := s.host.handovers ++
        [{ slots := ((List.range cnt).map (first + ·)).filter (fun k => !s.devOwns k), waits := s.host.bar2Out, ack := v.getLsbD 31
           done := (((List.range cnt).map (first + ·)).filter (fun k => !s.devOwns k)).length }] } })
    ∧ (first + cnt ≤ s.nslot → s.nslot ≤ 4096 → v.getLsbD 30 = false → let named := ((List.range cnt).map (first + ·)).filter s.devOwns
      let stays := fun k => decide (req.val = 40) && s.bit Reg.SEQ_STATE 3 && decide (s.chip ≠ 5) && s.inRing k
      ∃ t, exec (.ocuHand req v) s = .next t ∧ t.mem = s.mem ∧
      (∀ k < 4096, t.bit (Reg.OCU_OWN (k / 32)) (k % 32) = (s.bit (Reg.OCU_OWN (k / 32)) (k % 32) && !(decide (first ≤ k ∧ k < first + cnt) && !stays k))) ∧
      t.reg Reg.OCU_HAND_SKIP = w32 (min 0xFFFFFFFF ((s.reg Reg.OCU_HAND_SKIP).toNat + (named.filter stays).length)) ∧ (named.filter stays ≠ [] → t.bit 0x060010 2 = true))
    ∧ (∀ u, first + cnt ≤ s.nslot → v.getLsbD 30 = false → v.getLsbD 31 = true → exec (.ocuHand req (v &&& 0x7FFFFFFF)) s = .next u →
      let back := (((List.range cnt).map (first + ·)).filter s.devOwns).filter (fun k => !(decide (req.val = 40) && s.bit Reg.SEQ_STATE 3 && decide (s.chip ≠ 5) && s.inRing k))
      exec (.ocuHand req v) s = .next ((u.setReg Reg.OCU_HAND_STAT (w32 back.length)).sendVec 40)))
  ∧ (∀ (req : Node) (v : Word) (s : State), Opens s req.val 0x061 →
    exec (.ocuHdb req v) s = .next { s with host := { s.host with doorbells := s.host.doorbells ++ [{ v := v, waits := s.host.bar2Out, hands := s.host.handovers.length }] } }
    ∧ (req.val = 40 → exec (.ocuDdb req v) s = .next (reports s 0x060 0x50 0 0x4C 40))
    ∧ (req.val ≠ 40 → ∀ d < 16, v = 1 <<< d → exec (.ocuDdb req v) s = .next (s.sendVec (48 + d))))
  ∧ (∀ (req : Node) (v : Word) (s : State), Opens s req.val 0x060 →
    (s.wbase % 2 ^ 18 = 0 → s.wbase + s.nslot * 2 ^ 18 ≤ s.dramCap → exec (.windowEnable req v) s = .next (s.setReg Reg.OCU_CTL (s.reg Reg.OCU_CTL ||| 1)))
    ∧ (s.wbase % 2 ^ 18 ≠ 0 ∨ s.dramCap < s.wbase + s.nslot * 2 ^ 18 → ∃ t, exec (.windowEnable req v) s = .next t ∧ t.reg Reg.OCU_CTL = s.reg Reg.OCU_CTL ∧ t.bit 0x060010 5 = true ∧ t.mem = s.mem))
  ∧ (∀ (req : Node) (r : Fin 8) (v : Word) (s : State), Opens s req.val 0x061 → let a := Reg.OCU_RING_CFG r.val
    let w := (v ||| 0x80000000) &&& 0xFFFF0FFF
    (s.bit a 31 = false ∨ (s.reg a = w) → ∃ t, exec (.ringEnable req r v) s = .next t ∧ t.reg a = w ∧ t.fld (Reg.OCU_RING_LEN r.val) 16 12 = 0 ∧ t.mem = s.mem ∧
      Tab.get (fun _ => 0) t.host.ringPos r.val = 0 ∧ Tab.get (fun _ => 0) t.host.ringLast r.val = s.reg (evtReg (v.toNat / 2 ^ 25 % 2 ^ 5) (v.toNat / 2 ^ 16 % 2 ^ 9)))
    ∧ (s.bit a 31 = true → s.reg a ≠ w → ∃ t, exec (.ringEnable req r v) s = .next t ∧ t.reg a = s.reg a ∧ t.bit 0x060010 31 = true ∧ t.mem = s.mem))

/-! ### Axsin links -/

/-- The mesh writes that remote write m makes at link a from address dst (R375): one for each 256-byte block, with the bytes that arrived damaged poisoned, the last with the arrival counter. -/
def Sys2Proof.rwrWrites (a : Fin 4) (m : RwrMsg) (dst key : Nat) : List Body :=
  (cutBlocks dst m.len).map (fun q =>
    let cells := (cellsAt dst m.data).filter (fun c => q.1 ≤ c.1 && c.1 < q.1 + q.2)
    .pw cells ((cellWords cells).filter (fun w => m.pois.any (fun i => (dst + i) / 8 == w)))
      (if m.arr = true ∧ q.1 + q.2 = dst + m.len then some ⟨m.actr % 512, Nat.mod_lt _ (by decide)⟩ else none) false (.rwr a key))

/-- Link a accepts the sequenced flit f (R363, R364). -/
def Sys2Proof.inOrder (s : State) (a : Nat) (f : BitVec 256) (ft : Nat) : Prop := s.fld (Reg.AXL_STAT a) 12 4 = 7 ∧ flitOk f = true ∧ ffld f 252 4 = ft ∧ ffld f 244 8 = (s.lnk a).seqRx

/-- R362 to R382: flits are taken in sequence, counted, and refused by a NAK when out of order or damaged; an LCTL frees the flits it acknowledges and adds its credits; a time-out replays what is held. Training goes through its states in order, with its flits on every lane; one that finds a group of lanes good at both ends makes the link ACTIVE, one that finds none or fails takes it DOWN with every window closed. Remote writes are
checked when their header is there, and those that pass become mesh writes once their data is; acknowledgements count at the transfer, and the transfers of a link take turns in requesting their data piece by piece. The lanes of a link
carry each flit in parts, scrambled by x^23 + x^18 + 1. Ticks become source events, probes are sent and answered and correct the time of a follower. Where the rules leave a choice, it is the model's (log entries 12, 36, the poison mark of each payload byte beside the flit, 37 and 92). -/
def Obligations.LinkTraffic : Prop :=
  (∀ (a c : Fin 4) (f : BitVec 256) (pois : BitVec 28) (s : State), s.fld (Reg.AXL_STAT a.val) 12 4 ≠ 7 →
    ∀ i ∈ [Instr.sequencedFlit a f pois, .lctl a f, .replayTimeout a, .rdmaPiece a c, .timeProbe a, .probeAnswer a f, .answer a f], exec i s = .next s)
  ∧ (∀ (a : Fin 4) (f : BitVec 256) (s : State), s.fld (Reg.AXL_STAT a.val) 12 4 = 7 → flitOk f = false → ∀ i ∈ [Instr.lctl a f, .probeAnswer a f, .answer a f],
    exec i s = .next (s.bump (Reg.AXL_CRC_ERR a.val)))
  ∧ (∀ (a : Fin 4) (f : BitVec 256) (pois : BitVec 28) (s : State), s.fld (Reg.AXL_STAT a.val) 12 4 = 7 → (s.lnk a.val).nak = true →
    (flitOk f = false → exec (.sequencedFlit a f pois) s = .next (s.bump (Reg.AXL_CRC_ERR a.val)))
    ∧ (flitOk f = true → ffld f 252 4 = 1 ∨ ffld f 252 4 = 2 → ffld f 244 8 ≠ (s.lnk a.val).seqRx → exec (.sequencedFlit a f pois) s = .next s))
  ∧ (∀ (a : Fin 4) (f : BitVec 256) (pois : BitVec 28) (s : State), s.fld (Reg.AXL_STAT a.val) 12 4 = 7 → (s.lnk a.val).nak = false → flitOk f = true → ffld f 252 4 = 1 ∨ ffld f 252 4 = 2 →
    ffld f 244 8 ≠ (s.lnk a.val).seqRx → ∃ t g, exec (.sequencedFlit a f pois) s = .next t ∧ (t.lnk a.val).nak = true ∧ (t.lnk a.val).sent = (s.lnk a.val).sent ++ [g] ∧
      (t.lnk a.val).seqRx = (s.lnk a.val).seqRx ∧ (t.lnk a.val).rxWrite = (s.lnk a.val).rxWrite ∧ t.regs = s.regs ∧ t.mem = s.mem)
  ∧ (∀ (a : Fin 4) (f : BitVec 256) (pois : BitVec 28) (s : State), inOrder s a.val f 1 → ffld f 236 4 = 3 → ffld f 16 108 = 0 → (s.lnk a.val).open' = none →
    ∃ t, exec (.sequencedFlit a f pois) s = .next t ∧ (t.lnk a.val).rxSync = (s.lnk a.val).rxSync ++ [(BitVec.ofNat 48 (ffld f 188 48), BitVec.ofNat 64 (ffld f 124 64))] ∧
      (t.lnk a.val).seqRx = ((s.lnk a.val).seqRx + 1) % 256 ∧ t.reg (Reg.AXL_RX_FLITS a.val) = s.reg (Reg.AXL_RX_FLITS a.val) + 1 ∧ t.mem = s.mem)
  ∧ (∀ (a : Fin 4) (f : BitVec 256) (pois : BitVec 28) (s : State) (m : RwrMsg) (before : List RwrMsg), inOrder s a.val f 2 → (s.lnk a.val).rxWrite = before ++ [m] → m.data.length < m.len →
    let n := min 28 (m.len - m.data.length)
    ∃ t, exec (.sequencedFlit a f pois) s = .next t ∧ t.mem = s.mem ∧ (t.lnk a.val).seqRx = ((s.lnk a.val).seqRx + 1) % 256 ∧ (t.lnk a.val).rxWrite = before ++
      [{ m with data := m.data ++ leBytes (ffld f 16 224) n
                pois := m.pois ++ ((List.range n).filter (fun i => pois.getLsbD i)).map (m.data.length + ·) }])
  ∧ (∀ (f : BitVec 256) (w : Nat), w = 1 ∨ w = 2 ∨ w = 4 ∨ w = 8 → (List.range w).flatMap (fun j => laneBits w j f) = (List.range 256).map (fun i => f.getLsbD i))
  ∧ (∀ (x : BitVec 23) (l : List Bool), scrambled x (scrambled x l) = l)
  ∧ (∀ (x : BitVec 23) (k i : Nat), i < k → let o := fun j => (scrambled x (List.replicate k false)).getD j false
    o i = ((if i < 23 then x.getLsbD (22 - i) else o (i - 23)) != (if i < 18 then x.getLsbD (17 - i) else o (i - 18))))
  ∧ (∀ (a : Fin 4) (f : BitVec 256) (s : State), let l := s.lnk a.val
    s.fld (Reg.AXL_STAT a.val) 12 4 = 7 → flitOk f = true → ffld f 252 4 = 3 → ffld f 231 1 = 0 → l.txSync = [] → l.txResp = [] → l.txWrite = [] →
    exec (.lctl a f) s = .next (s.modLnk a.val (fun l => { l with replay := dropTo l.replay (ffld f 232 8), lctlAt := s.tb.now.toNat, credW := l.credW + ffld f 223 8
                                                                  credR := l.credR + ffld f 215 8, credS := l.credS + ffld f 207 8 })))
  ∧ (∀ (a : Fin 4) (f : BitVec 256) (s : State), let l := s.lnk a.val
    let held := dropTo l.replay (ffld f 232 8)
    s.fld (Reg.AXL_STAT a.val) 12 4 = 7 → flitOk f = true → ffld f 252 4 = 3 → ffld f 231 1 = 1 → l.txSync = [] → l.txResp = [] → l.txWrite = [] → held ≠ [] → l.repRun ≠ 7 →
    ∃ t, exec (.lctl a f) s = .next t ∧ (t.lnk a.val).sent = l.sent ++ held.map (·.2) ∧ (t.lnk a.val).replay = held ∧ (t.lnk a.val).lctlAt = s.tb.now.toNat ∧
      (t.lnk a.val).credW = l.credW + ffld f 223 8 ∧ (t.lnk a.val).credR = l.credR + ffld f 215 8 ∧ (t.lnk a.val).credS = l.credS + ffld f 207 8 ∧
      t.reg (Reg.AXL_REPLAY a.val) = counted s (Reg.AXL_REPLAY a.val) ∧ t.mem = s.mem)
  ∧ (∀ (a : Fin 4) (s : State), let l := s.lnk a.val
    s.fld (Reg.AXL_STAT a.val) 12 4 = 7 →
    (s.tb.now.toNat < l.lctlAt + 1000 ∨ l.replay = [] → exec (.replayTimeout a) s = .next s)
    ∧ (l.lctlAt + 1000 ≤ s.tb.now.toNat → l.replay ≠ [] → l.repRun ≠ 7 → ∃ t, exec (.replayTimeout a) s = .next t ∧ (t.lnk a.val).sent = l.sent ++ l.replay.map (·.2) ∧
      (t.lnk a.val).replay = l.replay ∧ t.reg (Reg.AXL_REPLAY a.val) = counted s (Reg.AXL_REPLAY a.val) ∧ t.mem = s.mem)
    ∧ (∀ q rest, l.lctlAt + 1000 ≤ s.tb.now.toNat → l.replay = q :: rest → l.repRun = 7 → l.repSeq = q.1 → ∃ t, exec (.replayTimeout a) s = .next t ∧ (t.lnk a.val).sent = l.sent ++ l.replay.map (·.2) ∧
      (t.lnk a.val).replay = l.replay ∧ t.reg (Reg.AXL_REPLAY a.val) = counted s (Reg.AXL_REPLAY a.val) ∧ t.mem = s.mem ∧ t.fld (Reg.AXL_STAT a.val) 12 4 = 2 ∧
      t.bit ((0x0A0 + a.val) * 0x1000 + 0x10) 4 = true))
  ∧ (∀ (a : Fin 4) (good inv : Byte) (p : LinkPeer) (s : State), let st := s.fld (Reg.AXL_STAT a.val) 12 4
    let both := (s.lnk a.val).good &&& good
    let fails := fun (c : Instr) (g : Nat) => ∃ t, exec c s = .next t ∧ t.reg (Reg.AXL_STAT a.val) = w32 (g <<< 20) ∧
      t.bit ((0x0A0 + a.val) * 0x1000 + 0x10) 1 = true ∧ (∀ w < 64, t.bit (Reg.AXL_WIN_CTL a.val w) 31 = false) ∧ (t.lnk a.val).rxWrite = [] ∧ (t.lnk a.val).replay = [] ∧ t.mem = s.mem
    (st = 0 ∨ st = 7 → (∀ reach, exec (.trainingComplete a good ⟨p, reach, inv⟩) s = .next s) ∧ exec (.linkDown a good) s = .next s)
    ∧ (s.trainFlits a.val = if st = 0 ∨ 7 ≤ st then [] else (List.range 8).map (fun i => { lane := i, state := st, good := (s.lnk a.val).good }))
    ∧ (∀ k : Fin 5, exec (.trainingComplete a good ⟨p, some k, inv⟩) s = .next (if st = k.val + 1 then (s.setFld (Reg.AXL_STAT a.val) 12 4 (k.val + 2)).modLnk a.val (fun l =>
        { l with good := if k.val = 1 ∨ k.val = 2 then both else l.good, inverted := if k.val = 2 then inv else l.inverted }) else s))
    ∧ (st ≠ 6 → exec (.trainingComplete a good ⟨p, none, inv⟩) s = .next s)
    ∧ (st = 6 → (s.lnk a.val).replay = [] →
      ∀ m w four, chooseGroup both.toNat (max (s.fld (Reg.AXL_CTL a.val) 3 2) p.wmax.val) = some (m, w, four) → ∃ t, exec (.trainingComplete a good ⟨p, none, inv⟩) s = .next t ∧ t.mem = s.mem ∧
        t.fld (Reg.AXL_STAT a.val) 12 4 = 7 ∧ t.fld (Reg.AXL_STAT a.val) 8 4 = w ∧ t.bit (Reg.AXL_STAT a.val) 7 = four ∧ t.fld (Reg.AXL_STAT a.val) 20 8 = both.toNat ∧
        t.reg (Reg.AXL_RETRAIN_CNT a.val) = counted s (Reg.AXL_RETRAIN_CNT a.val) ∧ t.bit ((0x0A0 + a.val) * 0x1000 + 0x10) 0 = true)
    ∧ (st = 6 → chooseGroup both.toNat (max (s.fld (Reg.AXL_CTL a.val) 3 2) p.wmax.val) = none → fails (.trainingComplete a good ⟨p, none, inv⟩) both.toNat)
    ∧ (st ≠ 0 → st ≠ 7 → fails (.linkDown a good) good.toNat))
  ∧ (∀ (l : Link) (i : Nat) (bits : List Bool), l.laneIn i (if l.inverted.getLsbD i then bits.map (!·) else bits) = bits)
  ∧ (∀ (a : Fin 4) (s : State), (s.lnk a.val).rxWrite = [] → exec (.rwr a) s = .next s)
  ∧ (∀ (a : Fin 4) (s : State) (m : RwrMsg) (rest : List RwrMsg), (s.lnk a.val).rxWrite = m :: rest → m.win < 64 → let c := Reg.AXL_WIN_CTL a.val m.win
    let win := s.reg64 (Reg.AXL_WIN_BASE_LO a.val m.win) + m.off
    let passes := s.bit c 31 = true ∧ s.bit c 1 = true ∧ m.off + m.len ≤ s.fld (Reg.AXL_WIN_SIZE a.val m.win) 0 24 * 4096 ∧ (m.arr = true → s.bit c 2 = true)
    (m.target = none → passes → m.data.length < m.len → exec (.rwr a) s = .next (s.modLnk a.val (fun l => { l with rxWrite := { m with target := some win } :: rest })))
    ∧ (∀ dst, m.target = some dst → m.data.length < m.len → exec (.rwr a) s = .next (s.modLnk a.val (fun l => { l with rxWrite := m :: rest })))
    ∧ (∀ dst, m.target = some dst ∨ (m.target = none ∧ passes ∧ dst = win) → m.len ≤ m.data.length → ∃ t, exec (.rwr a) s = .next t ∧ t.mem = s.mem ∧ (t.lnk a.val).rxWrite = rest ∧ t.mesh.map Msg.body = s.mesh.map Msg.body ++ rwrWrites a m dst (s.lnk a.val).key ∧
        (t.lnk a.val).acks = (s.lnk a.val).acks ++ [((s.lnk a.val).key, m.tag, (cutBlocks dst m.len).length)])
    ∧ (m.target = none → ¬ passes → ∃ t, exec (.rwr a) s = .next t ∧ t.mem = s.mem ∧ (t.lnk a.val).rxWrite = rest ∧ t.mesh = s.mesh ∧ t.reg (Reg.AXL_WIN_REJ a.val) = counted s (Reg.AXL_WIN_REJ a.val) ∧
        (m.data.length < m.len → (t.lnk a.val).skip = (m.len + 27) / 28 - (m.data.length + 27) / 28) ∧ t.bit ((0x0A0 + a.val) * 0x1000 + 0x10) 3 = true))
  ∧ (∀ (a : Fin 4) (s : State), (s.lnk a.val).rxResp = [] → exec (.wack a) s = .next s)
  ∧ (∀ (a : Fin 4) (s : State) (tag : Nat) (rest : List (Nat × Nat)) (p : Piece), (s.lnk a.val).rxResp = (tag, 0) :: rest → tag < 256 → let c := tag / 64
    let r := s.rd a.val c
    r.pieces.find? (fun p => p.sent && p.num % 64 == tag % 64) = some p → s.bit (Reg.AXL_RD_STAT a.val c) 31 = true → r.ending = none → let done := s.reg (Reg.AXL_RD_DONE a.val c) + w32 p.len
    ∃ t, exec (.wack a) s = .next t ∧ (t.lnk a.val).rxResp = rest ∧ t.reg (Reg.AXL_RD_DONE a.val c) = done ∧ t.mem = s.mem ∧
      (done ≠ s.reg (Reg.AXL_RD_CNT a.val c) → (t.rd a.val c).pieces = r.pieces.erase p ∧ t.reg (Reg.AXL_RD_STAT a.val c) = s.reg (Reg.AXL_RD_STAT a.val c)) ∧
      (done = s.reg (Reg.AXL_RD_CNT a.val c) → t.reg (Reg.AXL_RD_STAT a.val c) = 0 ∧ t.bit ((0x0A0 + a.val) * 0x1000 + 0x10) (8 + c) = true ∧
        let e := s.reg (Reg.AXL_RD_EVT a.val c)
        (e.getLsbD 14 = false → t.mesh = s.mesh) ∧
        (e.getLsbD 14 = true → t.mesh.map (fun m => (m.src.val, m.dst.val, m.body)) = s.mesh.map (fun m => (m.src.val, m.dst.val, m.body)) ++
          [(44 + a.val, e.toNat / 2 ^ 9 % 2 ^ 5, .inc ⟨e.toNat % 2 ^ 9, Nat.mod_lt _ (by decide)⟩ 1)])))
  ∧ (∀ (a : Fin 4) (s : State) (tag : Nat) (rest : List (Nat × Nat)) (p : Piece), (s.lnk a.val).rxResp = (tag, 1) :: rest → tag < 256 → let c := tag / 64
    (s.rd a.val c).pieces = [p] → p.sent = true → p.num % 64 = tag % 64 → s.bit (Reg.AXL_RD_STAT a.val c) 31 = true → (s.rd a.val c).ending = none →
    ∃ t, exec (.wack a) s = .next t ∧ (t.lnk a.val).rxResp = rest ∧ t.reg (Reg.AXL_RD_STAT a.val c) = w32 (7 <<< 24) ∧ t.reg (Reg.AXL_RD_LEFT a.val c) = s.reg (Reg.AXL_RD_LEFT a.val c) + w32 p.len ∧
      t.reg (Reg.AXL_RD_DONE a.val c) = s.reg (Reg.AXL_RD_DONE a.val c) ∧ t.bit ((0x0A0 + a.val) * 0x1000 + 0x10) (12 + c) = true ∧ t.mem = s.mem)
  ∧ (∀ (a c : Fin 4) (s : State), let k := (s.lnk a.val).turn % 4
    k ≠ c.val → s.rdCan a.val k = true → (∀ p ∈ (s.rd a.val c.val).pieces, p.sent = true) → exec (.rdmaPiece a c) s = .next s)
  ∧ (∀ (a c : Fin 4) (s : State), let r := s.rd a.val c.val
    let o := r.next
    let len := min ((s.reg (Reg.AXL_RD_CNT a.val c.val)).toNat - o) (256 - (s.reg64 (Reg.AXL_RD_WOFF_LO a.val c.val) + o) % 256)
    let src := s.reg64 (Reg.AXL_RD_SRC_LO a.val c.val) + o
    s.fld (Reg.AXL_STAT a.val) 12 4 = 7 → s.bit (Reg.AXL_RD_STAT a.val c.val) 31 = true → r.ending = none → (∀ p ∈ r.pieces, p.sent = true) → r.pieces.length < 64 → 0 < len →
    (∀ nd, s.credUsed (44 + a.val) nd = 0) → (s.lnk a.val).turn = c.val → ∃ t, exec (.rdmaPiece a c) s = .next t ∧ t.mem = s.mem ∧ (t.lnk a.val).turn = (c.val + 1) % 4 ∧ (t.rd a.val c.val).next = o + len ∧
      (t.rd a.val c.val).pieces = r.pieces ++ [{ num := r.num % 64, start := o, len := len, got := [], cnt := 0, bad := [], off := false, sent := false }] ∧
      t.reg (Reg.AXL_RD_LEFT a.val c.val) = w32 ((s.reg (Reg.AXL_RD_CNT a.val c.val)).toNat - (o + len)) ∧
      t.mesh.map Msg.body = s.mesh.map Msg.body ++ (cutBlocks src len).map (fun q => Body.rd q.1 q.2 (.rdma a c (r.run <<< 40 + o + (q.1 - src)) q.2)))
  ∧ (∀ (a c : Fin 4) (s : State) (p : Piece), let r := s.rd a.val c.val
    s.fld (Reg.AXL_STAT a.val) 12 4 = 7 → s.bit (Reg.AXL_RD_STAT a.val c.val) 31 = true → r.ending = none → r.pieces.find? (fun p => !p.sent) = some p → p.off = false →
    (p.cnt ≠ p.len → exec (.rdmaPiece a c) s = .next s)
    ∧ (p.cnt = p.len → ∃ t, exec (.rdmaPiece a c) s = .next t ∧ t.mem = s.mem ∧ t.mesh = s.mesh ∧ (t.rd a.val c.val).pieces = r.pieces.map (fun q => if q = p then { q with sent := true } else q)))
  ∧ (∀ (a : Fin 4) (s : State), (s.lnk a.val).rxSync = [] → exec (.tickMessage a) s = .next s)
  ∧ (∀ (a : Fin 4) (s : State) (cnt : BitVec 48) (start : BitVec 64) (rest : List (BitVec 48 × BitVec 64)), (s.lnk a.val).rxSync = (cnt, start) :: rest →
    let tm := start + BitVec.ofNat 64 (s.fld Reg.TIME_LINK_DELAY 0 16)
    ∃ t, exec (.tickMessage a) s = .next t ∧ (t.lnk a.val).rxSync = rest ∧ t.mem = s.mem ∧
      (s.bit Reg.SEQ_STATE 3 = true → s.fld Reg.TIME_SRC 0 2 = 3 → s.fld Reg.TIME_SRC 12 4 = a.val → s.tb.pend = none →
        t.tb.pend = some { time := tm, merged := 0, link := some cnt, late := decide (tm.toNat + 8 < s.tb.now.toNat) }) ∧
      (s.bit Reg.SEQ_STATE 3 = false ∨ s.fld Reg.TIME_SRC 0 2 ≠ 3 ∨ s.fld Reg.TIME_SRC 12 4 ≠ a.val → t.tb = s.tb))
  ∧ (∀ (a : Fin 4) (s : State), let now := s.tb.now.toNat
    s.fld (Reg.AXL_STAT a.val) 12 4 = 7 →
    (s.bit Reg.TIME_LINK 6 = true → s.fld Reg.TIME_LINK 4 2 = a.val → (s.lnk a.val).probeAt ≤ now → exec (.timeProbe a) s =
      .next (State.emit (s.modLnk a.val (fun l => { l with probeAt := now + 1000 * max 1 (s.fld (Reg.AXL_TPRB a.val) 0 16) })) a.val { bits := mkFlit 4 0 (now * 2 ^ 168), pois := 0 }))
    ∧ (s.bit Reg.TIME_LINK 6 = false ∨ s.fld Reg.TIME_LINK 4 2 ≠ a.val ∨ now < (s.lnk a.val).probeAt → exec (.timeProbe a) s = .next s))
  ∧ (∀ (a : Fin 4) (f : BitVec 256) (s : State), let now := s.tb.now.toNat
    s.fld (Reg.AXL_STAT a.val) 12 4 = 7 → flitOk f = true → ffld f 252 4 = 4 → ffld f 236 4 = 0 →
    exec (.probeAnswer a f) s = .next (s.emit a.val { bits := mkFlit 4 0 (2 ^ 236 + (if s.bit Reg.TIME_LINK 6 = true ∧ s.fld Reg.TIME_LINK 4 2 = a.val then 2 ^ 235 else 0)
      + ffld f 168 64 * 2 ^ 168 + now * 2 ^ 104 + now * 2 ^ 40), pois := 0 }))
  ∧ (∀ (a : Fin 4) (f : BitVec 256) (s : State), s.fld (Reg.AXL_STAT a.val) 12 4 = 7 → flitOk f = true → ffld f 252 4 = 4 → ffld f 236 4 = 1 → s.bit Reg.TIME_LINK 6 = true → s.fld Reg.TIME_LINK 4 2 = a.val →
    let t := fun lo => BitVec.ofNat 64 (ffld f lo 64)
    let up := (t 104 - t 168).toInt
    let dn := (s.tb.now - t 40).toInt
    let th := (dn - up).tdiv 2
    ∃ u, exec (.answer a f) s = .next u ∧ u.reg (Reg.AXL_TOFS a.val) = BitVec.ofInt 32 th ∧ u.reg (Reg.AXL_TDLY a.val) = w32 (min 0xFFFF ((up + dn) / 2).toNat) ∧ u.mem = s.mem ∧
      (8 < th.natAbs → u.bit Reg.TIME_LINK 7 = false) ∧ (th.natAbs ≤ 8 → 15 ≤ (s.lnk a.val).probes → u.bit Reg.TIME_LINK 7 = true) ∧
      (ffld f 235 1 = 0 → u.reg Reg.TIME_ADJ = BitVec.ofInt 32 (-th)) ∧
      (ffld f 235 1 = 1 → u.reg Reg.TIME_ADJ = s.reg Reg.TIME_ADJ ∧ u.bit ((0x0A0 + a.val) * 0x1000 + 0x10) 6 = true))

/-- R370, R373, R374, R377, R379: RETRAIN and EN = 1 start the training of an enabled link that is DOWN or ACTIVE; a window opens when its whole range lies in DRAM or in one vault; a transfer starts with all bytes left, with CNT = 0 completes at once, or is refused with its reason, and a STOP ends it at once when nothing it sent waits for its acknowledgement. Where the rules leave a choice, it is the model's (log entry 37). -/
def Obligations.LinkCommands : Prop :=
  (∀ (req : Node) (a : Fin 4) (v : Word) (s : State), Opens s req.val (0x0A0 + a.val) → let stat := Reg.AXL_STAT a.val
    (s.bit ((0x0A0 + a.val) * 0x1000 + 8) 0 = true → s.fld stat 12 4 = 0 ∨ s.fld stat 12 4 = 7 → ∃ t, exec (.retrain req a false v) s = .next t ∧
      t.fld stat 12 4 = (if s.fld stat 12 4 = 0 then 1 else 2) ∧ t.reg (Reg.AXL_CTL a.val) = (v &&& 0x98) ∧ (t.lnk a.val).replay = (s.lnk a.val).replay ∧ (t.lnk a.val).good = 0xFF ∧ (t.lnk a.val).inverted = 0 ∧ t.mem = s.mem)
    ∧ (s.bit ((0x0A0 + a.val) * 0x1000 + 8) 0 = false ∨ (s.fld stat 12 4 ≠ 0 ∧ s.fld stat 12 4 ≠ 7) → exec (.retrain req a false v) s = .next (s.setReg (Reg.AXL_CTL a.val) (v &&& 0x98)))
    ∧ (v.getLsbD 1 = false → s.bit ((0x0A0 + a.val) * 0x1000 + 8) 0 = false → s.fld stat 12 4 = 0 → ∃ t, exec (.retrain req a true v) s = .next t ∧
      t.bit ((0x0A0 + a.val) * 0x1000 + 8) 0 = true ∧ t.fld stat 12 4 = 1 ∧ t.mem = s.mem))
  ∧ (∀ (req : Node) (a : Fin 4) (w : Fin 64) (v : Word) (s : State), Opens s req.val (0x0A0 + a.val) → let r := Reg.AXL_WIN_CTL a.val w.val
    (s.bit r 31 = false → s.winOk a.val w.val (v.getLsbD 2) = true → exec (.windowOpen req a w v) s = .next (s.setReg r ((v &&& 6) ||| 0x80000000)))
    ∧ (s.bit r 31 = false → s.winOk a.val w.val (v.getLsbD 2) = false →
      exec (.windowOpen req a w v) s = .next (State.raise (reports (s.setReg r (v &&& 6)) (0x0A0 + a.val) 0xD7 w.val 0 req.val) (0x0A0 + a.val) 5))
    ∧ (s.bit r 31 = true → v &&& 6 ≠ s.reg r &&& 6 → exec (.windowOpen req a w v) s = .next (reports s (0x0A0 + a.val) 0x50 0 (r % 0x1000) req.val)))
  ∧ (∀ (req : Node) (a c : Fin 4) (v : Word) (s : State), Opens s req.val (0x0A0 + a.val) → let stat := Reg.AXL_RD_STAT a.val c.val
    let cnt := s.reg (Reg.AXL_RD_CNT a.val c.val)
    let t := s.setReg (Reg.AXL_RD_CTL a.val c.val) (v &&& 0x3FFFC000)
    let home := (s.rangeHome (s.reg64 (Reg.AXL_RD_SRC_LO a.val c.val)) cnt.toNat).isSome
    let refused := fun (reason : Nat) => State.raise (reports (t.setFld stat 24 4 reason) (0x0A0 + a.val) 0xD4 c.val reason req.val) (0x0A0 + a.val) (12 + c.val)
    (s.bit stat 31 = false → v.toNat % 2 ^ 14 = 0 → home = true → s.fld (Reg.AXL_STAT a.val) 12 4 = 7 → cnt ≠ 0 →
      exec (.rdmaStart req a c v) s = .next (State.setRd (((t.setReg stat 0x80000000).setReg (Reg.AXL_RD_LEFT a.val c.val) cnt).setReg (Reg.AXL_RD_DONE a.val c.val) 0) a.val c.val
        { Rdma.reset with run := (s.rd a.val c.val).run + 1 }))
    ∧ (s.bit stat 31 = false → v.toNat % 2 ^ 14 ≠ 0 → exec (.rdmaStart req a c v) s = .next (refused 4))
    ∧ (s.bit stat 31 = false → v.toNat % 2 ^ 14 = 0 → s.fld (Reg.AXL_STAT a.val) 12 4 = 7 → cnt = 0 → ∃ u, exec (.rdmaStart req a c v) s = .next u ∧ u.reg stat = 0 ∧
      u.bit ((0x0A0 + a.val) * 0x1000 + 0x10) (8 + c.val) = true ∧ (u.rd a.val c.val).pieces = [] ∧ u.mem = s.mem)
    ∧ (s.bit stat 31 = false → v.toNat % 2 ^ 14 = 0 → cnt ≠ 0 → home = false → exec (.rdmaStart req a c v) s = .next (refused 2))
    ∧ (s.bit stat 31 = false → v.toNat % 2 ^ 14 = 0 → home = true → s.fld (Reg.AXL_STAT a.val) 12 4 ≠ 7 → exec (.rdmaStart req a c v) s = .next (refused 9)))
  ∧ (∀ (req : Node) (a c : Fin 4) (v : Word) (s : State), Opens s req.val (0x0A0 + a.val) → let stat := Reg.AXL_RD_STAT a.val c.val
    let r := s.rd a.val c.val
    (s.bit stat 31 = false → exec (.rdmaStop req a c v) s = .next (s.setReg (Reg.AXL_RD_CTL a.val c.val) (v &&& 0x3FFFC000)))
    ∧ (s.bit stat 31 = true → (∃ p ∈ r.pieces, p.sent = true) → exec (.rdmaStop req a c v) s =
      .next ((s.setReg (Reg.AXL_RD_LEFT a.val c.val) (s.reg (Reg.AXL_RD_LEFT a.val c.val) + w32 ((r.pieces.filter (fun p => !p.sent)).map Piece.len).sum)).setRd a.val c.val
        { r with ending := some (r.ending.getD 6), pieces := r.pieces.filter (·.sent) }))
    ∧ (s.bit stat 31 = true → r.ending = none → (∀ p ∈ r.pieces, p.sent = false) → ∃ t, exec (.rdmaStop req a c v) s = .next t ∧ t.reg stat = w32 (6 <<< 24) ∧
      t.bit ((0x0A0 + a.val) * 0x1000 + 0x10) (12 + c.val) = true ∧ (t.rd a.val c.val).pieces = [] ∧ t.mem = s.mem))

/-! ### Bring-up -/

/-- The Keep of t runs the image that s holds at address a and that failed the steps f (R388, R390, R392): its code is in the Keep SRAM, the Keep's core runs at ENTRY, and stage LOAD is done in a quick
start, when CFG asks for one and a map is in use, or in a full one. -/
structure Sys2Proof.ImageRuns (s t : State) (a : Nat) (f : List Nat) : Prop where
  code : t.bytes sramAddr (s.imgLen a) = s.bytes (a + 0x100) (s.imgLen a)
  runs : (t.core 32).st = 1 ∧ (t.core 32).pc = w32 (s.numLE (a + 0x10) 4)
  svn : t.reg Reg.KEEP_SVN = w32 (s.numLE (a + 8) 4)
  ids : t.keep.ssid = w32 (s.numLE (a + 0xD8) 4) ∧ t.keep.cfg = w32 (s.numLE (a + 0x14) 4)
  stage : t.stage = 1 ∧ t.keep.next = 2 ∧ t.chip = s.chip
  mode : t.bootMode = if (s.numLE (a + 0x14) 4).testBit 0 = true ∧ t.keep.map.isSome = true then 2 else 1
  fails : f ≠ [] → t.bit Reg.KEEP_BOOT 30 = true ∧ t.bit 0x10 3 = true

/-- R388 to R398, R405, R407 to R410, R453: secure boot runs the first slot that may run, or goes to RECOVERY; it waits for RESET_N and both PLLs. Each stage acts when it is due and names itself in STAGE; it leaves the next one due, fails
the chip, or, in a quick start whose findings differ from the map, goes on as a full start from stage LOGIC. DRAM_TRAIN lets the DRAM devices out of reset, LOGIC fails the chip when a router of rows 0 to 2 fails, through which the routes between nodes 32, 40, 41 and 42 go (R296, R407), and the end of MAP leaves the writable registers outside page 0x000 at their reset values, but for the state of the links and of the DRAM channels, BAR2's size and MSI-X. The writes of the repair map end with the map in use in the copy written. Where the rules leave a choice, it is the model's (log entries 12, 43, 44, 48, every byte of DRAM and of the vaults reads 0 after the stage that clears it, and 94). -/
def Obligations.BringUp : Prop :=
  (∀ s : State, s.chip ≠ 0 ∨ s.stage ≠ 0 ∨ s.keep.resetN = false ∨ s.fld Reg.KEEP_CLK_STAT 0 2 ≠ 3 → exec .secureBoot s = .next s)
  ∧ (∀ s : State, s.chip = 0 → s.stage = 0 → s.keep.resetN = true → s.fld Reg.KEEP_CLK_STAT 0 2 = 3 → let fa := s.imgFails flashAddr
    let fb := s.imgFails (flashAddr + 0x800000)
    (s.mayRun fa = true → ∃ t, exec .secureBoot s = .next t ∧ ImageRuns s t flashAddr fa ∧ t.bit Reg.KEEP_BOOT 0 = false ∧ t.fld Reg.KEEP_BOOT 4 4 = fa.headD 0)
    ∧ (s.mayRun fa = false → s.mayRun fb = true → ∃ t, exec .secureBoot s = .next t ∧ ImageRuns s t (flashAddr + 0x800000) fb ∧ t.bit Reg.KEEP_BOOT 0 = true ∧
      t.fld Reg.KEEP_BOOT 4 4 = fa.headD 0 ∧ t.fld Reg.KEEP_BOOT 8 4 = fb.headD 0)
    ∧ (s.mayRun fa = false → s.mayRun fb = false → ∃ t, exec .secureBoot s = .next t ∧ t.stage = 0x0F ∧ t.bootMode = 3 ∧ t.fld Reg.OCU_WBASE_LO 0 4 = 6 ∧ t.host.trainEn = true ∧
      t.keep.ssid = 0 ∧ t.cores = s.cores ∧ t.mem = s.mem ∧ t.fld Reg.KEEP_BOOT 4 4 = fa.headD 0 ∧ t.fld Reg.KEEP_BOOT 8 4 = fb.headD 0))
  ∧ (∀ (s : State) (failed : BitVec 34) (routers : Word) (sv : Bool) (tr : Byte) (d : Fin 4) (rows : List BadRow),
    ∀ x ∈ [(2, Instr.stagePcie), (3, .stageSram failed sv), (4, .stageLogic failed routers sv), (5, .stageDramTrain tr d), (6, .stageVault rows sv), (7, .stageDramTest tr), (8, .stageMap)],
      s.keep.next ≠ x.1 ∨ 1 < s.chip → exec x.2 s = .next s)
  ∧ (∀ s : State, s.keep.next = 2 → s.chip ≤ 1 → ∃ t, exec .stagePcie s = .next t ∧ t.stage = 2 ∧ t.chip = 1 ∧ t.keep.next = 3 ∧ t.host.trainEn = true ∧
    t.fld Reg.OCU_WBASE_LO 0 4 = bitsOf s.keep.cfg 8 4 ∧ t.mem = s.mem ∧ t.cores = s.cores)
  ∧ (∀ (failed : BitVec 34) (s : State), s.keep.next = 3 → s.chip ≤ 1 →
    (∃ t, exec (.stageSram failed true) s = .next t ∧ t.stage = 3 ∧ t.chip = s.chip ∧ t.keep = { s.keep with failed := s.keep.failed ||| failed, next := 4 } ∧ t.mem = s.mem)
    ∧ (∃ t, exec (.stageSram failed false) s = .next t ∧ t.stage = 3 ∧ t.chip = 5 ∧ t.keep.next = 3 ∧ t.mem = s.mem))
  ∧ (∀ (failed : BitVec 34) (routers : Word) (service : Bool) (s : State), s.keep.next = 4 → s.chip ≤ 1 → let own := match s.keep.map with
      | some m => m.failed
      | none => 0
    (s.bootMode = 2 → failed.toNat ≠ own → ∃ t, exec (.stageLogic failed routers service) s = .next t ∧ t.stage = 4 ∧ t.bootMode = 1 ∧ t.bit Reg.KEEP_STATE 19 = true ∧ t.chip = s.chip ∧ t.keep = s.keep)
    ∧ (s.bootMode ≠ 2 ∨ failed.toNat = own →
      (service = true → routers &&& 0x00FFFFFF = 0 → ∃ t, exec (.stageLogic failed routers service) s = .next t ∧ t.stage = 4 ∧ t.chip = s.chip ∧
        t.keep = { s.keep with failed := s.keep.failed ||| failed, routers := routers, next := 5 })
      ∧ (service = false ∨ routers &&& 0x00FFFFFF ≠ 0 → ∃ t, exec (.stageLogic failed routers service) s = .next t ∧ t.stage = 4 ∧ t.chip = 5)))
  ∧ (∀ (trained : Byte) (dens : Fin 4) (s : State), s.keep.next = 5 → s.chip ≤ 1 → let fit := 2 ^ bitsOf s.keep.cfg 2 2
    let ok := trained.toNat % 2 ^ fit
    (s.bootMode ≠ 2 → trained.getLsbD 0 = true → ∃ t, exec (.stageDramTrain trained dens) s = .next t ∧ t.stage = 5 ∧ t.keep.next = 6 ∧ t.chip = s.chip ∧ t.fld Reg.KEEP_DRAM 0 4 = fit ∧
      t.fld Reg.KEEP_DRAM 16 8 = ok ∧ t.keep.dramResetN = true ∧ (∀ c < fit, t.reg (Reg.DRC_STAT c) = w32 ((if trained.getLsbD c then 64 else 0) + dens.val * 16) ∧ t.reg (Reg.DRC_DRIFT c) = 0) ∧
      (∀ a < 4, s.keep.cfg.getLsbD (4 + a) = true → t.bit ((0x0A0 + a) * 0x1000 + 8) 0 = true) ∧ t.keep.train.length = 512 ∧ t.mem = s.mem)
    ∧ (s.bootMode ≠ 2 → trained.getLsbD 0 = false → ∃ t, exec (.stageDramTrain trained dens) s = .next t ∧ t.stage = 5 ∧ t.chip = 5)
    ∧ (∀ m : RepairMap, s.bootMode = 2 → s.keep.map = some m → (∃ c < fit, m.dramOk.testBit c = true ∧ trained.getLsbD c = false) → ∃ t, exec (.stageDramTrain trained dens) s = .next t ∧
      t.stage = 4 ∧ t.bootMode = 1 ∧ t.bit Reg.KEEP_STATE 19 = true ∧ t.keep.next = 4 ∧ t.keep.dramResetN = true ∧ t.chip = s.chip)
    ∧ (∀ m : RepairMap, s.bootMode = 2 → s.keep.map = some m → (∀ c < fit, m.dramOk.testBit c = true → trained.getLsbD c = true) → trained.getLsbD 0 = true →
      ∃ t, exec (.stageDramTrain trained dens) s = .next t ∧ t.stage = 5 ∧ t.keep.next = 6 ∧ t.keep.train = m.train ∧ t.keep.dramResetN = true ∧ t.chip = s.chip))
  ∧ (∀ (rows : List BadRow) (s : State), s.keep.next = 6 → s.chip ≤ 1 → s.bootMode = 2 →
    (∃ t, exec (.stageVault rows false) s = .next t ∧ t.stage = 4 ∧ t.bootMode = 1 ∧ t.bit Reg.KEEP_STATE 19 = true ∧ t.keep.next = 4)
    ∧ (∀ m, s.keep.map = some m → ∃ t, exec (.stageVault rows true) s = .next t ∧ t.stage = 6 ∧ t.keep = { s.keep with rows := m.rows, next := 7 } ∧ t.reg Reg.KEEP_VREP = w32 m.rows.length ∧ t.mem = s.mem))
  ∧ (∀ (passed : Byte) (s : State) (u : Nat), s.keep.next = 7 → s.chip ≤ 1 → let fit := 2 ^ bitsOf s.keep.cfg 2 2
    let good := fun (c : Nat) => s.bit Reg.KEEP_DRAM (16 + c) && (s.bootMode == 2 || passed.getLsbD c)
    (u ∈ [1, 2, 4, 8] → u ≤ fit → (∀ c < u, good c = true) → (2 * u ≤ fit → ∃ c < 2 * u, good c = false) → ∃ t, exec (.stageDramTest passed) s = .next t ∧ t.stage = 7 ∧ t.keep.next = 8 ∧ t.chip = s.chip ∧
      t.fld Reg.KEEP_DRAM 4 4 = u ∧ t.fld Reg.KEEP_DRAM 24 8 = u * 2 ^ s.fld (Reg.DRC_STAT 0) 4 2 ∧ (∀ c < 8, t.bit Reg.KEEP_DRAM (8 + c) = good c) ∧
      (∀ c < 8, t.bit (Reg.DRC_STAT c) 7 = (decide (c < u) || s.bit (Reg.DRC_STAT c) 7)) ∧ (∀ a < 0x001000000000, t.byte a = 0) ∧ (∀ a, 0x001000000000 ≤ a → t.byte a = s.byte a))
    ∧ (good 0 = false → ∃ t, exec (.stageDramTest passed) s = .next t ∧ t.stage = 7 ∧ t.chip = 5 ∧ t.fld Reg.KEEP_DRAM 4 4 = 0))
  ∧ (∀ s : State, s.Canon → s.keep.next = 8 → s.chip ≤ 1 → let g := gridOf s.keep.failed s.keep.routers
    let short := decide (s.fld Reg.KEEP_DRAM 4 4 < 2 ^ bitsOf s.keep.cfg 2 2)
    (popCount g = 0 → ∃ t, exec .stageMap s = .next t ∧ t.stage = 8 ∧ t.chip = 5 ∧ t.reg Reg.KEEP_GRID = g ∧ t.mem = s.mem)
    ∧ (0 < popCount g → ∃ t, exec .stageMap s = .next t ∧ t.stage = 9 ∧ t.chip = (if popCount g = 32 ∧ short = false then 2 else 4) ∧ t.keep.next = 9 ∧ t.reg Reg.KEEP_GRID = g ∧
      t.reg Reg.KEEP_SPIRE_PSTAT = g ∧ t.fld Reg.KEEP_SPIRES 16 8 = popCount g ∧ t.reg64 Reg.KEEP_READY_LO = s.tb.now.toNat ∧
      t.fld Reg.KEEP_STATE 20 2 = (if popCount g < 32 then 1 else 0) + (if short then 2 else 0) ∧ (∀ n < 32, t.reg (Reg.VLT_SEG_STAT n) = 2) ∧
      (∀ a d i, descAt a = some (d, i) → 0x1000 ≤ a → 0x40 ≤ a % 0x1000 → a ≠ Reg.OCU_WBASE_LO → isMsix a = false → (∀ l < 4, a ≠ Reg.AXL_STAT l ∧ a ≠ Reg.AXL_PEER l) →
        (∀ c < 8, a ≠ Reg.DRC_STAT c ∧ a ≠ Reg.DRC_DRIFT c) → a < 0x300000 →
        let w := d.rw ||| d.rc ||| d.wo ||| d.w1c
        t.reg a &&& w = regReset a &&& w) ∧ t.tb.tickCnt = 0 ∧ (∀ a, isMsix a = true → t.reg a = s.reg a) ∧
      (∀ l < 4, t.reg (Reg.AXL_STAT l) = s.reg (Reg.AXL_STAT l) ∧ t.reg (Reg.AXL_PEER l) = s.reg (Reg.AXL_PEER l) ∧ t.bit ((0x0A0 + l) * 0x1000 + 8) 0 = s.bit ((0x0A0 + l) * 0x1000 + 8) 0) ∧ (∀ n < 32, (t.core n).st = 0) ∧ t.tb.pend = none ∧
      (∀ a, t.byte a = if 0x010000000000 ≤ a ∧ a < 0x010020000000 then 0 else s.byte a) ∧
      t.keep.flash = s.keep.flash ++ (if s.keep.cfg.getLsbD 1 = true ∧ s.bootMode = 1 then [.bringup] else [])))
  ∧ (∀ (ok : Bool) (s : State), s.keep.flash = [] → exec (.mapWriteDone ok) s = .next s)
  ∧ (∀ (s : State) (op : FlashOp) (rest : List FlashOp), s.keep.flash = op :: rest → let m := s.mapToStore
    (op ≠ .drop → ∃ t, exec (.mapWriteDone true) s = .next t ∧ t.keep.flash = rest ∧ t.keep.map = some m ∧ t.bytes (mapAddr m.copy) (s.mapBytes m).length = s.mapBytes m ∧
      (∀ a, a < mapAddr m.copy → t.byte a = s.byte a) ∧ (op = .store → t.reg Reg.KEEP_CMD_STAT = 0 ∧ t.bit 0x10 2 = true) ∧ (op = .bringup → t.regs = s.regs))
    ∧ (op ≠ .drop → ∃ t, exec (.mapWriteDone false) s = .next t ∧ t.keep.flash = rest ∧ t.keep.map = s.keep.map ∧ (op = .store → t.reg Reg.KEEP_CMD_STAT = 4 ∧ t.bit 0x10 2 = true) ∧
      (∀ a, a < mapAddr m.copy → t.byte a = s.byte a))
    ∧ (op = .drop → (∃ t, exec (.mapWriteDone true) s = .next t ∧ t.keep = { s.keep with flash := rest } ∧ t.reg Reg.KEEP_CMD_STAT = 0 ∧ t.bit 0x10 2 = true ∧ t.mem = s.mem) ∧
      (∃ t, exec (.mapWriteDone false) s = .next t ∧ t.keep = { s.keep with flash := rest } ∧ t.reg Reg.KEEP_CMD_STAT = 4 ∧ t.bit 0x10 2 = true ∧
        (∀ a, (a < mapAddr 0 ∨ mapAddr 0 + 4 ≤ a) → (a < mapAddr 1 ∨ mapAddr 1 + 4 ≤ a) → t.byte a = s.byte a))))
  ∧ (∀ (s : State) (m : RepairMap), s.keep.map = some m → s.bootMode = 2 → s.mapToStore = { m with copy := 1 - m.copy, gen := (m.gen + 1) % 2 ^ 32 })
  ∧ (∀ s : State, s.keep.map = none ∨ s.bootMode ≠ 2 → let m := s.mapToStore
    m.failed = s.keep.failed.toNat ∧ m.train = s.keep.train ∧ m.rows = s.keep.rows ∧ m.dramOk = s.fld Reg.KEEP_DRAM 8 8 ∧ (s.keep.map = none → m.copy = 0 ∧ m.gen = 1) ∧
      (∀ x, s.keep.map = some x → m.copy = 1 - x.copy ∧ m.gen = (x.gen + 1) % 2 ^ 32))

/-- R394 to R396: with no failed router and at most one failed physical spire in each half, the whole logical grid works. After the vault test of a full start each failed row has a spare row of its own bank, one of four that no
other row of the bank has, or its physical spire has failed. Where the rules leave a choice, it is the model's (log entry 47). -/
def Obligations.RepairKeepsGrid : Prop :=
  (∀ failed : BitVec 34, (∀ p q, p < 17 → q < 17 → failed.getLsbD p = true → failed.getLsbD q = true → p = q) →
    (∀ p q, 17 ≤ p → p < 34 → 17 ≤ q → q < 34 → failed.getLsbD p = true → failed.getLsbD q = true → p = q) → gridOf failed 0 = 0xFFFFFFFF)
  ∧ (∀ (rows : List BadRow) (ck : Bool) (s : State), s.keep.next = 6 → s.chip ≤ 1 → s.bootMode ≠ 2 → ∃ t, exec (.stageVault rows ck) s = .next t ∧ t.stage = 6 ∧ t.keep.next = 7 ∧ t.mem = s.mem ∧
    t.reg Reg.KEEP_VREP = w32 t.keep.rows.length ∧ (∀ p, s.keep.failed.getLsbD p = true → t.keep.failed.getLsbD p = true) ∧
    (∀ r ∈ rows, t.keep.failed.getLsbD r.spire.val = true ∨ ∃ x ∈ t.keep.rows, x.spire = r.spire.val ∧ x.bank = r.bank.val ∧ x.row = r.row.toNat) ∧
    (∀ x ∈ t.keep.rows, x.spare < 4 ∧ t.keep.failed.getLsbD x.spire = false) ∧
    (∀ x ∈ t.keep.rows, ∀ y ∈ t.keep.rows, x.spire = y.spire → x.bank = y.bank → x.spare = y.spare → x = y))

/-! ### The Keep's commands, power, clocks and DRAM service -/

/-- A KEEP_CMD command refused for a reason (R410): RESULT holds it and it is reported. -/
def Sys2Proof.cmdRefused (s : State) (req cmd reason : Nat) : State := reports (s.setFld Reg.KEEP_CMD_STAT 0 8 reason) 0x000 0xE0 cmd reason req

/-- The chip serves: READY, RUNNING or LIMITED (R413). -/
def Sys2Proof.serving (s : State) : Prop := 2 ≤ s.chip ∧ s.chip ≤ 4

/-- R389, R405, R410 to R412, R423, R430: a command is refused while another runs, or where the chip's state does not allow it. A warm reset keeps memory, device time, the tick count, the grid, the flags and the Keep, and returns every spire core to its reset
state; a cold reset keeps fuses, boot ROM and flash alone, and drives the DRAM resets low. Map commands start a write of the flash; REC_BOOT runs the image in the SRAM; recovery data fills it; mailbox 3 rings the Keep; pending groups send their vectors again; spires of the grid lose their power at once and start to wake. Where the rules leave a choice, it is the model's (log entries 9, the fused bits, 18, the caches kept over a warm reset, 39, KEEP_MBOX_IN3 behind the BAR2 writes before it, 45, 46 and 48, what an island without power holds). -/
def Obligations.KeepCommands : Prop :=
  (∀ (req : Node) (v : Word) (s : State), Opens s req.val 0x000 → s.bit Reg.KEEP_CMD_STAT 31 = true →
    exec (.warmReset req v) s = .next (cmdRefused s req.val 1 2) ∧ exec (.coldReset req v) s = .next (cmdRefused s req.val 2 2) ∧ exec (.storeMap req v) s = .next (cmdRefused s req.val 3 2)
    ∧ exec (.dropMap req v) s = .next (cmdRefused s req.val 4 2) ∧ exec (.recBoot req v) s = .next (cmdRefused s req.val 5 2))
  ∧ (∀ (req : Node) (v : Word) (s : State), Opens s req.val 0x000 → s.bit Reg.KEEP_CMD_STAT 31 = false →
    (¬ serving s → exec (.warmReset req v) s = .next (cmdRefused s req.val 1 1) ∧ exec (.storeMap req v) s = .next (cmdRefused s req.val 3 1))
    ∧ (s.chip = 0 → exec (.coldReset req v) s = .next (cmdRefused s req.val 2 1) ∧ (s.stage ≠ 0x0F → exec (.dropMap req v) s = .next (cmdRefused s req.val 4 1)))
    ∧ (s.stage ≠ 0x0F → exec (.recBoot req v) s = .next (cmdRefused s req.val 5 1)))
  ∧ (∀ (req : Node) (v : Word) (s : State), s.Canon → Opens s req.val 0x000 → s.bit Reg.KEEP_CMD_STAT 31 = false → serving s → ∃ t, exec (.warmReset req v) s = .next t ∧
    t.mem = s.mem ∧ t.tb.now = s.tb.now ∧ t.tb.tickCnt = s.tb.tickCnt ∧ t.tb.pend = none ∧ t.bel = { Belfry.reset with loads := s.bel.loads + 1 } ∧ t.chip = (if s.chip = 3 then 2 else s.chip) ∧
    t.reg Reg.KEEP_CMD_STAT = 0 ∧ t.bit 0x10 2 = true ∧ t.reg Reg.KEEP_GRID = s.reg Reg.KEEP_GRID ∧ t.keep = s.keep ∧ t.core 32 = s.core 32 ∧ t.host.up = s.host.up ∧
    (∀ n < 32, t.core n = { Core.reset with icache := (s.core n).icache, lineBuf := (s.core n).lineBuf }) ∧ (∀ j < 128, t.reg (Reg.OCU_OWN j) = s.reg (Reg.OCU_OWN j)) ∧
    (∀ i < 4, t.reg (Reg.KEEP_MBOX_IN i) = 0) ∧ t.reg Reg.SEQ_STATE = 0)
  ∧ (∀ (req : Node) (v : Word) (s : State), s.Canon → Opens s req.val 0x000 → s.bit Reg.KEEP_CMD_STAT 31 = false → s.chip ≠ 0 → ∃ t, exec (.coldReset req v) s = .next t ∧
    (∀ a, t.byte a = if outlives a then s.byte a else 0) ∧ (∀ a, t.reg a = (s.reg a &&& fusedBits a) ||| (regReset a &&& ~~~fusedBits a)) ∧ t.cores = [] ∧ t.tb = Timebase.reset ∧
    t.mesh = [] ∧ t.pending = s.pending ∧ t.host.up = false ∧ t.keep.keyHash = s.keep.keyHash ∧ t.keep.map = none ∧ t.keep.next = 0 ∧ t.drcResetN = false)
  ∧ (∀ (req : Node) (v : Word) (s : State), Opens s req.val 0x000 → s.bit Reg.KEEP_CMD_STAT 31 = false → serving s → exec (.storeMap req v) s =
    .next { s.setReg Reg.KEEP_CMD_STAT 0x80000000 with keep := { s.keep with flash := s.keep.flash ++ [.store] } })
  ∧ (∀ (req : Node) (v : Word) (s : State), Opens s req.val 0x000 → s.bit Reg.KEEP_CMD_STAT 31 = false → s.chip ≠ 0 ∨ s.stage = 0x0F → ∃ t, exec (.dropMap req v) s = .next t ∧
    t.regs = (s.setReg Reg.KEEP_CMD_STAT 0x80000000).regs ∧ t.keep = { s.keep with flash := s.keep.flash ++ [.drop] } ∧
    (∀ a, t.byte a = if mapAddr 0 ≤ a ∧ a < mapAddr 0 + 4 ∨ mapAddr 1 ≤ a ∧ a < mapAddr 1 + 4 then 0xFF else s.byte a))
  ∧ (∀ (req : Node) (v : Word) (s : State), Opens s req.val 0x000 → s.bit Reg.KEEP_CMD_STAT 31 = false → s.stage = 0x0F → let f := s.imgFails sramAddr
    (s.mayRun f = true → ∃ t, exec (.recBoot req v) s = .next t ∧ ImageRuns s t sramAddr f ∧ t.reg Reg.KEEP_CMD_STAT = 0 ∧ t.bit 0x10 2 = true)
    ∧ (s.mayRun f = false → ∃ t, exec (.recBoot req v) s = .next t ∧ t.reg Reg.KEEP_CMD_STAT = 5 ∧ t.bit 0x10 2 = true ∧ t.cores = s.cores ∧ t.mem = s.mem ∧ t.stage = 0x0F))
  ∧ (∀ (req : Node) (v : Word) (s : State), Opens s req.val 0x000 → let o := (s.reg Reg.KEEP_REC_ADDR).toNat
    (s.stage = 0x0F → ∃ t, exec (.keepRecData req v) s = .next t ∧ t.bytes (sramAddr + o) 4 = leBytes v.toNat 4 ∧ (∀ a, a < sramAddr + o ∨ sramAddr + o + 4 ≤ a → t.byte a = s.byte a) ∧
      t.reg Reg.KEEP_REC_ADDR = w32 ((o + 4) % 2 ^ 19) ∧ (∀ a, a ≠ Reg.KEEP_REC_ADDR → t.reg a = s.reg a) ∧ t.cores = s.cores)
    ∧ (s.stage ≠ 0x0F → exec (.keepRecData req v) s = .next (reports s 0x000 0x50 0 0xA4 req.val)))
  ∧ (∀ (req : Node) (v : Word) (s : State), Opens s req.val 0x000 → let t := s.setReg (Reg.KEEP_MBOX_IN 3) v
    exec (.keepMboxIn3 req v) s = .next (if req.val = 40 then { t with host := { s.host with doorbells := s.host.doorbells ++ [{ v := 0x00800000, waits := s.host.bar2Out, hands := s.host.handovers.length }] } } else t))
  ∧ (∀ (req : Node) (v : Word) (s : State), Opens s req.val 0x000 → (∀ k < 32, k ≠ 9 → v.getLsbD k = true → s.groupPend k = true → s.bit Reg.KEEP_IRQ_HOST k = false) →
    exec (.keepIrqEoi req v) s = .next s)
  ∧ (∀ (req : Node) (k : Fin 32) (s : State), Opens s req.val 0x000 → k.val ≠ 9 → s.groupPend k.val = true → vecOpen s k.val → let m := HostOut.msix k.val (s.reg64 (0x6E400 + 16 * k.val)) (s.reg (0x6E400 + 16 * k.val + 8))
    (s.bit Reg.KEEP_IRQ_HOST k.val = true → exec (.keepIrqEoi req (1 <<< k.val)) s = .next { s with hostOut := s.hostOut ++ [m] })
    ∧ exec (.keepIrqHost req (1 <<< k.val)) s = .next { s.setReg Reg.KEEP_IRQ_HOST (1 <<< k.val) with hostOut := s.hostOut ++ [m] })
  ∧ (∀ (req : Node) (v : Word) (s : State), Opens s req.val 0x000 → (∀ k < 32, k ≠ 9 → v.getLsbD k = true → s.groupPend k = false) → exec (.keepIrqHost req v) s = .next (s.setReg Reg.KEEP_IRQ_HOST v))
  ∧ (∀ (req : Node) (v : Word) (s : State), Opens s req.val 0x000 →
    (s.bit Reg.SEQ_STATE 3 = true ∨ s.chip ≠ 2 ∧ s.chip ≠ 4 → exec (.spirePower req v) s = .next (reports s 0x000 0x50 0 0x158 req.val))
    ∧ (s.bit Reg.SEQ_STATE 3 = false → s.chip = 2 ∨ s.chip = 4 → let on := fun (n : Nat) => if s.bit Reg.KEEP_GRID n then v.getLsbD n else s.bit Reg.KEEP_SPIRE_PWR n
      ∃ t, exec (.spirePower req v) s = .next t ∧ ∀ n < 32, t.bit Reg.KEEP_SPIRE_PWR n = on n ∧
        (on n = s.bit Reg.KEEP_SPIRE_PWR n → t.bit Reg.KEEP_SPIRE_PSTAT n = s.bit Reg.KEEP_SPIRE_PSTAT n ∧ t.core n = s.core n ∧ t.dome n = s.dome n) ∧
        (on n = false → s.bit Reg.KEEP_SPIRE_PWR n = true → t.bit Reg.KEEP_SPIRE_PSTAT n = false ∧ t.core n = Core.reset ∧ t.dome n = Dome.reset) ∧
        (on n = true → s.bit Reg.KEEP_SPIRE_PWR n = false → t.bit Reg.KEEP_SPIRE_PSTAT n = s.bit Reg.KEEP_SPIRE_PSTAT n ∧
          Tab.get (fun _ => 0) t.wakeAt (islandKey n) = s.tb.now.toNat + 50000)))

/-- R31, R403, R413, R418, R419, R429, R431 to R436, R447 to R449: a driven fault line fails a chip that is past bring-up, and the first one is recorded; a waking spire is ready after its time; the voltage steps toward its target at level 0; temperatures
are shown with their maximum and trip sensors; the automatic level follows the maximum, and the greater of it and FORCE applies; locks are shown and lost ones reset what they clock; RESET_N low is a cold reset, which its rise ends whatever the rails are; a rail that leaves or enters its range is followed by the TIO balls alone. Where the rules leave a choice, it is the model's (log entries 12, 26, lock and loss of the time and core PLLs, 48, an island after power-up, 49 and 85). -/
def Obligations.PowerAndClocks : Prop :=
  (∀ (cause : Fin 8) (unit : Byte) (s : State), ((cause.val, unit.toNat) ∉ s.faultLines → exec (.unitFault cause unit) s = .next s)
    ∧ ((cause.val, unit.toNat) ∈ s.faultLines → s.chip < 2 → exec (.unitFault cause unit) s = .next { s with faultLines := s.faultLines.erase (cause.val, unit.toNat) })
    ∧ ((cause.val, unit.toNat) ∈ s.faultLines → 2 ≤ s.chip → ∃ t, exec (.unitFault cause unit) s = .next t ∧ t.faultLines = s.faultLines.erase (cause.val, unit.toNat) ∧ t.chip = 5 ∧
      t.stage = s.stage ∧ t.mem = s.mem ∧ t.cores = s.cores ∧ (s.bit Reg.KEEP_FAULT 31 = true → t.reg Reg.KEEP_FAULT = s.reg Reg.KEEP_FAULT) ∧
      (s.bit Reg.KEEP_FAULT 31 = false → t.reg Reg.KEEP_FAULT = w32 (2 ^ 31 + cause.val * 2 ^ 24 + unit.toNat * 2 ^ 16) ∧ t.reg64 Reg.KEEP_FAULT_T_LO = s.tb.now.toNat ∧
        t.reg Reg.KEEP_FAULT_TICK = s.tb.tickCnt.extractLsb' 0 32)))
  ∧ (∀ (n : Spire) (s : State), let at' := Tab.get (fun _ => 0) s.wakeAt (islandKey n.val)
    (at' = 0 ∨ s.tb.now.toNat < at' → exec (.spirePowerReady n) s = .next s)
    ∧ (at' ≠ 0 → at' ≤ s.tb.now.toNat → ∃ t, exec (.spirePowerReady n) s = .next t ∧ t.bit Reg.KEEP_SPIRE_PSTAT n.val = true ∧ t.core n.val = Core.reset ∧ t.dome n.val = Dome.reset ∧
      Tab.get (fun _ => 0) t.wakeAt (islandKey n.val) = 0 ∧ (∀ a, a < 0x1000000000000 → t.byte a = s.byte a) ∧ (∀ m < 33, m ≠ n.val → t.core m = s.core m)))
  ∧ (∀ s : State, let cur := s.fld Reg.KEEP_AVS 8 5
    let tgt := s.fld Reg.KEEP_AVS 0 5
    (s.fld Reg.KEEP_THR_STAT 0 3 ≠ 0 → exec .avsStep s = .next s)
    ∧ (s.fld Reg.KEEP_THR_STAT 0 3 = 0 → ∃ t, exec .avsStep s = .next t ∧ t.fld Reg.KEEP_AVS 0 5 = tgt ∧ (cur < tgt → t.fld Reg.KEEP_AVS 8 5 = cur + 1) ∧ (tgt < cur → t.fld Reg.KEEP_AVS 8 5 = cur - 1) ∧
      (cur = tgt → t.fld Reg.KEEP_AVS 8 5 = cur) ∧ t.mem = s.mem ∧ (∀ a, a ≠ Reg.KEEP_AVS → t.reg a = s.reg a)))
  ∧ (∀ (temps : Vector Byte 12) (s : State), let trip := s.fld Reg.KEEP_THERM_CFG 24 8
    ∃ t, exec (.thermalReading temps) s = .next t ∧ t.mem = s.mem ∧ (∀ i (h : i < 12), t.reg (Reg.KEEP_THERM i) = w32 temps[i].toNat) ∧
      (∀ i (h : i < 12), temps[i].toNat ≤ t.fld Reg.KEEP_THR_STAT 8 8) ∧ (∃ i, ∃ h : i < 12, t.fld Reg.KEEP_THR_STAT 8 8 = temps[i].toNat) ∧
      t.fld Reg.KEEP_THR_STAT 0 3 = s.fld Reg.KEEP_THR_STAT 0 3 ∧ (∀ i (h : i < 12), trip ≤ temps[i].toNat → t.keep.thermN = true ∧ (5, i) ∈ t.faultLines) ∧
      ((∀ i (h : i < 12), temps[i].toNat < trip) → t.faultLines = s.faultLines ∧ t.keep = s.keep))
  ∧ (∀ s : State, s.keep.autoLevel ≤ 4 → let tmax := s.fld Reg.KEEP_THR_STAT 8 8
    let throt := s.fld Reg.KEEP_THERM_CFG 16 8
    let a := s.keep.autoLevel
    ∃ t, exec .throttleLevel s = .next t ∧ (throt ≤ tmax → t.keep.autoLevel = min 4 (a + 1)) ∧ (tmax + s.fld Reg.KEEP_THERM_CFG 8 8 < throt → t.keep.autoLevel = a - 1) ∧
      (tmax < throt → throt ≤ tmax + s.fld Reg.KEEP_THERM_CFG 8 8 → t.keep.autoLevel = a) ∧ t.fld Reg.KEEP_THR_STAT 0 3 = max t.keep.autoLevel (s.fld Reg.KEEP_THR_CTL 0 3) ∧
      t.fld Reg.KEEP_THR_STAT 8 8 = tmax ∧ t.mem = s.mem)
  ∧ (∀ (p : Pll) (s : State), (s.keep.resetN = false → exec (.pllLock p) s = .next s)
    ∧ (s.keep.resetN = true → exec (.pllLock p) s = .next { s.setBit Reg.KEEP_CLK_STAT (pllBit p) true with tb := if p = .time then { s.tb with running := true } else s.tb }))
  ∧ (∀ (p : Pll) (s : State), (p = .time ∨ p = .core → ∃ t, exec (.pllLossOfLock p) s = .next t ∧ t.chip = 0 ∧ t.cores = [] ∧ t.tb = Timebase.reset ∧ t.stage = 0 ∧ (∀ a, t.byte a = if outlives a then s.byte a else 0))
    ∧ (p = .mem → ∃ t, exec (.pllLossOfLock p) s = .next t ∧ t.bit Reg.KEEP_CLK_STAT 2 = false ∧ t.mem = s.mem ∧ ∀ c < 8, t.bit (Reg.DRC_STAT c) 6 = false ∧
      (s.bit (Reg.DRC_STAT c) 6 = true → t.bit ((0x0B0 + c) * 0x1000 + 0x10) 2 = true ∧ (s.bit (Reg.DRC_STAT c) 7 = true → (4, c) ∈ t.faultLines)))
    ∧ (p = .pcie → ∃ t, exec (.pllLossOfLock p) s = .next t ∧ t.bit Reg.KEEP_CLK_STAT 3 = false ∧ t.host.up = false ∧ t.mem = s.mem ∧ t.cores = s.cores)
    ∧ (∀ a : Fin 4, p = .link a → ∃ t, exec (.pllLossOfLock p) s = .next t ∧ t.bit Reg.KEEP_CLK_STAT (4 + a.val) = false ∧ t.fld (Reg.AXL_STAT a.val) 12 4 = 0 ∧ t.mem = s.mem ∧
      (s.fld (Reg.AXL_STAT a.val) 12 4 ≠ 0 → t.bit ((0x0A0 + a.val) * 0x1000 + 0x10) 1 = true)))
  ∧ (∀ s : State, (∃ t, exec (.resetN false) s = .next t ∧ t.keep.resetN = false ∧ t.keep.rails = s.keep.rails ∧ t.chip = 0 ∧ t.stage = 0 ∧ t.cores = [] ∧ t.host.up = false ∧ (∀ a, t.byte a = if outlives a then s.byte a else 0))
    ∧ exec (.resetN true) s = .next { s with keep := { s.keep with resetN := true } })
  ∧ (∀ (r : Rail) (s : State), exec (.railRangeChange r .within) s = .next { s with keep := { s.keep with rails := s.keep.rails.filter (fun e => e.1 != r) } }
    ∧ (∀ l ∈ [RailLevel.below, .above], exec (.railRangeChange r l) s = .next { s with keep := { s.keep with rails := s.keep.rails.filter (fun e => e.1 != r) ++ [(r, l == .below)] } })
    ∧ ∀ c : Fin 32, (∃ t, exec (.railRangeChange r .below) s = .next t ∧ (r = .vddCore ∨ r = .vddio33 → t.tioBall c.val = none)) ∧
      ((∀ e ∈ s.keep.rails, e.1 = r) → ∃ t, exec (.railRangeChange r .within) s = .next t ∧ t.tioBall c.val = some (s.keep.resetN && s.tioOut c.val)))

/-- The block b of channel c has no error and no poison, and no correction of it waits. -/
def Sys2Proof.cleanBlock (s : State) (b : Nat) : Prop := (∀ w, 32 * b ≤ w → w < 32 * b + 32 → w ∉ s.poison ∧ w ∉ s.eccTwo ∧ w ∉ s.eccOne) ∧ ∀ e ∈ s.scrubWb, e.1 ≠ b

/-- R22, R301, R400 to R403, R460: the scrubber of a channel in use with no request waiting writes back what its last read found and no write has cancelled, then reads its next block; a refresh changes nothing; a temperature of any trained channel is shown, and the code above the range raises its flag; a drift is shown and counted, and one above half a unit interval, or a second
failed reading, ends the training, reported once, with a unit fault when the channel is in use. A queued request is served when no earlier one of its source waits: a write changes its bytes, a read answers with the bytes, or with poisoned ones where nothing is mapped. Where the rules leave a choice, it is the model's (log entries 12, 41 and 50). -/
def Obligations.DramService : Prop :=
  (∀ (c : Fin 8) (s : State), exec (.refresh c) s = .next s)
  ∧ (∀ (c : Fin 8) (s : State), s.drcReady c.val = false ∨ (s.dch c.val).queue ≠ [] → exec (.dramScrub c) s = .next s)
  ∧ (∀ (c : Fin 8) (s : State), s.drcReady c.val = true → (s.dch c.val).queue = [] → s.bit (Reg.DRC_SCRUB_CTL c.val) 31 = false →
    ((∀ e ∈ s.scrubWb, s.drcOwns c.val e.1 = false) → exec (.dramScrub c) s = .next s)
    ∧ (∀ old b ws rest, s.scrubWb = old ++ (b, ws) :: rest → (∀ e ∈ old, s.drcOwns c.val e.1 = false) → s.drcOwns c.val b = true → ∃ t, exec (.dramScrub c) s = .next t ∧ t.mem = s.mem ∧ t.regs = s.regs ∧
      t.scrubWb = old ++ rest ∧ ∀ w, w ∈ t.eccOne ↔ w ∈ s.eccOne ∧ w ∉ ws))
  ∧ (∀ (c : Fin 8) (s : State), s.drcReady c.val = true → (s.dch c.val).queue = [] → s.bit (Reg.DRC_SCRUB_CTL c.val) 31 = true → (∀ e ∈ s.scrubWb, s.drcOwns c.val e.1 = false) →
    let k := (s.reg (Reg.DRC_SCRUB_POS c.val)).toNat
    let b := k * s.fld Reg.KEEP_DRAM 4 4 + c.val
    let blocks := 2 ^ s.fld (Reg.DRC_STAT c.val) 4 2 * 2 ^ 22
    (cleanBlock s b → k + 1 < blocks → exec (.dramScrub c) s = .next (s.setReg (Reg.DRC_SCRUB_POS c.val) (w32 (k + 1))))
    ∧ (cleanBlock s b → blocks ≤ k + 1 → ∃ t, exec (.dramScrub c) s = .next t ∧ t.reg (Reg.DRC_SCRUB_POS c.val) = 0 ∧ t.reg (Reg.DRC_SCRUB_PASS c.val) = s.reg (Reg.DRC_SCRUB_PASS c.val) + 1 ∧
      t.bit ((0x0B0 + c.val) * 0x1000 + 0x10) 4 = true ∧ t.mem = s.mem)
    ∧ ((∃ w ∈ s.eccOne, 32 * b ≤ w ∧ w < 32 * b + 32) → (∀ w, 32 * b ≤ w → w < 32 * b + 32 → w ∉ s.poison ∧ w ∉ s.eccTwo) → ∃ t ws, exec (.dramScrub c) s = .next t ∧ t.mem = s.mem ∧
      t.eccOne = s.eccOne ∧ t.scrubWb = s.scrubWb ++ [(b, ws)] ∧ ∀ w, w ∈ ws ↔ w ∈ s.eccOne ∧ 32 * b ≤ w ∧ w < 32 * b + 32))
  ∧ (∀ (s : State) (m : Msg) (c : Fin 8) (a : Nat) (v : Byte) (cells : List (Nat × Byte)) (pois : List Nat) (arr : Option Ctr) (l : Bool) (tag : Tag), m.dst.val = 32 + c.val → s.mayArrive m = true →
    m.body = .pw ((a, v) :: cells) pois arr l tag → s.regionOf a = .dram → (s.dch c.val).queue.length < 64 → ∃ t, exec (.pw m .good) s = .next t ∧ t.mem = s.mem ∧
      t.scrubWb = s.scrubWb.filter (fun e => !(((a, v) :: cells).any (fun x => x.1 / 256 == e.1))) ∧ t.mesh.map Msg.body = (s.takeMsg m).mesh.map Msg.body ++ [.ack m.id tag])
  ∧ (∀ (c : Fin 8) (a b : BitVec 5) (s : State), (s.bit (Reg.DRC_STAT c.val) 6 = false → exec (.mr4Read c a b) s = .next s)
    ∧ (s.bit (Reg.DRC_STAT c.val) 6 = true → ∃ t, exec (.mr4Read c a b) s = .next t ∧ t.fld (Reg.DRC_TEMP c.val) 0 5 = a.toNat ∧ t.fld (Reg.DRC_TEMP c.val) 8 5 = b.toNat ∧ t.mem = s.mem ∧
      (a = 31 ∨ b = 31 → t.bit (Reg.DRC_TEMP c.val) 16 = true ∧ t.bit ((0x0B0 + c.val) * 0x1000 + 0x10) 3 = true) ∧ (a ≠ 31 → b ≠ 31 → t.bit (Reg.DRC_TEMP c.val) 16 = s.bit (Reg.DRC_TEMP c.val) 16)))
  ∧ (∀ (c : Fin 8) (drift : Option (BitVec 16)) (s : State), let lost := fun (t : State) => t.bit (Reg.DRC_STAT c.val) 6 = false ∧ t.bit ((0x0B0 + c.val) * 0x1000 + 0x10) 2 = true ∧
      (s.bit (Reg.DRC_STAT c.val) 7 = true → (4, c.val) ∈ t.faultLines) ∧ t.mem = s.mem
    (s.bit (Reg.DRC_STAT c.val) 6 = false → exec (.delayCorrection c drift) s = .next s)
    ∧ (s.bit (Reg.DRC_STAT c.val) 6 = true → drift = none → (s.dch c.val).oscFail = false → exec (.delayCorrection c drift) s = .next (s.modDch c.val (fun d => { d with oscFail := true })))
    ∧ (s.bit (Reg.DRC_STAT c.val) 6 = true → drift = none → (s.dch c.val).oscFail = true → ∃ t, exec (.delayCorrection c drift) s = .next t ∧ lost t)
    ∧ (∀ d : BitVec 16, s.bit (Reg.DRC_STAT c.val) 6 = true → drift = some d → ∃ t, exec (.delayCorrection c drift) s = .next t ∧ t.reg (Reg.DRC_DRIFT c.val) = w32 d.toNat ∧
      t.reg (Reg.DRC_ADJ_CNT c.val) = counted s (Reg.DRC_ADJ_CNT c.val) ∧ (t.dch c.val).oscFail = false ∧ (32 < d.toInt.natAbs → lost t) ∧
      (d.toInt.natAbs ≤ 32 → t.bit (Reg.DRC_STAT c.val) 6 = true ∧ t.faultLines = s.faultLines)))
  ∧ (∀ (c : Fin 8) (i : Fin 64) (s : State), (s.dch c.val).queue.length ≤ i.val → exec (.dramRequestServe c i) s = .next s)
  ∧ (∀ (c : Fin 8) (i : Fin 64) (s : State) (m : Msg), (s.dch c.val).queue[i.val]? = some m →
    ((∃ x ∈ (s.dch c.val).queue.take i.val, x.src = m.src) → exec (.dramRequestServe c i) s = .next s)
    ∧ ((∀ x ∈ (s.dch c.val).queue.take i.val, x.src ≠ m.src ∧ ∀ cells pois arr l tag, x.body ≠ .pw cells pois arr l tag) → let t := s.modDch c.val (fun d => { d with queue := d.queue.eraseIdx i.val })
      (∀ a b cells pois arr l tag, m.body = .pw ((a, b) :: cells) pois arr l tag → (a < s.dramCap → s.drcReady c.val = true → exec (.dramRequestServe c i) s =
          .next ((t.writeMem ((a, b) :: cells) pois m.src.val).count (Reg.DRC_WR_BLK c.val))) ∧
        (a < s.dramCap → s.drcReady c.val = false → exec (.dramRequestServe c i) s = .next t) ∧
        (s.dramCap ≤ a → exec (.dramRequestServe c i) s = .next ((reports t 0x060 0x30 m.src.val (a / 256 % 2 ^ 16) m.src.val).raise 0x060 6)))
      ∧ (∀ a len tag, m.body = .rd a len tag → a + len ≤ s.dramCap → s.drcReady c.val = true → wordsSound s a len → ∃ u, exec (.dramRequestServe c i) s = .next u ∧ u.mem = s.mem ∧ u.dch c.val = t.dch c.val ∧
        u.mesh.map Msg.body = s.mesh.map Msg.body ++ [.rcred, .rdr a (s.bytes a len) [] false tag] ∧ u.reg (Reg.DRC_RD_BLK c.val) = s.reg (Reg.DRC_RD_BLK c.val) + 1)
      ∧ (∀ a len tag, m.body = .rd a len tag → s.dramCap < a + len ∨ s.drcReady c.val = false → ∃ u d, exec (.dramRequestServe c i) s = .next u ∧ u.mem = s.mem ∧ d.length = len ∧
        u.mesh.map Msg.body = s.mesh.map Msg.body ++ [.rcred, .rdr a d (wordsOf a len) false tag] ∧ (s.dramCap < a + len → u.bit 0x060010 6 = true))
      ∧ (∀ a len dst, m.body = .rreq a len dst .plain → a + len ≤ s.dramCap → s.drcReady c.val = true → wordsSound s a len → ∃ u, exec (.dramRequestServe c i) s = .next u ∧ u.mem = s.mem ∧
        u.mesh.map Msg.body = s.mesh.map Msg.body ++ .rcred :: (cutBlocks dst len).map (fun q => Body.pw (cellsAt q.1 (s.bytes (a + (q.1 - dst)) q.2)) [] none false .plain))))

/-! ### The whole machine -/

/-- A step takes the command at the front of the queue and is its effect with the rest of the queue; with no command waiting, one TCLK of device time passes and no command runs (the model's choice, log entry 1). -/
def Obligations.StepRunsFront : Prop :=
  (∀ (c : Instr) (rest : List Instr) (s : State), s.pending = c :: rest → step s = exec c { s with pending := rest })
  ∧ (∀ s : State, s.pending = [] → ∃ t, step s = .next t ∧ t.pending = [] ∧ t.mem = s.mem ∧ t.cores = s.cores ∧ t.mesh = s.mesh ∧ t.tb.tickCnt = s.tb.tickCnt)

/-- The operations of a bundle with their slot and opcode, sub code in place (R105, R110, R133 to R162). -/
def Sys2Proof.operations (o : CpOp) : List (Instr × Nat × Nat) :=
  let q := o.sub.toNat % 4
  let v := vslot o
  List.flatten [[(.mov o, 0, q), (.add o, 0, 0x04 + q), (.addc o, 0, 0x08 + q), (.sub o, 0, 0x0C + q), (.subc o, 0, 0x10 + q), (.and o, 0, 0x14 + q), (.or o, 0, 0x18 + q), (.xor o, 0, 0x1C + q), (.shl o, 0, 0x20 + q),
    (.shr o, 0, 0x24 + q), (.sar o, 0, 0x28 + q), (.mul o, 0, 0x2C + q), (.mulhs o, 0, 0x30 + q), (.mulhu o, 0, 0x34 + q), (.min o, 0, 0x38 + q), (.max o, 0, 0x3C + q), (.cmp o, 0, 0x40 + o.sub.toNat),
    (.plog o, 0, 0x50), (.mfc o, 0, 0x51), (.mtc o, 0, 0x52), (.div o, 0, 0x70), (.divu o, 0, 0x71), (.rem o, 0, 0x72), (.remu o, 0, 0x73), (.isqrt o, 0, 0x74), (.reps o, 0, 0x6C), (.nop o, 0, 0x6D)],
    [(.br o, 0, 0x60), (.brD o, 0, 0x61), (.brl o, 0, 0x62), (.brlD o, 0, 0x63), (.bri o, 0, 0x64), (.briD o, 0, 0x65), (.reti o, 0, 0x66), (.retn o, 0, 0x67), (.endEntry o, 0, 0x68), (.loop o, 0, 0x6A), (.loopC o, 0, 0x6B),
    (.ld o, 1, o.sub.toNat), (.st o, 1, 0x10 + o.sub.toNat), (.lea o, 1, 0x20 + o.sub.toNat), (.movs o, 1, 0x30 + 4 * q), (.fills o, 1, 0x31 + 4 * q), (.scans o, 1, 0x32 + 4 * q), (.cmps o, 1, 0x33 + 4 * q),
    (.evsend o, 5, 0), (.evsendi o, 5, 1), (.evwait o, 5, 2), (.twaitR o, 5, 3), (.twaitA o, 5, 4), (.fire o, 5, 5), (.starm o, 5, 0x20), (.strel o, 5, 0x21), (.ststop o, 5, 0x22), (.dsub o, 5, 0x40), (.dwait o, 5, 0x41)],
    [(.vadd o, v, 0), (.vsub o, v, 1), (.vadds o, v, 2), (.vaddsu o, v, 3), (.vsubs o, v, 4), (.vsubsu o, v, 5), (.vmul o, v, 6), (.vmulhs o, v, 7), (.vmulhu o, v, 8), (.vmin o, v, 9), (.vminu o, v, 0xA), (.vmax o, v, 0xB),
    (.vmaxu o, v, 0xC), (.vand o, v, 0xD), (.vor o, v, 0xE), (.vxor o, v, 0xF), (.vshl o, v, 0x10), (.vshr o, v, 0x11), (.vsar o, v, 0x12), (.vabsdu o, v, 0x13), (.vavgu o, v, 0x14), (.vcmpeq o, v, 0x18), (.vcmplt o, v, 0x19),
    (.vcmpltu o, v, 0x1A), (.vsel o, v, 0x1B), (.vmacc o, v, 0x1C), (.vwmul o, v, 0x20), (.vwmulu o, v, 0x21), (.vwmacc o, v, 0x22), (.vwmaccu o, v, 0x23), (.vdot4 o, v, 0x24), (.vdot4u o, v, 0x25), (.vdot4su o, v, 0x26),
    (.vnshr o, v, 0x28), (.vfadd o, v, 0x30), (.vfsub o, v, 0x31), (.vfmul o, v, 0x32), (.vfma o, v, 0x33), (.vfmin o, v, 0x34), (.vfmax o, v, 0x35), (.vfcvtFI o, v, 0x36), (.vfcvtIF o, v, 0x37), (.vmv o, v, 0x40)],
    [(.vmvfx o, 2, 0x41), (.vmvxf o, 2, 0x42), (.setvl o, 2, 0x48), (.vrdc o, 2, 0x49), (.vwrc o, 2, 0x4A), (.vredsum o, 2, 0x50), (.vredsumu o, 2, 0x51), (.vredmax o, 2, 0x52), (.vredmaxu o, 2, 0x53), (.vredmin o, 2, 0x54),
    (.vredminu o, 2, 0x55), (.vfredsum o, 2, 0x56), (.vfredmax o, 2, 0x57), (.vld o, 2, 0x60), (.vst o, 2, 0x61), (.vld2 o, 2, 0x64), (.vld3 o, 2, 0x65), (.vld4 o, 2, 0x66), (.vst2 o, 2, 0x68), (.vst3 o, 2, 0x69), (.vst4 o, 2, 0x6A),
    (.vldx o, 2, 0x6C), (.vstx o, 2, 0x6D), (.macb o, 4, 0), (.macby o, 4, 1), (.macp o, 4, 2), (.mclr o, 4, 3), (.mrnd o, 4, 8), (.mrdl o, 4, 9), (.mrdh o, 4, 0xA), (.mwr o, 4, 0xB), (.mtm o, 4, 0x10), (.mfm o, 4, 0x11),
    (.mrep o, 4, 0x18)]]

/-- R109, R123: an operation whose guard does not pass has no effect of its own: its bundle goes on as it does after any operation. One that its core does not reach, because the core does not run or has issued other operations before it, changes nothing. Where the rules leave a choice, it is the model's (log entry 13). -/
def Obligations.GuardFails : Prop :=
  (∀ (o : CpOp) (s u v : State), ∀ x ∈ operations o, (s.core o.core.val).st = 1 → (s.core o.core.val).part = o.before → (o.before ≠ [] → (s.core o.core.val).todo = o.cw x.2.1 x.2.2 :: o.after) →
    (if o.before.isEmpty then s.bundleStart o.core.val (o.bundle x.2.1 x.2.2) else (true, s)) = (true, v) →
    (if o.before.all CpWord.isRpt then v.issueStart o.core.val o.lost (o.bundle x.2.1 x.2.2) (o.cw x.2.1 x.2.2 :: o.after) else (true, v)) = (true, u) →
    (u.core o.core.val).passes (o.cw x.2.1 x.2.2) = false → (u.core o.core.val).todo ≠ [] → exec x.1 s = .next (u.finish o x.2.1 x.2.2))
  ∧ (∀ (o : CpOp) (s : State), ∀ x ∈ operations o, (s.core o.core.val).st ≠ 1 ∨ (s.core o.core.val).part ≠ o.before ∨ (o.before ≠ [] ∧ (s.core o.core.val).todo ≠ o.cw x.2.1 x.2.2 :: o.after) → exec x.1 s = .next s)

/-- Every step keeps memory and the register file in their canonical forms: addresses strictly rising, and no entry equal to what an unlisted address or register reads as. The form is the model's own and no rule of the spec (log entries 4 and 79). -/
def Obligations.StepsKeepCanon : Prop := ∀ s t : State, s.Canon → step s = .next t → t.Canon

/-- R31, R50, R71, R103, R387, R393, R413, R432, R453: the machine after reset is in its canonical form. Every register named here holds the value its chapter gives it at reset; no clock has locked, device time stands, no core runs, no command waits, the DRAM devices are in reset, and memory lists nothing. That memory reads 0, and the fused values, MSI-X masks, inputs and states with no reset value in the spec are the model's choices (log entries 2, 7, 9, 10 and 11). -/
def Obligations.ResetState : Prop :=
  State.reset.Canon ∧ State.reset.pending = [] ∧ State.reset.mem = [] ∧ State.reset.tb.now = 0 ∧ State.reset.tb.running = false ∧ State.reset.chip = 0 ∧ State.reset.stage = 0 ∧ (∀ n < 33, (State.reset.core n).st = 0) ∧
  State.reset.reg Reg.KEEP_GRID = 0 ∧ State.reset.reg Reg.KEEP_CLK_STAT = 0 ∧ State.reset.reg Reg.SEQ_STATE = 0 ∧ State.reset.host.up = false ∧ State.reset.drcResetN = false ∧ (∀ a, State.reset.reg a = regReset a) ∧ (∀ a, State.reset.byte a = 0)
end

