-- ==== Sys2Proof/Laws/Arith.lean ====
section
/-! SUPPORT. Integer results of the scalar operations against their mathematical meaning (R115, R118). -/

namespace Sys2Proof.Machine

theorem sar_floor (a : BitVec 32) (k : Nat) : a.sshiftRight k = BitVec.ofInt 32 (a.toInt / 2 ^ k) := by
  rw [← BitVec.ofInt_toInt (x := a.sshiftRight k), BitVec.toInt_sshiftRight, Int.shiftRight_eq_div_pow]; norm_cast

/-- The digit by digit root of R118 brackets its argument. -/
theorem isqrt_bracket : ∀ (b n : Nat), n < 4 ^ b → isqrt n b * isqrt n b ≤ n ∧ n < (isqrt n b + 1) * (isqrt n b + 1)
  | 0, n, h => by simp [isqrt] at h ⊢; omega
  | b + 1, n, h => by
    have h4 : n / 4 < 4 ^ b := by rw [Nat.div_lt_iff_lt_mul (by decide)]; rw [pow_succ] at h; exact h
    obtain ⟨h1, h2⟩ := isqrt_bracket b (n / 4) h4
    simp only [isqrt]
    generalize isqrt (n / 4) b = r at h1 h2 ⊢
    have e1 : 4 * (r * r) ≤ n := by omega
    have e2 : n < 4 * ((r + 1) * (r + 1)) := by omega
    split
    · rename_i hh; exact ⟨hh, by nlinarith⟩
    · rename_i hh; exact ⟨by nlinarith, by omega⟩

theorem isqrt_eq_sqrt {n b : Nat} (h : n < 4 ^ b) : isqrt n b = Nat.sqrt n := by
  obtain ⟨h1, h2⟩ := isqrt_bracket b n h
  exact (Nat.eq_sqrt.mpr ⟨h1, h2⟩)

end Sys2Proof.Machine
end

