-- ==== Sys2Proof/Laws/Bundle.lean ====
section
/-! SUPPORT. The fields of the word that an operation of a bundle spells (R105). -/

namespace Sys2Proof

open Sys2Proof.Machine

theorem CpOp.cw_toNat (o : CpOp) (slot opc : Nat) :
    (o.cw slot opc).word.toNat = (if o.after.isEmpty then 2 ^ 31 else 0) + (if o.ext.isSome then 2 ^ 30 else 0) + o.pred.val * 2 ^ 27
      + (if o.pneg then 2 ^ 26 else 0) + slot % 8 * 2 ^ 23 + opc % 128 * 2 ^ 16 + o.opnd.toNat := by
  have h1 := o.pred.isLt
  have h2 := o.opnd.isLt
  have h3 := Nat.mod_lt slot (show 8 > 0 by decide)
  have h4 := Nat.mod_lt opc (show 128 > 0 by decide)
  simp only [CpOp.cw, w32, BitVec.toNat_ofNat]
  apply Nat.mod_eq_of_lt
  split <;> split <;> split <;> omega

@[simp] theorem CpOp.cw_ext (o : CpOp) (slot opc : Nat) : (o.cw slot opc).ext = o.ext := rfl

theorem CpOp.cw_field (o : CpOp) (slot opc lo len : Nat) :
    bitsOf (o.cw slot opc).word lo len = (((if o.after.isEmpty then 2 ^ 31 else 0) + (if o.ext.isSome then 2 ^ 30 else 0) + o.pred.val * 2 ^ 27
      + (if o.pneg then 2 ^ 26 else 0) + slot % 8 * 2 ^ 23 + opc % 128 * 2 ^ 16 + o.opnd.toNat) / 2 ^ lo) % 2 ^ len := by
  rw [bitsOf, CpOp.cw_toNat, Nat.shiftRight_eq_div_pow]

@[simp] theorem CpOp.cw_opnd (o : CpOp) (slot opc : Nat) : (o.cw slot opc).opnd = o.opnd.toNat := by
  have h2 := o.opnd.isLt
  rw [CpWord.opnd, CpOp.cw_field]
  split <;> split <;> split <;> omega

@[simp] theorem CpOp.cw_opc (o : CpOp) (slot opc : Nat) : (o.cw slot opc).opc = opc % 128 := by
  have h2 := o.opnd.isLt
  rw [CpWord.opc, CpOp.cw_field]
  split <;> split <;> split <;> omega

@[simp] theorem CpOp.cw_slot (o : CpOp) (slot opc : Nat) : (o.cw slot opc).slot = slot % 8 := by
  have h2 := o.opnd.isLt
  have h4 := Nat.mod_lt opc (show 128 > 0 by decide)
  rw [CpWord.slot, CpOp.cw_field]
  split <;> split <;> split <;> omega

@[simp] theorem CpOp.cw_pred (o : CpOp) (slot opc : Nat) : (o.cw slot opc).pred = o.pred.val := by
  have h1 := o.pred.isLt
  have h2 := o.opnd.isLt
  have h3 := Nat.mod_lt slot (show 8 > 0 by decide)
  have h4 := Nat.mod_lt opc (show 128 > 0 by decide)
  rw [CpWord.pred, CpOp.cw_field]
  split <;> split <;> split <;> omega

end Sys2Proof
end

