-- ==== Sys2Proof/Laws/Table.lean ====
section
/-! SUPPORT. The laws of sparse tables: reading what was set, and the canonical form that every update keeps. -/

namespace Sys2Proof.Machine

variable {α : Type}

@[simp] theorem Tab.get_nil (d : Nat → α) (k : Nat) : Tab.get d [] k = d k := rfl

@[simp] theorem Tab.wf_nil [DecidableEq α] (d : Nat → α) : Tab.wf d [] = true := rfl

theorem Tab.get_filter_ne (d : Nat → α) {i k : Nat} (h : i ≠ k) : ∀ (l : List (Nat × α)),
    Tab.get d (l.filter (fun e => e.1 != k)) i = Tab.get d l i
  | [] => rfl
  | (j, w) :: t => by
    have ih := Tab.get_filter_ne d h t
    by_cases hj : j = k
    · subst hj; simpa [Tab.get, h] using ih
    · simp only [List.filter_cons, bne_iff_ne, ne_eq, hj, not_false_eq_true, if_true, Tab.get, ih]

theorem Tab.get_filter_same (d : Nat → α) (k : Nat) : ∀ (l : List (Nat × α)), Tab.get d (l.filter (fun e => e.1 != k)) k = d k
  | [] => rfl
  | (j, w) :: t => by
    have ih := Tab.get_filter_same d k t
    by_cases hj : j = k
    · subst hj; simpa using ih
    · simp only [List.filter_cons, bne_iff_ne, ne_eq, hj, not_false_eq_true, if_true, Tab.get, if_neg (Ne.symm hj), ih]

theorem Tab.get_insert_same (d : Nat → α) (k : Nat) (v : α) : ∀ (l : List (Nat × α)), (∀ e ∈ l, e.1 ≠ k) →
    Tab.get d (Tab.insert k v l) k = v
  | [], _ => by simp [Tab.insert, Tab.get]
  | (j, w) :: t, h => by
    have hj : k ≠ j := fun e => h (j, w) (List.mem_cons_self ..) e.symm
    have ih := Tab.get_insert_same d k v t (fun e he => h e (List.mem_cons_of_mem _ he))
    by_cases hk : k < j
    · simp [Tab.insert, hk, Tab.get]
    · simp [Tab.insert, hk, Tab.get, hj, ih]

theorem Tab.get_insert_ne (d : Nat → α) {i k : Nat} (h : i ≠ k) (v : α) : ∀ (l : List (Nat × α)),
    Tab.get d (Tab.insert k v l) i = Tab.get d l i
  | [] => by simp [Tab.insert, Tab.get, h]
  | (j, w) :: t => by
    have ih := Tab.get_insert_ne d h v t
    by_cases hk : k < j
    · simp [Tab.insert, hk, Tab.get, h]
    · simp only [Tab.insert, if_neg hk, Tab.get, ih]

/-- The key that was set reads as the value set. -/
theorem Tab.get_set_same [DecidableEq α] (d : Nat → α) (l : List (Nat × α)) (k : Nat) (v : α) : Tab.get d (Tab.set d l k v) k = v := by
  by_cases h : v = d k
  · rw [Tab.set, if_pos h, h]; exact Tab.get_filter_same d k l
  · rw [Tab.set, if_neg h]; exact Tab.get_insert_same d k v _ (fun e he => by simpa using (List.mem_filter.1 he).2)

/-- Every other key reads as before. -/
theorem Tab.get_set_ne [DecidableEq α] (d : Nat → α) {i k : Nat} (hik : i ≠ k) (l : List (Nat × α)) (v : α) :
    Tab.get d (Tab.set d l k v) i = Tab.get d l i := by
  by_cases h : v = d k
  · rw [Tab.set, if_pos h]; exact Tab.get_filter_ne d hik l
  · rw [Tab.set, if_neg h, Tab.get_insert_ne d hik]; exact Tab.get_filter_ne d hik l

theorem Tab.wf_tail [DecidableEq α] (d : Nat → α) {x : Nat × α} {l : List (Nat × α)} (h : Tab.wf d (x :: l) = true) : Tab.wf d l = true := by
  simp only [Tab.wf, Bool.and_eq_true] at h; exact h.2

/-- Every key of a canonical table above its head's key. -/
theorem Tab.above_of_wf [DecidableEq α] (d : Nat → α) : ∀ (l : List (Nat × α)) (b : Nat), Tab.wf d l = true → Tab.above b l = true →
    ∀ x ∈ l, b < x.1
  | [], _, _, _, x, hx => by cases hx
  | (j, v) :: t, b, hw, ha, x, hx => by
    simp only [Tab.wf, Bool.and_eq_true, Tab.above, decide_eq_true_eq] at hw ha
    rcases List.mem_cons.1 hx with h | h
    · subst h; exact ha
    · exact lt_trans ha (Tab.above_of_wf d t j hw.2 hw.1.2 x h)

/-- Changing entries in place, or dropping them, keeps the canonical form when no default is listed. -/
theorem Tab.wf_filterMap [DecidableEq α] (d : Nat → α) (f : Nat × α → Option (Nat × α))
    (hf : ∀ x y, f x = some y → x.2 ≠ d x.1 → y.1 = x.1 ∧ y.2 ≠ d y.1) : ∀ (l : List (Nat × α)), Tab.wf d l = true →
    Tab.wf d (l.filterMap f) = true ∧ ∀ b, (∀ x ∈ l, b < x.1) → Tab.above b (l.filterMap f) = true
  | [], _ => ⟨rfl, fun _ _ => rfl⟩
  | (j, v) :: t, hw => by
    have hw' := hw
    simp only [Tab.wf, Bool.and_eq_true, decide_eq_true_eq] at hw
    obtain ⟨h1, h2⟩ := Tab.wf_filterMap d f hf t hw.2
    cases hfx : f (j, v) with
    | none =>
      simp only [List.filterMap_cons, hfx]
      exact ⟨h1, fun b hb => h2 b (fun x hx => hb x (List.mem_cons_of_mem _ hx))⟩
    | some y =>
      obtain ⟨hy1, hy2⟩ := hf _ _ hfx hw.1.1
      obtain ⟨k, u⟩ := y
      simp only at hy1 hy2
      subst hy1
      simp only [List.filterMap_cons, hfx, Tab.wf, Bool.and_eq_true, decide_eq_true_eq, Tab.above]
      exact ⟨⟨⟨hy2, h2 _ (Tab.above_of_wf d t _ hw.2 hw.1.2)⟩, h1⟩, fun b hb => hb _ (List.mem_cons_self ..)⟩

/-- Dropping entries keeps the canonical form. -/
theorem Tab.wf_filter [DecidableEq α] (d : Nat → α) (p : Nat × α → Bool) (l : List (Nat × α)) (h : Tab.wf d l = true) :
    Tab.wf d (l.filter p) = true := by
  have := (Tab.wf_filterMap d (Option.guard p) (by
    intro x y hxy hx
    simp only [Option.guard_eq_some_iff] at hxy
    obtain ⟨rfl, -⟩ := hxy
    exact ⟨rfl, hx⟩) l h).1
  rwa [List.filterMap_eq_filter] at this

theorem Tab.above_iff (b : Nat) {l : List (Nat × α)} (h : ∀ x ∈ l, b < x.1) : Tab.above b l = true := by
  cases l with
  | nil => rfl
  | cons x t => simpa [Tab.above] using h x (List.mem_cons_self ..)

theorem Tab.mem_insert {k : Nat} {v : α} {x : Nat × α} : ∀ {l : List (Nat × α)}, x ∈ Tab.insert k v l → x = (k, v) ∨ x ∈ l
  | [], h => by simpa [Tab.insert] using h
  | (j, w) :: t, h => by
    by_cases hk : k < j
    · simpa [Tab.insert, hk] using h
    · simp only [Tab.insert, if_neg hk, List.mem_cons] at h ⊢
      rcases h with h | h
      · exact Or.inr (Or.inl h)
      · rcases Tab.mem_insert h with h | h
        · exact Or.inl h
        · exact Or.inr (Or.inr h)

theorem Tab.wf_insert [DecidableEq α] (d : Nat → α) {k : Nat} {v : α} (hv : v ≠ d k) : ∀ (l : List (Nat × α)), Tab.wf d l = true →
    (∀ e ∈ l, e.1 ≠ k) → Tab.wf d (Tab.insert k v l) = true
  | [], _, _ => by simp [Tab.insert, Tab.wf, Tab.above, hv]
  | (j, w) :: t, hw, hk => by
    have hj : j ≠ k := hk (j, w) (List.mem_cons_self ..)
    have hw' := hw
    simp only [Tab.wf, Bool.and_eq_true, decide_eq_true_eq] at hw
    by_cases h : k < j
    · simp only [Tab.insert, if_pos h, Tab.wf, Bool.and_eq_true, decide_eq_true_eq]
      exact ⟨⟨hv, by simpa [Tab.above] using h⟩, hw⟩
    · simp only [Tab.insert, if_neg h, Tab.wf, Bool.and_eq_true, decide_eq_true_eq]
      refine ⟨⟨hw.1.1, Tab.above_iff j (fun x hx => ?_)⟩, Tab.wf_insert d hv t hw.2 (fun e he => hk e (List.mem_cons_of_mem _ he))⟩
      rcases Tab.mem_insert hx with rfl | hx
      · simp only; omega
      · exact Tab.above_of_wf d t j hw.2 hw.1.2 x hx

/-- Setting a key keeps the canonical form. -/
theorem Tab.wf_set [DecidableEq α] (d : Nat → α) (l : List (Nat × α)) (k : Nat) (v : α) (h : Tab.wf d l = true) :
    Tab.wf d (Tab.set d l k v) = true := by
  by_cases hv : v = d k
  · rw [Tab.set, if_pos hv]; exact Tab.wf_filter d _ l h
  · rw [Tab.set, if_neg hv]
    exact Tab.wf_insert d hv _ (Tab.wf_filter d _ l h) (fun e he => by simpa using (List.mem_filter.1 he).2)

/-- Taking key k out undoes an insertion of it. -/
theorem Tab.filter_insert (k : Nat) (v : α) : ∀ (l : List (Nat × α)),
    (Tab.insert k v l).filter (fun e => e.1 != k) = l.filter (fun e => e.1 != k)
  | [] => by simp [Tab.insert]
  | (j, w) :: t => by
    have ih := Tab.filter_insert k v t
    unfold Tab.insert
    split
    · simp
    · simp [List.filter_cons, ih]

/-- The last of two writes to one key stands. -/
theorem Tab.set_set [DecidableEq α] (d : Nat → α) (l : List (Nat × α)) (k : Nat) (v w : α) : Tab.set d (Tab.set d l k v) k w = Tab.set d l k w := by
  have h : (Tab.set d l k v).filter (fun e => e.1 != k) = l.filter (fun e => e.1 != k) := by
    unfold Tab.set
    split
    · simp
    · rw [Tab.filter_insert]; simp
  unfold Tab.set at h ⊢
  rw [h]

end Sys2Proof.Machine
end

