-- ==== Sys2Proof/Laws/State.lean ====
section
/-! SUPPORT. One lemma per field per basic update of the State, and reading back what was set. -/

namespace Sys2Proof.Machine


@[simp] theorem State.setReg_regs (s : State) (a : Nat) (v : Word) : (s.setReg a v).regs = Tab.set regReset s.regs a v := rfl
@[simp] theorem State.setReg_shadow (s : State) (a : Nat) (v : Word) : (s.setReg a v).shadow = s.shadow := rfl
@[simp] theorem State.setReg_readData (s : State) (a : Nat) (v : Word) : (s.setReg a v).readData = s.readData := rfl
@[simp] theorem State.setReg_mem (s : State) (a : Nat) (v : Word) : (s.setReg a v).mem = s.mem := rfl
@[simp] theorem State.setReg_poison (s : State) (a : Nat) (v : Word) : (s.setReg a v).poison = s.poison := rfl
@[simp] theorem State.setReg_eccOne (s : State) (a : Nat) (v : Word) : (s.setReg a v).eccOne = s.eccOne := rfl
@[simp] theorem State.setReg_eccTwo (s : State) (a : Nat) (v : Word) : (s.setReg a v).eccTwo = s.eccTwo := rfl
@[simp] theorem State.setReg_mesh (s : State) (a : Nat) (v : Word) : (s.setReg a v).mesh = s.mesh := rfl
@[simp] theorem State.setReg_msgId (s : State) (a : Nat) (v : Word) : (s.setReg a v).msgId = s.msgId := rfl
@[simp] theorem State.setReg_unacked (s : State) (a : Nat) (v : Word) : (s.setReg a v).unacked = s.unacked := rfl
@[simp] theorem State.setReg_readCred (s : State) (a : Nat) (v : Word) : (s.setReg a v).readCred = s.readCred := rfl
@[simp] theorem State.setReg_held (s : State) (a : Nat) (v : Word) : (s.setReg a v).held = s.held := rfl
@[simp] theorem State.setReg_returned (s : State) (a : Nat) (v : Word) : (s.setReg a v).returned = s.returned := rfl
@[simp] theorem State.setReg_tb (s : State) (a : Nat) (v : Word) : (s.setReg a v).tb = s.tb := rfl
@[simp] theorem State.setReg_bel (s : State) (a : Nat) (v : Word) : (s.setReg a v).bel = s.bel := rfl
@[simp] theorem State.setReg_tio (s : State) (a : Nat) (v : Word) : (s.setReg a v).tio = s.tio := rfl
@[simp] theorem State.setReg_cores (s : State) (a : Nat) (v : Word) : (s.setReg a v).cores = s.cores := rfl
@[simp] theorem State.setReg_domes (s : State) (a : Nat) (v : Word) : (s.setReg a v).domes = s.domes := rfl
@[simp] theorem State.setReg_lantern (s : State) (a : Nat) (v : Word) : (s.setReg a v).lantern = s.lantern := rfl
@[simp] theorem State.setReg_ports (s : State) (a : Nat) (v : Word) : (s.setReg a v).ports = s.ports := rfl
@[simp] theorem State.setReg_links (s : State) (a : Nat) (v : Word) : (s.setReg a v).links = s.links := rfl
@[simp] theorem State.setReg_host (s : State) (a : Nat) (v : Word) : (s.setReg a v).host = s.host := rfl
@[simp] theorem State.setReg_hostOut (s : State) (a : Nat) (v : Word) : (s.setReg a v).hostOut = s.hostOut := rfl
@[simp] theorem State.setReg_dma (s : State) (a : Nat) (v : Word) : (s.setReg a v).dma = s.dma := rfl
@[simp] theorem State.setReg_streams (s : State) (a : Nat) (v : Word) : (s.setReg a v).streams = s.streams := rfl
@[simp] theorem State.setReg_contended (s : State) (a : Nat) (v : Word) : (s.setReg a v).contended = s.contended := rfl
@[simp] theorem State.setReg_scrubWb (s : State) (a : Nat) (v : Word) : (s.setReg a v).scrubWb = s.scrubWb := rfl
@[simp] theorem State.setReg_wakeAt (s : State) (a : Nat) (v : Word) : (s.setReg a v).wakeAt = s.wakeAt := rfl
@[simp] theorem State.setReg_faultLines (s : State) (a : Nat) (v : Word) : (s.setReg a v).faultLines = s.faultLines := rfl
@[simp] theorem State.setReg_keep (s : State) (a : Nat) (v : Word) : (s.setReg a v).keep = s.keep := rfl
@[simp] theorem State.setReg_dram (s : State) (a : Nat) (v : Word) : (s.setReg a v).dram = s.dram := rfl
@[simp] theorem State.setReg_free (s : State) (a : Nat) (v : Word) : (s.setReg a v).free = s.free := rfl
@[simp] theorem State.setReg_pending (s : State) (a : Nat) (v : Word) : (s.setReg a v).pending = s.pending := rfl

@[simp] theorem State.setByte_regs (s : State) (a : Nat) (b : Byte) : (s.setByte a b).regs = s.regs := rfl
@[simp] theorem State.setByte_shadow (s : State) (a : Nat) (b : Byte) : (s.setByte a b).shadow = s.shadow := rfl
@[simp] theorem State.setByte_readData (s : State) (a : Nat) (b : Byte) : (s.setByte a b).readData = s.readData := rfl
@[simp] theorem State.setByte_mem (s : State) (a : Nat) (b : Byte) : (s.setByte a b).mem = Tab.set memDefault s.mem a b := rfl
@[simp] theorem State.setByte_poison (s : State) (a : Nat) (b : Byte) : (s.setByte a b).poison = s.poison := rfl
@[simp] theorem State.setByte_eccOne (s : State) (a : Nat) (b : Byte) : (s.setByte a b).eccOne = s.eccOne := rfl
@[simp] theorem State.setByte_eccTwo (s : State) (a : Nat) (b : Byte) : (s.setByte a b).eccTwo = s.eccTwo := rfl
@[simp] theorem State.setByte_mesh (s : State) (a : Nat) (b : Byte) : (s.setByte a b).mesh = s.mesh := rfl
@[simp] theorem State.setByte_msgId (s : State) (a : Nat) (b : Byte) : (s.setByte a b).msgId = s.msgId := rfl
@[simp] theorem State.setByte_unacked (s : State) (a : Nat) (b : Byte) : (s.setByte a b).unacked = s.unacked := rfl
@[simp] theorem State.setByte_readCred (s : State) (a : Nat) (b : Byte) : (s.setByte a b).readCred = s.readCred := rfl
@[simp] theorem State.setByte_held (s : State) (a : Nat) (b : Byte) : (s.setByte a b).held = s.held := rfl
@[simp] theorem State.setByte_returned (s : State) (a : Nat) (b : Byte) : (s.setByte a b).returned = s.returned := rfl
@[simp] theorem State.setByte_tb (s : State) (a : Nat) (b : Byte) : (s.setByte a b).tb = s.tb := rfl
@[simp] theorem State.setByte_bel (s : State) (a : Nat) (b : Byte) : (s.setByte a b).bel = s.bel := rfl
@[simp] theorem State.setByte_tio (s : State) (a : Nat) (b : Byte) : (s.setByte a b).tio = s.tio := rfl
@[simp] theorem State.setByte_cores (s : State) (a : Nat) (b : Byte) : (s.setByte a b).cores = s.cores := rfl
@[simp] theorem State.setByte_domes (s : State) (a : Nat) (b : Byte) : (s.setByte a b).domes = s.domes := rfl
@[simp] theorem State.setByte_lantern (s : State) (a : Nat) (b : Byte) : (s.setByte a b).lantern = s.lantern := rfl
@[simp] theorem State.setByte_ports (s : State) (a : Nat) (b : Byte) : (s.setByte a b).ports = s.ports := rfl
@[simp] theorem State.setByte_links (s : State) (a : Nat) (b : Byte) : (s.setByte a b).links = s.links := rfl
@[simp] theorem State.setByte_host (s : State) (a : Nat) (b : Byte) : (s.setByte a b).host = s.host := rfl
@[simp] theorem State.setByte_hostOut (s : State) (a : Nat) (b : Byte) : (s.setByte a b).hostOut = s.hostOut := rfl
@[simp] theorem State.setByte_dma (s : State) (a : Nat) (b : Byte) : (s.setByte a b).dma = s.dma := rfl
@[simp] theorem State.setByte_streams (s : State) (a : Nat) (b : Byte) : (s.setByte a b).streams = s.streams := rfl
@[simp] theorem State.setByte_contended (s : State) (a : Nat) (b : Byte) : (s.setByte a b).contended = s.contended := rfl
@[simp] theorem State.setByte_scrubWb (s : State) (a : Nat) (b : Byte) : (s.setByte a b).scrubWb = s.scrubWb := rfl
@[simp] theorem State.setByte_wakeAt (s : State) (a : Nat) (b : Byte) : (s.setByte a b).wakeAt = s.wakeAt := rfl
@[simp] theorem State.setByte_faultLines (s : State) (a : Nat) (b : Byte) : (s.setByte a b).faultLines = s.faultLines := rfl
@[simp] theorem State.setByte_keep (s : State) (a : Nat) (b : Byte) : (s.setByte a b).keep = s.keep := rfl
@[simp] theorem State.setByte_dram (s : State) (a : Nat) (b : Byte) : (s.setByte a b).dram = s.dram := rfl
@[simp] theorem State.setByte_free (s : State) (a : Nat) (b : Byte) : (s.setByte a b).free = s.free := rfl
@[simp] theorem State.setByte_pending (s : State) (a : Nat) (b : Byte) : (s.setByte a b).pending = s.pending := rfl

@[simp] theorem State.setCore_regs (s : State) (n : Nat) (c : Core) : (s.setCore n c).regs = s.regs := rfl
@[simp] theorem State.setCore_shadow (s : State) (n : Nat) (c : Core) : (s.setCore n c).shadow = s.shadow := rfl
@[simp] theorem State.setCore_readData (s : State) (n : Nat) (c : Core) : (s.setCore n c).readData = s.readData := rfl
@[simp] theorem State.setCore_mem (s : State) (n : Nat) (c : Core) : (s.setCore n c).mem = s.mem := rfl
@[simp] theorem State.setCore_poison (s : State) (n : Nat) (c : Core) : (s.setCore n c).poison = s.poison := rfl
@[simp] theorem State.setCore_eccOne (s : State) (n : Nat) (c : Core) : (s.setCore n c).eccOne = s.eccOne := rfl
@[simp] theorem State.setCore_eccTwo (s : State) (n : Nat) (c : Core) : (s.setCore n c).eccTwo = s.eccTwo := rfl
@[simp] theorem State.setCore_mesh (s : State) (n : Nat) (c : Core) : (s.setCore n c).mesh = s.mesh := rfl
@[simp] theorem State.setCore_msgId (s : State) (n : Nat) (c : Core) : (s.setCore n c).msgId = s.msgId := rfl
@[simp] theorem State.setCore_unacked (s : State) (n : Nat) (c : Core) : (s.setCore n c).unacked = s.unacked := rfl
@[simp] theorem State.setCore_readCred (s : State) (n : Nat) (c : Core) : (s.setCore n c).readCred = s.readCred := rfl
@[simp] theorem State.setCore_held (s : State) (n : Nat) (c : Core) : (s.setCore n c).held = s.held := rfl
@[simp] theorem State.setCore_returned (s : State) (n : Nat) (c : Core) : (s.setCore n c).returned = s.returned := rfl
@[simp] theorem State.setCore_tb (s : State) (n : Nat) (c : Core) : (s.setCore n c).tb = s.tb := rfl
@[simp] theorem State.setCore_bel (s : State) (n : Nat) (c : Core) : (s.setCore n c).bel = s.bel := rfl
@[simp] theorem State.setCore_tio (s : State) (n : Nat) (c : Core) : (s.setCore n c).tio = s.tio := rfl
@[simp] theorem State.setCore_cores (s : State) (n : Nat) (c : Core) : (s.setCore n c).cores = Tab.set (fun _ => Core.reset) s.cores n c := rfl
@[simp] theorem State.setCore_domes (s : State) (n : Nat) (c : Core) : (s.setCore n c).domes = s.domes := rfl
@[simp] theorem State.setCore_lantern (s : State) (n : Nat) (c : Core) : (s.setCore n c).lantern = s.lantern := rfl
@[simp] theorem State.setCore_ports (s : State) (n : Nat) (c : Core) : (s.setCore n c).ports = s.ports := rfl
@[simp] theorem State.setCore_links (s : State) (n : Nat) (c : Core) : (s.setCore n c).links = s.links := rfl
@[simp] theorem State.setCore_host (s : State) (n : Nat) (c : Core) : (s.setCore n c).host = s.host := rfl
@[simp] theorem State.setCore_hostOut (s : State) (n : Nat) (c : Core) : (s.setCore n c).hostOut = s.hostOut := rfl
@[simp] theorem State.setCore_dma (s : State) (n : Nat) (c : Core) : (s.setCore n c).dma = s.dma := rfl
@[simp] theorem State.setCore_streams (s : State) (n : Nat) (c : Core) : (s.setCore n c).streams = s.streams := rfl
@[simp] theorem State.setCore_contended (s : State) (n : Nat) (c : Core) : (s.setCore n c).contended = s.contended := rfl
@[simp] theorem State.setCore_scrubWb (s : State) (n : Nat) (c : Core) : (s.setCore n c).scrubWb = s.scrubWb := rfl
@[simp] theorem State.setCore_wakeAt (s : State) (n : Nat) (c : Core) : (s.setCore n c).wakeAt = s.wakeAt := rfl
@[simp] theorem State.setCore_faultLines (s : State) (n : Nat) (c : Core) : (s.setCore n c).faultLines = s.faultLines := rfl
@[simp] theorem State.setCore_keep (s : State) (n : Nat) (c : Core) : (s.setCore n c).keep = s.keep := rfl
@[simp] theorem State.setCore_dram (s : State) (n : Nat) (c : Core) : (s.setCore n c).dram = s.dram := rfl
@[simp] theorem State.setCore_free (s : State) (n : Nat) (c : Core) : (s.setCore n c).free = s.free := rfl
@[simp] theorem State.setCore_pending (s : State) (n : Nat) (c : Core) : (s.setCore n c).pending = s.pending := rfl

@[simp] theorem State.setDome_regs (s : State) (n : Nat) (d : Dome) : (s.setDome n d).regs = s.regs := rfl
@[simp] theorem State.setDome_shadow (s : State) (n : Nat) (d : Dome) : (s.setDome n d).shadow = s.shadow := rfl
@[simp] theorem State.setDome_readData (s : State) (n : Nat) (d : Dome) : (s.setDome n d).readData = s.readData := rfl
@[simp] theorem State.setDome_mem (s : State) (n : Nat) (d : Dome) : (s.setDome n d).mem = s.mem := rfl
@[simp] theorem State.setDome_poison (s : State) (n : Nat) (d : Dome) : (s.setDome n d).poison = s.poison := rfl
@[simp] theorem State.setDome_eccOne (s : State) (n : Nat) (d : Dome) : (s.setDome n d).eccOne = s.eccOne := rfl
@[simp] theorem State.setDome_eccTwo (s : State) (n : Nat) (d : Dome) : (s.setDome n d).eccTwo = s.eccTwo := rfl
@[simp] theorem State.setDome_mesh (s : State) (n : Nat) (d : Dome) : (s.setDome n d).mesh = s.mesh := rfl
@[simp] theorem State.setDome_msgId (s : State) (n : Nat) (d : Dome) : (s.setDome n d).msgId = s.msgId := rfl
@[simp] theorem State.setDome_unacked (s : State) (n : Nat) (d : Dome) : (s.setDome n d).unacked = s.unacked := rfl
@[simp] theorem State.setDome_readCred (s : State) (n : Nat) (d : Dome) : (s.setDome n d).readCred = s.readCred := rfl
@[simp] theorem State.setDome_held (s : State) (n : Nat) (d : Dome) : (s.setDome n d).held = s.held := rfl
@[simp] theorem State.setDome_returned (s : State) (n : Nat) (d : Dome) : (s.setDome n d).returned = s.returned := rfl
@[simp] theorem State.setDome_tb (s : State) (n : Nat) (d : Dome) : (s.setDome n d).tb = s.tb := rfl
@[simp] theorem State.setDome_bel (s : State) (n : Nat) (d : Dome) : (s.setDome n d).bel = s.bel := rfl
@[simp] theorem State.setDome_tio (s : State) (n : Nat) (d : Dome) : (s.setDome n d).tio = s.tio := rfl
@[simp] theorem State.setDome_cores (s : State) (n : Nat) (d : Dome) : (s.setDome n d).cores = s.cores := rfl
@[simp] theorem State.setDome_domes (s : State) (n : Nat) (d : Dome) : (s.setDome n d).domes = Tab.set (fun _ => Dome.reset) s.domes n d := rfl
@[simp] theorem State.setDome_lantern (s : State) (n : Nat) (d : Dome) : (s.setDome n d).lantern = s.lantern := rfl
@[simp] theorem State.setDome_ports (s : State) (n : Nat) (d : Dome) : (s.setDome n d).ports = s.ports := rfl
@[simp] theorem State.setDome_links (s : State) (n : Nat) (d : Dome) : (s.setDome n d).links = s.links := rfl
@[simp] theorem State.setDome_host (s : State) (n : Nat) (d : Dome) : (s.setDome n d).host = s.host := rfl
@[simp] theorem State.setDome_hostOut (s : State) (n : Nat) (d : Dome) : (s.setDome n d).hostOut = s.hostOut := rfl
@[simp] theorem State.setDome_dma (s : State) (n : Nat) (d : Dome) : (s.setDome n d).dma = s.dma := rfl
@[simp] theorem State.setDome_streams (s : State) (n : Nat) (d : Dome) : (s.setDome n d).streams = s.streams := rfl
@[simp] theorem State.setDome_contended (s : State) (n : Nat) (d : Dome) : (s.setDome n d).contended = s.contended := rfl
@[simp] theorem State.setDome_scrubWb (s : State) (n : Nat) (d : Dome) : (s.setDome n d).scrubWb = s.scrubWb := rfl
@[simp] theorem State.setDome_wakeAt (s : State) (n : Nat) (d : Dome) : (s.setDome n d).wakeAt = s.wakeAt := rfl
@[simp] theorem State.setDome_faultLines (s : State) (n : Nat) (d : Dome) : (s.setDome n d).faultLines = s.faultLines := rfl
@[simp] theorem State.setDome_keep (s : State) (n : Nat) (d : Dome) : (s.setDome n d).keep = s.keep := rfl
@[simp] theorem State.setDome_dram (s : State) (n : Nat) (d : Dome) : (s.setDome n d).dram = s.dram := rfl
@[simp] theorem State.setDome_free (s : State) (n : Nat) (d : Dome) : (s.setDome n d).free = s.free := rfl
@[simp] theorem State.setDome_pending (s : State) (n : Nat) (d : Dome) : (s.setDome n d).pending = s.pending := rfl

@[simp] theorem State.modTb_regs (s : State) (f : Timebase → Timebase) : (s.modTb f).regs = s.regs := rfl
@[simp] theorem State.modTb_shadow (s : State) (f : Timebase → Timebase) : (s.modTb f).shadow = s.shadow := rfl
@[simp] theorem State.modTb_readData (s : State) (f : Timebase → Timebase) : (s.modTb f).readData = s.readData := rfl
@[simp] theorem State.modTb_mem (s : State) (f : Timebase → Timebase) : (s.modTb f).mem = s.mem := rfl
@[simp] theorem State.modTb_poison (s : State) (f : Timebase → Timebase) : (s.modTb f).poison = s.poison := rfl
@[simp] theorem State.modTb_eccOne (s : State) (f : Timebase → Timebase) : (s.modTb f).eccOne = s.eccOne := rfl
@[simp] theorem State.modTb_eccTwo (s : State) (f : Timebase → Timebase) : (s.modTb f).eccTwo = s.eccTwo := rfl
@[simp] theorem State.modTb_mesh (s : State) (f : Timebase → Timebase) : (s.modTb f).mesh = s.mesh := rfl
@[simp] theorem State.modTb_msgId (s : State) (f : Timebase → Timebase) : (s.modTb f).msgId = s.msgId := rfl
@[simp] theorem State.modTb_unacked (s : State) (f : Timebase → Timebase) : (s.modTb f).unacked = s.unacked := rfl
@[simp] theorem State.modTb_readCred (s : State) (f : Timebase → Timebase) : (s.modTb f).readCred = s.readCred := rfl
@[simp] theorem State.modTb_held (s : State) (f : Timebase → Timebase) : (s.modTb f).held = s.held := rfl
@[simp] theorem State.modTb_returned (s : State) (f : Timebase → Timebase) : (s.modTb f).returned = s.returned := rfl
@[simp] theorem State.modTb_tb (s : State) (f : Timebase → Timebase) : (s.modTb f).tb = f s.tb := rfl
@[simp] theorem State.modTb_bel (s : State) (f : Timebase → Timebase) : (s.modTb f).bel = s.bel := rfl
@[simp] theorem State.modTb_tio (s : State) (f : Timebase → Timebase) : (s.modTb f).tio = s.tio := rfl
@[simp] theorem State.modTb_cores (s : State) (f : Timebase → Timebase) : (s.modTb f).cores = s.cores := rfl
@[simp] theorem State.modTb_domes (s : State) (f : Timebase → Timebase) : (s.modTb f).domes = s.domes := rfl
@[simp] theorem State.modTb_lantern (s : State) (f : Timebase → Timebase) : (s.modTb f).lantern = s.lantern := rfl
@[simp] theorem State.modTb_ports (s : State) (f : Timebase → Timebase) : (s.modTb f).ports = s.ports := rfl
@[simp] theorem State.modTb_links (s : State) (f : Timebase → Timebase) : (s.modTb f).links = s.links := rfl
@[simp] theorem State.modTb_host (s : State) (f : Timebase → Timebase) : (s.modTb f).host = s.host := rfl
@[simp] theorem State.modTb_hostOut (s : State) (f : Timebase → Timebase) : (s.modTb f).hostOut = s.hostOut := rfl
@[simp] theorem State.modTb_dma (s : State) (f : Timebase → Timebase) : (s.modTb f).dma = s.dma := rfl
@[simp] theorem State.modTb_streams (s : State) (f : Timebase → Timebase) : (s.modTb f).streams = s.streams := rfl
@[simp] theorem State.modTb_contended (s : State) (f : Timebase → Timebase) : (s.modTb f).contended = s.contended := rfl
@[simp] theorem State.modTb_scrubWb (s : State) (f : Timebase → Timebase) : (s.modTb f).scrubWb = s.scrubWb := rfl
@[simp] theorem State.modTb_wakeAt (s : State) (f : Timebase → Timebase) : (s.modTb f).wakeAt = s.wakeAt := rfl
@[simp] theorem State.modTb_faultLines (s : State) (f : Timebase → Timebase) : (s.modTb f).faultLines = s.faultLines := rfl
@[simp] theorem State.modTb_keep (s : State) (f : Timebase → Timebase) : (s.modTb f).keep = s.keep := rfl
@[simp] theorem State.modTb_dram (s : State) (f : Timebase → Timebase) : (s.modTb f).dram = s.dram := rfl
@[simp] theorem State.modTb_free (s : State) (f : Timebase → Timebase) : (s.modTb f).free = s.free := rfl
@[simp] theorem State.modTb_pending (s : State) (f : Timebase → Timebase) : (s.modTb f).pending = s.pending := rfl

@[simp] theorem State.modBel_regs (s : State) (f : Belfry → Belfry) : (s.modBel f).regs = s.regs := rfl
@[simp] theorem State.modBel_shadow (s : State) (f : Belfry → Belfry) : (s.modBel f).shadow = s.shadow := rfl
@[simp] theorem State.modBel_readData (s : State) (f : Belfry → Belfry) : (s.modBel f).readData = s.readData := rfl
@[simp] theorem State.modBel_mem (s : State) (f : Belfry → Belfry) : (s.modBel f).mem = s.mem := rfl
@[simp] theorem State.modBel_poison (s : State) (f : Belfry → Belfry) : (s.modBel f).poison = s.poison := rfl
@[simp] theorem State.modBel_eccOne (s : State) (f : Belfry → Belfry) : (s.modBel f).eccOne = s.eccOne := rfl
@[simp] theorem State.modBel_eccTwo (s : State) (f : Belfry → Belfry) : (s.modBel f).eccTwo = s.eccTwo := rfl
@[simp] theorem State.modBel_mesh (s : State) (f : Belfry → Belfry) : (s.modBel f).mesh = s.mesh := rfl
@[simp] theorem State.modBel_msgId (s : State) (f : Belfry → Belfry) : (s.modBel f).msgId = s.msgId := rfl
@[simp] theorem State.modBel_unacked (s : State) (f : Belfry → Belfry) : (s.modBel f).unacked = s.unacked := rfl
@[simp] theorem State.modBel_readCred (s : State) (f : Belfry → Belfry) : (s.modBel f).readCred = s.readCred := rfl
@[simp] theorem State.modBel_held (s : State) (f : Belfry → Belfry) : (s.modBel f).held = s.held := rfl
@[simp] theorem State.modBel_returned (s : State) (f : Belfry → Belfry) : (s.modBel f).returned = s.returned := rfl
@[simp] theorem State.modBel_tb (s : State) (f : Belfry → Belfry) : (s.modBel f).tb = s.tb := rfl
@[simp] theorem State.modBel_bel (s : State) (f : Belfry → Belfry) : (s.modBel f).bel = f s.bel := rfl
@[simp] theorem State.modBel_tio (s : State) (f : Belfry → Belfry) : (s.modBel f).tio = s.tio := rfl
@[simp] theorem State.modBel_cores (s : State) (f : Belfry → Belfry) : (s.modBel f).cores = s.cores := rfl
@[simp] theorem State.modBel_domes (s : State) (f : Belfry → Belfry) : (s.modBel f).domes = s.domes := rfl
@[simp] theorem State.modBel_lantern (s : State) (f : Belfry → Belfry) : (s.modBel f).lantern = s.lantern := rfl
@[simp] theorem State.modBel_ports (s : State) (f : Belfry → Belfry) : (s.modBel f).ports = s.ports := rfl
@[simp] theorem State.modBel_links (s : State) (f : Belfry → Belfry) : (s.modBel f).links = s.links := rfl
@[simp] theorem State.modBel_host (s : State) (f : Belfry → Belfry) : (s.modBel f).host = s.host := rfl
@[simp] theorem State.modBel_hostOut (s : State) (f : Belfry → Belfry) : (s.modBel f).hostOut = s.hostOut := rfl
@[simp] theorem State.modBel_dma (s : State) (f : Belfry → Belfry) : (s.modBel f).dma = s.dma := rfl
@[simp] theorem State.modBel_streams (s : State) (f : Belfry → Belfry) : (s.modBel f).streams = s.streams := rfl
@[simp] theorem State.modBel_contended (s : State) (f : Belfry → Belfry) : (s.modBel f).contended = s.contended := rfl
@[simp] theorem State.modBel_scrubWb (s : State) (f : Belfry → Belfry) : (s.modBel f).scrubWb = s.scrubWb := rfl
@[simp] theorem State.modBel_wakeAt (s : State) (f : Belfry → Belfry) : (s.modBel f).wakeAt = s.wakeAt := rfl
@[simp] theorem State.modBel_faultLines (s : State) (f : Belfry → Belfry) : (s.modBel f).faultLines = s.faultLines := rfl
@[simp] theorem State.modBel_keep (s : State) (f : Belfry → Belfry) : (s.modBel f).keep = s.keep := rfl
@[simp] theorem State.modBel_dram (s : State) (f : Belfry → Belfry) : (s.modBel f).dram = s.dram := rfl
@[simp] theorem State.modBel_free (s : State) (f : Belfry → Belfry) : (s.modBel f).free = s.free := rfl
@[simp] theorem State.modBel_pending (s : State) (f : Belfry → Belfry) : (s.modBel f).pending = s.pending := rfl

@[simp] theorem State.modTio_regs (s : State) (f : Tio → Tio) : (s.modTio f).regs = s.regs := rfl
@[simp] theorem State.modTio_shadow (s : State) (f : Tio → Tio) : (s.modTio f).shadow = s.shadow := rfl
@[simp] theorem State.modTio_readData (s : State) (f : Tio → Tio) : (s.modTio f).readData = s.readData := rfl
@[simp] theorem State.modTio_mem (s : State) (f : Tio → Tio) : (s.modTio f).mem = s.mem := rfl
@[simp] theorem State.modTio_poison (s : State) (f : Tio → Tio) : (s.modTio f).poison = s.poison := rfl
@[simp] theorem State.modTio_eccOne (s : State) (f : Tio → Tio) : (s.modTio f).eccOne = s.eccOne := rfl
@[simp] theorem State.modTio_eccTwo (s : State) (f : Tio → Tio) : (s.modTio f).eccTwo = s.eccTwo := rfl
@[simp] theorem State.modTio_mesh (s : State) (f : Tio → Tio) : (s.modTio f).mesh = s.mesh := rfl
@[simp] theorem State.modTio_msgId (s : State) (f : Tio → Tio) : (s.modTio f).msgId = s.msgId := rfl
@[simp] theorem State.modTio_unacked (s : State) (f : Tio → Tio) : (s.modTio f).unacked = s.unacked := rfl
@[simp] theorem State.modTio_readCred (s : State) (f : Tio → Tio) : (s.modTio f).readCred = s.readCred := rfl
@[simp] theorem State.modTio_held (s : State) (f : Tio → Tio) : (s.modTio f).held = s.held := rfl
@[simp] theorem State.modTio_returned (s : State) (f : Tio → Tio) : (s.modTio f).returned = s.returned := rfl
@[simp] theorem State.modTio_tb (s : State) (f : Tio → Tio) : (s.modTio f).tb = s.tb := rfl
@[simp] theorem State.modTio_bel (s : State) (f : Tio → Tio) : (s.modTio f).bel = s.bel := rfl
@[simp] theorem State.modTio_tio (s : State) (f : Tio → Tio) : (s.modTio f).tio = f s.tio := rfl
@[simp] theorem State.modTio_cores (s : State) (f : Tio → Tio) : (s.modTio f).cores = s.cores := rfl
@[simp] theorem State.modTio_domes (s : State) (f : Tio → Tio) : (s.modTio f).domes = s.domes := rfl
@[simp] theorem State.modTio_lantern (s : State) (f : Tio → Tio) : (s.modTio f).lantern = s.lantern := rfl
@[simp] theorem State.modTio_ports (s : State) (f : Tio → Tio) : (s.modTio f).ports = s.ports := rfl
@[simp] theorem State.modTio_links (s : State) (f : Tio → Tio) : (s.modTio f).links = s.links := rfl
@[simp] theorem State.modTio_host (s : State) (f : Tio → Tio) : (s.modTio f).host = s.host := rfl
@[simp] theorem State.modTio_hostOut (s : State) (f : Tio → Tio) : (s.modTio f).hostOut = s.hostOut := rfl
@[simp] theorem State.modTio_dma (s : State) (f : Tio → Tio) : (s.modTio f).dma = s.dma := rfl
@[simp] theorem State.modTio_streams (s : State) (f : Tio → Tio) : (s.modTio f).streams = s.streams := rfl
@[simp] theorem State.modTio_contended (s : State) (f : Tio → Tio) : (s.modTio f).contended = s.contended := rfl
@[simp] theorem State.modTio_scrubWb (s : State) (f : Tio → Tio) : (s.modTio f).scrubWb = s.scrubWb := rfl
@[simp] theorem State.modTio_wakeAt (s : State) (f : Tio → Tio) : (s.modTio f).wakeAt = s.wakeAt := rfl
@[simp] theorem State.modTio_faultLines (s : State) (f : Tio → Tio) : (s.modTio f).faultLines = s.faultLines := rfl
@[simp] theorem State.modTio_keep (s : State) (f : Tio → Tio) : (s.modTio f).keep = s.keep := rfl
@[simp] theorem State.modTio_dram (s : State) (f : Tio → Tio) : (s.modTio f).dram = s.dram := rfl
@[simp] theorem State.modTio_free (s : State) (f : Tio → Tio) : (s.modTio f).free = s.free := rfl
@[simp] theorem State.modTio_pending (s : State) (f : Tio → Tio) : (s.modTio f).pending = s.pending := rfl

@[simp] theorem State.modHost_regs (s : State) (f : HostIf → HostIf) : (s.modHost f).regs = s.regs := rfl
@[simp] theorem State.modHost_shadow (s : State) (f : HostIf → HostIf) : (s.modHost f).shadow = s.shadow := rfl
@[simp] theorem State.modHost_readData (s : State) (f : HostIf → HostIf) : (s.modHost f).readData = s.readData := rfl
@[simp] theorem State.modHost_mem (s : State) (f : HostIf → HostIf) : (s.modHost f).mem = s.mem := rfl
@[simp] theorem State.modHost_poison (s : State) (f : HostIf → HostIf) : (s.modHost f).poison = s.poison := rfl
@[simp] theorem State.modHost_eccOne (s : State) (f : HostIf → HostIf) : (s.modHost f).eccOne = s.eccOne := rfl
@[simp] theorem State.modHost_eccTwo (s : State) (f : HostIf → HostIf) : (s.modHost f).eccTwo = s.eccTwo := rfl
@[simp] theorem State.modHost_mesh (s : State) (f : HostIf → HostIf) : (s.modHost f).mesh = s.mesh := rfl
@[simp] theorem State.modHost_msgId (s : State) (f : HostIf → HostIf) : (s.modHost f).msgId = s.msgId := rfl
@[simp] theorem State.modHost_unacked (s : State) (f : HostIf → HostIf) : (s.modHost f).unacked = s.unacked := rfl
@[simp] theorem State.modHost_readCred (s : State) (f : HostIf → HostIf) : (s.modHost f).readCred = s.readCred := rfl
@[simp] theorem State.modHost_held (s : State) (f : HostIf → HostIf) : (s.modHost f).held = s.held := rfl
@[simp] theorem State.modHost_returned (s : State) (f : HostIf → HostIf) : (s.modHost f).returned = s.returned := rfl
@[simp] theorem State.modHost_tb (s : State) (f : HostIf → HostIf) : (s.modHost f).tb = s.tb := rfl
@[simp] theorem State.modHost_bel (s : State) (f : HostIf → HostIf) : (s.modHost f).bel = s.bel := rfl
@[simp] theorem State.modHost_tio (s : State) (f : HostIf → HostIf) : (s.modHost f).tio = s.tio := rfl
@[simp] theorem State.modHost_cores (s : State) (f : HostIf → HostIf) : (s.modHost f).cores = s.cores := rfl
@[simp] theorem State.modHost_domes (s : State) (f : HostIf → HostIf) : (s.modHost f).domes = s.domes := rfl
@[simp] theorem State.modHost_lantern (s : State) (f : HostIf → HostIf) : (s.modHost f).lantern = s.lantern := rfl
@[simp] theorem State.modHost_ports (s : State) (f : HostIf → HostIf) : (s.modHost f).ports = s.ports := rfl
@[simp] theorem State.modHost_links (s : State) (f : HostIf → HostIf) : (s.modHost f).links = s.links := rfl
@[simp] theorem State.modHost_host (s : State) (f : HostIf → HostIf) : (s.modHost f).host = f s.host := rfl
@[simp] theorem State.modHost_hostOut (s : State) (f : HostIf → HostIf) : (s.modHost f).hostOut = s.hostOut := rfl
@[simp] theorem State.modHost_dma (s : State) (f : HostIf → HostIf) : (s.modHost f).dma = s.dma := rfl
@[simp] theorem State.modHost_streams (s : State) (f : HostIf → HostIf) : (s.modHost f).streams = s.streams := rfl
@[simp] theorem State.modHost_contended (s : State) (f : HostIf → HostIf) : (s.modHost f).contended = s.contended := rfl
@[simp] theorem State.modHost_scrubWb (s : State) (f : HostIf → HostIf) : (s.modHost f).scrubWb = s.scrubWb := rfl
@[simp] theorem State.modHost_wakeAt (s : State) (f : HostIf → HostIf) : (s.modHost f).wakeAt = s.wakeAt := rfl
@[simp] theorem State.modHost_faultLines (s : State) (f : HostIf → HostIf) : (s.modHost f).faultLines = s.faultLines := rfl
@[simp] theorem State.modHost_keep (s : State) (f : HostIf → HostIf) : (s.modHost f).keep = s.keep := rfl
@[simp] theorem State.modHost_dram (s : State) (f : HostIf → HostIf) : (s.modHost f).dram = s.dram := rfl
@[simp] theorem State.modHost_free (s : State) (f : HostIf → HostIf) : (s.modHost f).free = s.free := rfl
@[simp] theorem State.modHost_pending (s : State) (f : HostIf → HostIf) : (s.modHost f).pending = s.pending := rfl

@[simp] theorem State.modKeep_regs (s : State) (f : KeepSt → KeepSt) : (s.modKeep f).regs = s.regs := rfl
@[simp] theorem State.modKeep_shadow (s : State) (f : KeepSt → KeepSt) : (s.modKeep f).shadow = s.shadow := rfl
@[simp] theorem State.modKeep_readData (s : State) (f : KeepSt → KeepSt) : (s.modKeep f).readData = s.readData := rfl
@[simp] theorem State.modKeep_mem (s : State) (f : KeepSt → KeepSt) : (s.modKeep f).mem = s.mem := rfl
@[simp] theorem State.modKeep_poison (s : State) (f : KeepSt → KeepSt) : (s.modKeep f).poison = s.poison := rfl
@[simp] theorem State.modKeep_eccOne (s : State) (f : KeepSt → KeepSt) : (s.modKeep f).eccOne = s.eccOne := rfl
@[simp] theorem State.modKeep_eccTwo (s : State) (f : KeepSt → KeepSt) : (s.modKeep f).eccTwo = s.eccTwo := rfl
@[simp] theorem State.modKeep_mesh (s : State) (f : KeepSt → KeepSt) : (s.modKeep f).mesh = s.mesh := rfl
@[simp] theorem State.modKeep_msgId (s : State) (f : KeepSt → KeepSt) : (s.modKeep f).msgId = s.msgId := rfl
@[simp] theorem State.modKeep_unacked (s : State) (f : KeepSt → KeepSt) : (s.modKeep f).unacked = s.unacked := rfl
@[simp] theorem State.modKeep_readCred (s : State) (f : KeepSt → KeepSt) : (s.modKeep f).readCred = s.readCred := rfl
@[simp] theorem State.modKeep_held (s : State) (f : KeepSt → KeepSt) : (s.modKeep f).held = s.held := rfl
@[simp] theorem State.modKeep_returned (s : State) (f : KeepSt → KeepSt) : (s.modKeep f).returned = s.returned := rfl
@[simp] theorem State.modKeep_tb (s : State) (f : KeepSt → KeepSt) : (s.modKeep f).tb = s.tb := rfl
@[simp] theorem State.modKeep_bel (s : State) (f : KeepSt → KeepSt) : (s.modKeep f).bel = s.bel := rfl
@[simp] theorem State.modKeep_tio (s : State) (f : KeepSt → KeepSt) : (s.modKeep f).tio = s.tio := rfl
@[simp] theorem State.modKeep_cores (s : State) (f : KeepSt → KeepSt) : (s.modKeep f).cores = s.cores := rfl
@[simp] theorem State.modKeep_domes (s : State) (f : KeepSt → KeepSt) : (s.modKeep f).domes = s.domes := rfl
@[simp] theorem State.modKeep_lantern (s : State) (f : KeepSt → KeepSt) : (s.modKeep f).lantern = s.lantern := rfl
@[simp] theorem State.modKeep_ports (s : State) (f : KeepSt → KeepSt) : (s.modKeep f).ports = s.ports := rfl
@[simp] theorem State.modKeep_links (s : State) (f : KeepSt → KeepSt) : (s.modKeep f).links = s.links := rfl
@[simp] theorem State.modKeep_host (s : State) (f : KeepSt → KeepSt) : (s.modKeep f).host = s.host := rfl
@[simp] theorem State.modKeep_hostOut (s : State) (f : KeepSt → KeepSt) : (s.modKeep f).hostOut = s.hostOut := rfl
@[simp] theorem State.modKeep_dma (s : State) (f : KeepSt → KeepSt) : (s.modKeep f).dma = s.dma := rfl
@[simp] theorem State.modKeep_streams (s : State) (f : KeepSt → KeepSt) : (s.modKeep f).streams = s.streams := rfl
@[simp] theorem State.modKeep_contended (s : State) (f : KeepSt → KeepSt) : (s.modKeep f).contended = s.contended := rfl
@[simp] theorem State.modKeep_scrubWb (s : State) (f : KeepSt → KeepSt) : (s.modKeep f).scrubWb = s.scrubWb := rfl
@[simp] theorem State.modKeep_wakeAt (s : State) (f : KeepSt → KeepSt) : (s.modKeep f).wakeAt = s.wakeAt := rfl
@[simp] theorem State.modKeep_faultLines (s : State) (f : KeepSt → KeepSt) : (s.modKeep f).faultLines = s.faultLines := rfl
@[simp] theorem State.modKeep_keep (s : State) (f : KeepSt → KeepSt) : (s.modKeep f).keep = f s.keep := rfl
@[simp] theorem State.modKeep_dram (s : State) (f : KeepSt → KeepSt) : (s.modKeep f).dram = s.dram := rfl
@[simp] theorem State.modKeep_free (s : State) (f : KeepSt → KeepSt) : (s.modKeep f).free = s.free := rfl
@[simp] theorem State.modKeep_pending (s : State) (f : KeepSt → KeepSt) : (s.modKeep f).pending = s.pending := rfl

@[simp] theorem State.modLan_regs (s : State) (f : Lantern → Lantern) : (s.modLan f).regs = s.regs := rfl
@[simp] theorem State.modLan_shadow (s : State) (f : Lantern → Lantern) : (s.modLan f).shadow = s.shadow := rfl
@[simp] theorem State.modLan_readData (s : State) (f : Lantern → Lantern) : (s.modLan f).readData = s.readData := rfl
@[simp] theorem State.modLan_mem (s : State) (f : Lantern → Lantern) : (s.modLan f).mem = s.mem := rfl
@[simp] theorem State.modLan_poison (s : State) (f : Lantern → Lantern) : (s.modLan f).poison = s.poison := rfl
@[simp] theorem State.modLan_eccOne (s : State) (f : Lantern → Lantern) : (s.modLan f).eccOne = s.eccOne := rfl
@[simp] theorem State.modLan_eccTwo (s : State) (f : Lantern → Lantern) : (s.modLan f).eccTwo = s.eccTwo := rfl
@[simp] theorem State.modLan_mesh (s : State) (f : Lantern → Lantern) : (s.modLan f).mesh = s.mesh := rfl
@[simp] theorem State.modLan_msgId (s : State) (f : Lantern → Lantern) : (s.modLan f).msgId = s.msgId := rfl
@[simp] theorem State.modLan_unacked (s : State) (f : Lantern → Lantern) : (s.modLan f).unacked = s.unacked := rfl
@[simp] theorem State.modLan_readCred (s : State) (f : Lantern → Lantern) : (s.modLan f).readCred = s.readCred := rfl
@[simp] theorem State.modLan_held (s : State) (f : Lantern → Lantern) : (s.modLan f).held = s.held := rfl
@[simp] theorem State.modLan_returned (s : State) (f : Lantern → Lantern) : (s.modLan f).returned = s.returned := rfl
@[simp] theorem State.modLan_tb (s : State) (f : Lantern → Lantern) : (s.modLan f).tb = s.tb := rfl
@[simp] theorem State.modLan_bel (s : State) (f : Lantern → Lantern) : (s.modLan f).bel = s.bel := rfl
@[simp] theorem State.modLan_tio (s : State) (f : Lantern → Lantern) : (s.modLan f).tio = s.tio := rfl
@[simp] theorem State.modLan_cores (s : State) (f : Lantern → Lantern) : (s.modLan f).cores = s.cores := rfl
@[simp] theorem State.modLan_domes (s : State) (f : Lantern → Lantern) : (s.modLan f).domes = s.domes := rfl
@[simp] theorem State.modLan_lantern (s : State) (f : Lantern → Lantern) : (s.modLan f).lantern = f s.lantern := rfl
@[simp] theorem State.modLan_ports (s : State) (f : Lantern → Lantern) : (s.modLan f).ports = s.ports := rfl
@[simp] theorem State.modLan_links (s : State) (f : Lantern → Lantern) : (s.modLan f).links = s.links := rfl
@[simp] theorem State.modLan_host (s : State) (f : Lantern → Lantern) : (s.modLan f).host = s.host := rfl
@[simp] theorem State.modLan_hostOut (s : State) (f : Lantern → Lantern) : (s.modLan f).hostOut = s.hostOut := rfl
@[simp] theorem State.modLan_dma (s : State) (f : Lantern → Lantern) : (s.modLan f).dma = s.dma := rfl
@[simp] theorem State.modLan_streams (s : State) (f : Lantern → Lantern) : (s.modLan f).streams = s.streams := rfl
@[simp] theorem State.modLan_contended (s : State) (f : Lantern → Lantern) : (s.modLan f).contended = s.contended := rfl
@[simp] theorem State.modLan_scrubWb (s : State) (f : Lantern → Lantern) : (s.modLan f).scrubWb = s.scrubWb := rfl
@[simp] theorem State.modLan_wakeAt (s : State) (f : Lantern → Lantern) : (s.modLan f).wakeAt = s.wakeAt := rfl
@[simp] theorem State.modLan_faultLines (s : State) (f : Lantern → Lantern) : (s.modLan f).faultLines = s.faultLines := rfl
@[simp] theorem State.modLan_keep (s : State) (f : Lantern → Lantern) : (s.modLan f).keep = s.keep := rfl
@[simp] theorem State.modLan_dram (s : State) (f : Lantern → Lantern) : (s.modLan f).dram = s.dram := rfl
@[simp] theorem State.modLan_free (s : State) (f : Lantern → Lantern) : (s.modLan f).free = s.free := rfl
@[simp] theorem State.modLan_pending (s : State) (f : Lantern → Lantern) : (s.modLan f).pending = s.pending := rfl

/-! ### Reading back -/

theorem State.reg_setReg_ne (s : State) (a : Nat) (v : Word) {b : Nat} (h : b ≠ a) : (s.setReg a v).reg b = s.reg b :=
  Tab.get_set_ne regReset h s.regs v

@[simp] theorem State.reg_setReg_same (s : State) (a : Nat) (v : Word) : (s.setReg a v).reg a = v :=
  Tab.get_set_same regReset s.regs a v

theorem State.byte_setByte_ne (s : State) (a : Nat) (v : Byte) {b : Nat} (h : b ≠ a) : (s.setByte a v).byte b = s.byte b :=
  Tab.get_set_ne memDefault h s.mem v

@[simp] theorem State.byte_setByte_same (s : State) (a : Nat) (v : Byte) : (s.setByte a v).byte a = v :=
  Tab.get_set_same memDefault s.mem a v

theorem State.core_setCore_ne (s : State) (n : Nat) (c : Core) {m : Nat} (h : m ≠ n) : (s.setCore n c).core m = s.core m :=
  Tab.get_set_ne _ h s.cores c

@[simp] theorem State.core_setCore_same (s : State) (n : Nat) (c : Core) : (s.setCore n c).core n = c :=
  Tab.get_set_same _ s.cores n c

@[simp] theorem State.setReg_setReg (s : State) (a : Nat) (v w : Word) : (s.setReg a v).setReg a w = s.setReg a w := by
  simp [State.setReg, Tab.set_set]
@[simp] theorem State.setCore_setCore (s : State) (n : Nat) (c d : Core) : (s.setCore n c).setCore n d = s.setCore n d := by
  simp [State.setCore, Tab.set_set]
@[simp] theorem State.core_modCore_same (s : State) (n : Nat) (f : Core → Core) : (s.modCore n f).core n = f (s.core n) := by
  simp [State.modCore]
theorem State.core_modCore_ne (s : State) (n : Nat) (f : Core → Core) {m : Nat} (h : m ≠ n) : (s.modCore n f).core m = s.core m := by
  simp [State.modCore, State.core_setCore_ne, h]
@[simp] theorem State.modCore_modCore (s : State) (n : Nat) (f g : Core → Core) : (s.modCore n f).modCore n g = s.modCore n (fun c => g (f c)) := by
  simp [State.modCore]
@[simp] theorem State.reg_congr_setByte (s : State) (a : Nat) (v : Byte) (b : Nat) : (s.setByte a v).reg b = s.reg b := rfl
@[simp] theorem State.byte_setReg (s : State) (a : Nat) (v : Word) (b : Nat) : (s.setReg a v).byte b = s.byte b := rfl
@[simp] theorem State.core_setReg (s : State) (a : Nat) (v : Word) (n : Nat) : (s.setReg a v).core n = s.core n := rfl
@[simp] theorem State.reg_setCore (s : State) (n : Nat) (c : Core) (b : Nat) : (s.setCore n c).reg b = s.reg b := rfl
@[simp] theorem State.byte_setCore (s : State) (n : Nat) (c : Core) (b : Nat) : (s.setCore n c).byte b = s.byte b := rfl

end Sys2Proof.Machine
end

