-- ==== Sys2Proof/Laws/Canon.lean ====
section
/-! SUPPORT. Every operation of the model keeps memory and the register file in their canonical forms (State.Canon): one lemma per operation,
cited by the invariant of the step instead of unfolding the operation. -/

namespace Sys2Proof.Machine

theorem State.canon_mk_iff (s : State) : s.Canon ↔ Memory.wf s.mem = true ∧ Tab.wf regReset s.regs = true := ⟨fun h => ⟨h.mem, h.regs⟩, fun h => ⟨h.1, h.2⟩⟩
@[simp] theorem State.Canon.mem' {s : State} (h : s.Canon) : Tab.wf memDefault s.mem = true := h.mem
@[simp] theorem State.Canon.regs' {s : State} (h : s.Canon) : Tab.wf regReset s.regs = true := h.regs

@[simp] theorem State.mk_canon (regs shadow readData mem poison eccOne eccTwo mesh msgId unacked readCred held returned tb bel tio cores domes lantern ports links host hostOut dma streams contended scrubWb wakeAt faultLines keep dram free pending) :
  (State.mk regs shadow readData mem poison eccOne eccTwo mesh msgId unacked readCred held returned tb bel tio cores domes lantern ports links host hostOut dma streams contended scrubWb wakeAt faultLines keep dram free pending).Canon ↔ Tab.wf memDefault mem = true ∧ Tab.wf regReset regs = true := State.canon_mk_iff _
@[simp] theorem Tab.wf_set' {α} [DecidableEq α] (d : Nat → α) (l : List (Nat × α)) (k : Nat) (v : α) (h : Tab.wf d l = true) :
    Tab.wf d (Tab.set d l k v) = true := Tab.wf_set d l k v h
@[simp] theorem Tab.wf_filter' {α} [DecidableEq α] (d : Nat → α) (p : Nat × α → Bool) (l : List (Nat × α)) (h : Tab.wf d l = true) :
    Tab.wf d (l.filter p) = true := Tab.wf_filter d p l h

@[simp] theorem State.canon_ite {c : Prop} [Decidable c] {a b : State} (ha : a.Canon) (hb : b.Canon) : (if c then a else b).Canon := by split <;> assumption
@[simp] theorem State.canon_foldl {α : Type} (f : State → α → State) (l : List α) (s : State) (h : s.Canon) (hf : ∀ t x, t.Canon → (f t x).Canon) :
    (l.foldl f s).Canon := by
  induction l generalizing s with
  | nil => exact h
  | cons x t ih => exact ih _ (hf _ _ h)
@[simp] theorem State.canon_ite2 {α : Type} {c : Prop} [Decidable c] {a b : α × State} (ha : a.2.Canon) (hb : b.2.Canon) : (if c then a else b).2.Canon := by split <;> assumption
@[simp] theorem State.canon_ite3 {α β : Type} {c : Prop} [Decidable c] {a b : α × β × State} (ha : a.2.2.Canon) (hb : b.2.2.Canon) : (if c then a else b).2.2.Canon := by split <;> assumption
theorem State.canon_mk {regs shadow readData mem poison eccOne eccTwo mesh msgId unacked readCred held returned tb bel tio cores domes lantern ports links host hostOut dma streams contended scrubWb wakeAt faultLines keep dram free pending} (hm : Tab.wf memDefault mem = true) (hr : Tab.wf regReset regs = true) :
  (State.mk regs shadow readData mem poison eccOne eccTwo mesh msgId unacked readCred held returned tb bel tio cores domes lantern ports links host hostOut dma streams contended scrubWb wakeAt faultLines keep dram free pending).Canon := ⟨hm, hr⟩
theorem State.canon_foldl_snd {α β : Type} (f : β × State → α → β × State) (l : List α) (s : β × State) (h : s.2.Canon) (hf : ∀ t x, t.2.Canon → (f t x).2.Canon) :
    (l.foldl f s).2.Canon := by
  induction l generalizing s with
  | nil => exact h
  | cons x t ih => exact ih _ (hf _ _ h)
theorem State.canon_foldl_fst {α β : Type} (f : State × β → α → State × β) (l : List α) (s : State × β) (h : s.1.Canon) (hf : ∀ t x, t.1.Canon → (f t x).1.Canon) :
    (l.foldl f s).1.Canon := by
  induction l generalizing s with
  | nil => exact h
  | cons x t ih => exact ih _ (hf _ _ h)
theorem State.canon_foldl_thd {α β γ : Type} (f : β × γ × State → α → β × γ × State) (l : List α) (s : β × γ × State) (h : s.2.2.Canon)
    (hf : ∀ t x, t.2.2.Canon → (f t x).2.2.Canon) : (l.foldl f s).2.2.Canon := by
  induction l generalizing s with
  | nil => exact h
  | cons x t ih => exact ih _ (hf _ _ h)


/-! The operations, in the order of the model's files. -/

@[simp] theorem State.setReg_canon (s : State) (a : Nat) (v : Word) (hc : s.Canon) : (State.setReg s a v).Canon := by simp [State.setReg, hc]
@[simp] theorem State.setFld_canon (s : State) (a lo len v : Nat) (hc : s.Canon) : (State.setFld s a lo len v).Canon := by simp [State.setFld, hc]
@[simp] theorem State.setBit_canon (s : State) (a i : Nat) (b : Bool) (hc : s.Canon) : (State.setBit s a i b).Canon := by simp [State.setBit, hc]
@[simp] theorem State.bump_canon (s : State) (a : Nat) (k : Nat) (hc : s.Canon) : (State.bump s a k).Canon := by simp [State.bump, hc]
@[simp] theorem State.count_canon (s : State) (a : Nat) (k : Nat) (hc : s.Canon) : (State.count s a k).Canon := by simp [State.count, hc]
@[simp] theorem State.raiseTo_canon (s : State) (a : Nat) (v : Nat) (hc : s.Canon) : (State.raiseTo s a v).Canon := by simp [State.raiseTo, hc]
@[simp] theorem State.setReg64_canon (s : State) (lo : Nat) (v : BitVec 64) (hc : s.Canon) : (State.setReg64 s lo v).Canon := by simp [State.setReg64, hc]
@[simp] theorem State.fresh_canon (s : State) (hc : s.Canon) : (State.fresh s).2.Canon := by simp [State.fresh, hc]
@[simp] theorem State.freeBytes_canon (s : State) (x0 : Nat) (hc : s.Canon) : (State.freeBytes s x0).2.Canon := by
  induction x0 generalizing s with
  | zero =>
    unfold State.freeBytes
    try dsimp only
    repeat' (first
      | (with_reducible assumption)
      | (split <;> (try (rename_i heq; have q2 := congrArg Prod.snd heq; have q1 := congrArg Prod.fst heq; dsimp only at q1 q2; (try subst q1); first | subst q2 | (have q3 := congrArg Prod.snd q2; have q4 := congrArg Prod.fst q2; dsimp only at q3 q4; (try subst q4); subst q3)))))
  
  | succ n ih =>
    unfold State.freeBytes
    try dsimp only
    repeat' (first
      | (with_reducible assumption)
        | intro _
      | with_reducible apply State.canon_foldl
      | with_reducible apply State.canon_foldl_snd
      | with_reducible apply State.canon_foldl_fst
      | with_reducible apply State.canon_foldl_thd
      | with_reducible apply State.Canon.mem
      | with_reducible apply State.Canon.regs
      | (simp only [State.mk_canon]; refine ⟨?_, ?_⟩)
      | with_reducible apply Tab.wf_set'
      | with_reducible apply Tab.wf_filter'
      | with_reducible apply State.fresh_canon
      | with_reducible apply ih
      | (split <;> (try (rename_i heq; have q2 := congrArg Prod.snd heq; have q1 := congrArg Prod.fst heq; dsimp only at q1 q2; (try subst q1); first | subst q2 | (have q3 := congrArg Prod.snd q2; have q4 := congrArg Prod.fst q2; dsimp only at q3 q4; (try subst q4); subst q3)))))
  
@[simp] theorem State.cpIrq_canon (s : State) (n b : Nat) (hc : s.Canon) : (State.cpIrq s n b).Canon := by simp [State.cpIrq, hc]
@[simp] theorem State.sendVec_canon (s : State) (v : Nat) (hc : s.Canon) : (State.sendVec s v).Canon := by simp [State.sendVec, hc]
@[simp] theorem State.flushVecs_canon (s : State) (hc : s.Canon) : (State.flushVecs s).Canon := by
  simp (maxDischargeDepth := 30) (contextual := true) [State.flushVecs, hc]
@[simp] theorem State.keepFault_canon (s : State) (hc : s.Canon) : (State.keepFault s).Canon := by simp [State.keepFault, hc]
@[simp] theorem State.routed_canon (t s : State) (v : Nat) (hc : t.Canon) (hc1 : s.Canon) : (State.routed t s v).Canon := by
  simp (maxDischargeDepth := 30) (contextual := true) [State.routed, hc]
@[simp] theorem State.raise_canon (s : State) (p b : Nat) (hc : s.Canon) : (State.raise s p b).Canon := by
  unfold State.raise
  try dsimp only
  repeat' (first
    | (simp (maxDischargeDepth := 30) [*]; done)
    | intro _
    | (with_reducible first | apply State.canon_ite | apply State.canon_foldl | apply State.canon_foldl_snd | apply State.canon_foldl_fst)
    | (split <;> (try (rename_i q; obtain ⟨q1, q2⟩ := Prod.ext_iff.1 q; dsimp only at q1 q2; (try obtain ⟨q3, q4⟩ := Prod.ext_iff.1 q2); subst_vars))))
@[simp] theorem State.classCnt_canon (s : State) (c : Nat) (hc : s.Canon) : (State.classCnt s c).Canon := by simp [State.classCnt, hc]
@[simp] theorem State.err_canon (s : State) (p code unit detail : Nat) (req : Nat) (hc : s.Canon) : (State.err s p code unit detail req).Canon := by
  simp (maxDischargeDepth := 30) (contextual := true) [State.err, hc]
@[simp] theorem State.errFree_canon (s : State) (p code unit : Nat) (req : Nat) (hc : s.Canon) : (State.errFree s p code unit req).Canon := by simp [State.errFree, hc]
@[simp] theorem State.corrected_canon (s : State) (hc : s.Canon) : (State.corrected s).Canon := by simp [State.corrected, hc]
@[simp] theorem State.faultLine_canon (s : State) (cause unit : Nat) (hc : s.Canon) : (State.faultLine s cause unit).Canon := by simp [State.faultLine, hc]
@[simp] theorem State.unmapped_canon (s : State) (req addr : Nat) (hc : s.Canon) : (State.unmapped s req addr).Canon := by simp [State.unmapped, hc]
@[simp] theorem State.setChip_canon (s : State) (v : Nat) (hc : s.Canon) : (State.setChip s v).Canon := by
  simp (maxDischargeDepth := 30) (contextual := true) [State.setChip, hc]
@[simp] theorem State.setByte_canon (s : State) (a : Nat) (b : Byte) (hc : s.Canon) : (State.setByte s a b).Canon := by simp [State.setByte, hc]
@[simp] theorem State.setBytes_canon (s : State) (a : Nat) (x0 : List Byte) (hc : s.Canon) : (State.setBytes s a x0).Canon := by
  induction x0 generalizing s a with
  | nil =>
    unfold State.setBytes
    try dsimp only
    repeat' (first
      | (with_reducible assumption)
      | (split <;> (try (rename_i heq; have q2 := congrArg Prod.snd heq; have q1 := congrArg Prod.fst heq; dsimp only at q1 q2; (try subst q1); first | subst q2 | (have q3 := congrArg Prod.snd q2; have q4 := congrArg Prod.fst q2; dsimp only at q3 q4; (try subst q4); subst q3)))))
  
  | cons y l ih =>
    unfold State.setBytes
    try dsimp only
    repeat' (first
      | (with_reducible assumption)
        | intro _
      | with_reducible apply State.canon_foldl
      | with_reducible apply State.canon_foldl_snd
      | with_reducible apply State.canon_foldl_fst
      | with_reducible apply State.canon_foldl_thd
      | with_reducible apply State.Canon.mem
      | with_reducible apply State.Canon.regs
      | (simp only [State.mk_canon]; refine ⟨?_, ?_⟩)
      | with_reducible apply Tab.wf_set'
      | with_reducible apply Tab.wf_filter'
      | with_reducible apply State.setByte_canon
      | with_reducible apply ih
      | (split <;> (try (rename_i heq; have q2 := congrArg Prod.snd heq; have q1 := congrArg Prod.fst heq; dsimp only at q1 q2; (try subst q1); first | subst q2 | (have q3 := congrArg Prod.snd q2; have q4 := congrArg Prod.fst q2; dsimp only at q3 q4; (try subst q4); subst q3)))))
  
@[simp] theorem State.clearRange_canon (s : State) (lo hi : Nat) (hc : s.Canon) : (State.clearRange s lo hi).Canon := by simp [State.clearRange, hc]
@[simp] theorem State.eccHit_canon (s : State) (w who : Nat) (ue : Bool) (hc : s.Canon) : (State.eccHit s w who ue).Canon := by
  unfold State.eccHit
  try dsimp only
  repeat' (first
    | (simp (maxDischargeDepth := 30) [*]; done)
    | intro _
    | (with_reducible first | apply State.canon_ite | apply State.canon_foldl | apply State.canon_foldl_snd | apply State.canon_foldl_fst)
    | (split <;> (try (rename_i q; obtain ⟨q1, q2⟩ := Prod.ext_iff.1 q; dsimp only at q1 q2; (try obtain ⟨q3, q4⟩ := Prod.ext_iff.1 q2); subst_vars))))
@[simp] theorem State.checkWord_canon (s : State) (w who : Nat) (hc : s.Canon) : (State.checkWord s w who).2.Canon := by
  simp (maxDischargeDepth := 30) (contextual := true) [State.checkWord, hc]
@[simp] theorem State.checkWords_canon (s : State) (who : Nat) (x0 : List Nat) (hc : s.Canon) : (State.checkWords s who x0).2.Canon := by
  induction x0 generalizing s who with
  | nil =>
    unfold State.checkWords
    try dsimp only
    repeat' (first
      | (with_reducible assumption)
      | (split <;> (try (rename_i heq; have q2 := congrArg Prod.snd heq; have q1 := congrArg Prod.fst heq; dsimp only at q1 q2; (try subst q1); first | subst q2 | (have q3 := congrArg Prod.snd q2; have q4 := congrArg Prod.fst q2; dsimp only at q3 q4; (try subst q4); subst q3)))))
  
  | cons y l ih =>
    unfold State.checkWords
    try dsimp only
    repeat' (first
      | (with_reducible assumption)
        | intro _
      | with_reducible apply State.canon_foldl
      | with_reducible apply State.canon_foldl_snd
      | with_reducible apply State.canon_foldl_fst
      | with_reducible apply State.canon_foldl_thd
      | with_reducible apply State.Canon.mem
      | with_reducible apply State.Canon.regs
      | (simp only [State.mk_canon]; refine ⟨?_, ?_⟩)
      | with_reducible apply Tab.wf_set'
      | with_reducible apply Tab.wf_filter'
      | with_reducible apply State.checkWord_canon
      | with_reducible apply ih
      | (split <;> (try (rename_i heq; have q2 := congrArg Prod.snd heq; have q1 := congrArg Prod.fst heq; dsimp only at q1 q2; (try subst q1); first | subst q2 | (have q3 := congrArg Prod.snd q2; have q4 := congrArg Prod.fst q2; dsimp only at q3 q4; (try subst q4); subst q3)))))
  
@[simp] theorem State.openConf_canon (s : State) (n who : Nat) (hc : s.Canon) : (State.openConf s n who).Canon := by
  simp (maxDischargeDepth := 30) (contextual := true) [State.openConf, hc]
@[simp] theorem State.contend_canon (s : State) (a who : Nat) (hc : s.Canon) : (State.contend s a who).Canon := by
  unfold State.contend
  try dsimp only
  repeat' (first
    | (with_reducible assumption)
    | intro _
    | with_reducible apply State.canon_foldl
    | with_reducible apply State.canon_foldl_snd
    | with_reducible apply State.canon_foldl_fst
    | with_reducible apply State.canon_foldl_thd
    | with_reducible apply State.Canon.mem
    | with_reducible apply State.Canon.regs
    | (simp only [State.mk_canon]; refine ⟨?_, ?_⟩)
    | with_reducible apply Tab.wf_set'
    | with_reducible apply Tab.wf_filter'
    | with_reducible apply State.openConf_canon
    | with_reducible apply State.canon_ite
    | with_reducible apply State.canon_ite2
    | with_reducible apply State.canon_ite3
    | dsimp only
    | (split <;> (try (rename_i heq; have q2 := congrArg Prod.snd heq; have q1 := congrArg Prod.fst heq; dsimp only at q1 q2; (try subst q1); first | subst q2 | (have q3 := congrArg Prod.snd q2; have q4 := congrArg Prod.fst q2; dsimp only at q3 q4; (try subst q4); subst q3)))))
@[simp] theorem State.loseArb_canon (s : State) (n cls k : Nat) (hc : s.Canon) : (State.loseArb s n cls k).Canon := by
  simp (maxDischargeDepth := 30) (contextual := true) [State.loseArb, hc]
@[simp] theorem State.readGranted_canon (s : State) (a n who : Nat) (hc : s.Canon) : (State.readGranted s a n who).2.2.Canon := by
  simp (maxDischargeDepth := 30) (contextual := true) [State.readGranted, hc]
@[simp] theorem State.readMem_canon (s : State) (a n who : Nat) (hc : s.Canon) : (State.readMem s a n who).2.2.Canon := by simp [State.readMem, hc]
@[simp] theorem State.writeWord_canon (s : State) (w who : Nat) (pois full : Bool) (hc : s.Canon) : (State.writeWord s w who pois full).Canon := by
  simp (maxDischargeDepth := 30) (contextual := true) [State.writeWord, hc]
@[simp] theorem State.cancelScrub_canon (s : State) (cells : List (Nat × Byte)) (hc : s.Canon) : (State.cancelScrub s cells).Canon := by simp [State.cancelScrub, hc]
@[simp] theorem State.writeMem_canon (s : State) (cells : List (Nat × Byte)) (pois : List Nat) (who : Nat) (hc : s.Canon) : (State.writeMem s cells pois who).Canon := by
  simp (maxDischargeDepth := 30) (contextual := true) [State.writeMem, hc]
@[simp] theorem State.offAccess_canon (s : State) (n p cls : Nat) (write : Bool) (hc : s.Canon) : (State.offAccess s n p cls write).Canon := by simp [State.offAccess, hc]
@[simp] theorem State.watches_canon (s : State) (n : Nat) (hc : s.Canon) : (State.watches s n).Canon := by
  simp (maxDischargeDepth := 30) (contextual := true) [State.watches, hc]
@[simp] theorem State.evtSet_canon (s : State) (n k : Nat) (v : Word) (hc : s.Canon) : (State.evtSet s n k v).Canon := by simp [State.evtSet, hc]
@[simp] theorem State.evtAdd_canon (s : State) (n k : Nat) (amt : Nat) (hc : s.Canon) : (State.evtAdd s n k amt).Canon := by simp [State.evtAdd, hc]
@[simp] theorem State.post_canon (s : State) (src dst : Nat) (body : Body) (own : Bool) (hc : s.Canon) : (State.post s src dst body own).Canon := by
  unfold State.post
  try dsimp only
  repeat' (first
    | (simp (maxDischargeDepth := 30) [*]; done)
    | intro _
    | (with_reducible first | apply State.canon_ite | apply State.canon_foldl | apply State.canon_foldl_snd | apply State.canon_foldl_fst)
    | (split <;> (try (rename_i q; obtain ⟨q1, q2⟩ := Prod.ext_iff.1 q; dsimp only at q1 q2; (try obtain ⟨q3, q4⟩ := Prod.ext_iff.1 q2); subst_vars))))
@[simp] theorem State.sendEvent_canon (s : State) (src dst : Nat) (body : Body) (hc : s.Canon) : (State.sendEvent s src dst body).Canon := by simp [State.sendEvent, hc]
@[simp] theorem State.sendInc_canon (s : State) (src n k amt : Nat) (hc : s.Canon) : (State.sendInc s src n k amt).Canon := by
  simp (maxDischargeDepth := 30) (contextual := true) [State.sendInc, hc]
@[simp] theorem State.setCred_canon (s : State) (src dst v : Nat) (hc : s.Canon) : (State.setCred s src dst v).Canon := by simp [State.setCred, hc]
@[simp] theorem State.postRead_canon (s : State) (src dst : Nat) (body : Body) (hc : s.Canon) : (State.postRead s src dst body).Canon := by simp [State.postRead, hc]
@[simp] theorem State.takeMsg_canon (s : State) (m : Msg) (hc : s.Canon) : (State.takeMsg s m).Canon := by simp [State.takeMsg, hc]
@[simp] theorem State.blockRead_canon (s : State) (a n who : Nat) (hc : s.Canon) : (State.blockRead s a n who).2.2.Canon := by simp [State.blockRead, hc]
theorem State.vaultRead_canon {s : State} {n p len cls : Nat}  {r0 : List Byte} {r1 : List Nat} {t : State} (he : (State.vaultRead s n p len cls) = some (r0, r1, t)) (hc : s.Canon) : t.Canon := by
  unfold State.vaultRead at he
  split at he
  · have h := State.blockRead_canon s (vaultAddr n p) len cls hc
    rw [Option.some.inj he] at h; exact h
  · cases he
@[simp] theorem State.vaultStore_canon (s : State) (cells : List (Nat × Byte)) (pois : List Nat) (cls : Nat) (hc : s.Canon) : (State.vaultStore s cells pois cls).Canon := by simp [State.vaultStore, hc]
@[simp] theorem State.vaultArrive_canon (s : State) (n : Nat) (cells : List (Nat × Byte)) (pois : List Nat) (arr : Option Ctr) (cls : Nat) (hc : s.Canon) : (State.vaultArrive s n cells pois arr cls).Canon := by
  unfold State.vaultArrive
  try dsimp only
  repeat' (first
    | (simp (maxDischargeDepth := 30) [*]; done)
    | intro _
    | (with_reducible first | apply State.canon_ite | apply State.canon_foldl | apply State.canon_foldl_snd | apply State.canon_foldl_fst)
    | (split <;> (try (rename_i q; obtain ⟨q1, q2⟩ := Prod.ext_iff.1 q; dsimp only at q1 q2; (try obtain ⟨q3, q4⟩ := Prod.ext_iff.1 q2); subst_vars))))
@[simp] theorem State.modTio_canon (s : State) (f : Tio → Tio) (hc : s.Canon) : (State.modTio s f).Canon := by simp [State.modTio, hc]
@[simp] theorem State.setChan_canon (s : State) (c : Nat) (x : TioChan) (hc : s.Canon) : (State.setChan s c x).Canon := by simp [State.setChan, hc]
@[simp] theorem State.tioEnter_canon (s : State) (hc : s.Canon) : (State.tioEnter s).Canon := by
  simp (maxDischargeDepth := 30) (contextual := true) [State.tioEnter, hc]
@[simp] theorem State.tioLeave_canon (s : State) (hc : s.Canon) : (State.tioLeave s).Canon := by simp [State.tioLeave, hc]
@[simp] theorem State.tioSettle_canon (s : State) (hc : s.Canon) : (State.tioSettle s).Canon := by
  simp (maxDischargeDepth := 30) (contextual := true) [State.tioSettle, hc]
@[simp] theorem State.fireRej_canon (s : State) (r : FireRec) (outcome detail : Nat) (hc : s.Canon) : (State.fireRej s r outcome detail).Canon := by
  simp (maxDischargeDepth := 30) (contextual := true) [State.fireRej, hc]
@[simp] theorem State.fireFail_canon (s : State) (r : FireRec) (outcome detail a b : Nat) (hc : s.Canon) : (State.fireFail s r outcome detail a b).Canon := by
  simp (maxDischargeDepth := 30) (contextual := true) [State.fireFail, hc]
@[simp] theorem State.fireQueue_canon (s : State) (r : FireRec) (hc : s.Canon) : (State.fireQueue s r).Canon := by
  simp (maxDischargeDepth := 30) (contextual := true) [State.fireQueue, hc]
@[simp] theorem State.fireArrive_canon (s : State) (r : FireRec) (hc : s.Canon) : (State.fireArrive s r).Canon := by
  simp (maxDischargeDepth := 30) (contextual := true) [State.fireArrive, hc]
@[simp] theorem State.fireRecord_canon (s : State) (hc : s.Canon) : (State.fireRecord s).Canon := by
  unfold State.fireRecord
  try dsimp only
  repeat' (first
    | (simp (maxDischargeDepth := 30) [*]; done)
    | intro _
    | (with_reducible first | apply State.canon_ite | apply State.canon_foldl | apply State.canon_foldl_snd | apply State.canon_foldl_fst)
    | (split <;> (try (rename_i q; obtain ⟨q1, q2⟩ := Prod.ext_iff.1 q; dsimp only at q1 q2; (try obtain ⟨q3, q4⟩ := Prod.ext_iff.1 q2); subst_vars))))
@[simp] theorem State.tioInj_canon (s : State) (v : Word) (hc : s.Canon) : (State.tioInj s v).Canon := by simp [State.tioInj, hc]
@[simp] theorem State.activeEdge_canon (s : State) (c : Nat) (hc : s.Canon) : (State.activeEdge s c).Canon := by
  unfold State.activeEdge
  try dsimp only
  repeat' (first
    | (simp (maxDischargeDepth := 30) [*]; done)
    | intro _
    | (with_reducible first | apply State.canon_ite | apply State.canon_foldl | apply State.canon_foldl_snd | apply State.canon_foldl_fst)
    | (split <;> (try (rename_i q; obtain ⟨q1, q2⟩ := Prod.ext_iff.1 q; dsimp only at q1 q2; (try obtain ⟨q3, q4⟩ := Prod.ext_iff.1 q2); subst_vars))))
@[simp] theorem State.inactiveEdge_canon (s : State) (c : Nat) (hc : s.Canon) : (State.inactiveEdge s c).Canon := by simp [State.inactiveEdge, hc]
@[simp] theorem State.ocfgWrite_canon (s : State) (req c : Nat) (v : Word) (hc : s.Canon) : (State.ocfgWrite s req c v).Canon := by simp [State.ocfgWrite, hc]
@[simp] theorem State.tioCtl_canon (s : State) (v : Word) (hc : s.Canon) : (State.tioCtl s v).Canon := by simp [State.tioCtl, hc]
@[simp] theorem State.resetPages_canon (s : State) (lo hi : Nat) (hc : s.Canon) : (State.resetPages s lo hi).Canon := by simp [State.resetPages, hc]
@[simp] theorem State.tioReset_canon (s : State) (hc : s.Canon) : (State.tioReset s).Canon := by simp [State.tioReset, hc]
@[simp] theorem State.tioTick_canon (s : State) (hc : s.Canon) : (State.tioTick s).Canon := by
  simp (maxDischargeDepth := 30) (contextual := true) [State.tioTick, hc]
@[simp] theorem State.modTb_canon (s : State) (f : Timebase → Timebase) (hc : s.Canon) : (State.modTb s f).Canon := by simp [State.modTb, hc]
@[simp] theorem State.newCycle_canon (s : State) (hc : s.Canon) : (State.newCycle s).Canon := by
  simp (maxDischargeDepth := 30) (contextual := true) [State.newCycle, hc]
@[simp] theorem State.slewStep_canon (s : State) (hc : s.Canon) : (State.slewStep s).Canon := by
  simp (maxDischargeDepth := 30) (contextual := true) [State.slewStep, hc]
@[simp] theorem State.tclk_canon (s : State) (hc : s.Canon) : (State.tclk s).Canon := by
  simp (maxDischargeDepth := 30) (contextual := true) [State.tclk, hc]
@[simp] theorem State.slewEvent_canon (s : State) (hc : s.Canon) : (State.slewEvent s).Canon := by simp [State.slewEvent, hc]
@[simp] theorem State.loadAdj_canon (s : State) (v : Word) (hc : s.Canon) : (State.loadAdj s v).Canon := by simp [State.loadAdj, hc]
@[simp] theorem State.timeAdj_canon (s : State) (req : Nat) (v : Word) (hc : s.Canon) : (State.timeAdj s req v).Canon := by simp [State.timeAdj, hc]
@[simp] theorem State.timeSet_canon (s : State) (req : Nat) (hi : Word) (hc : s.Canon) : (State.timeSet s req hi).Canon := by
  simp (maxDischargeDepth := 30) (contextual := true) [State.timeSet, hc]
@[simp] theorem State.tickSet_canon (s : State) (req : Nat) (hi : Word) (hc : s.Canon) : (State.tickSet s req hi).Canon := by simp [State.tickSet, hc]
@[simp] theorem State.timeSrcWrite_canon (s : State) (req : Nat) (encN : Bool) (v : Word) (hc : s.Canon) : (State.timeSrcWrite s req encN v).Canon := by
  simp (maxDischargeDepth := 30) (contextual := true) [State.timeSrcWrite, hc]
@[simp] theorem State.timebaseEn_canon (s : State) (en : Bool) (hc : s.Canon) : (State.timebaseEn s en).Canon := by
  simp (maxDischargeDepth := 30) (contextual := true) [State.timebaseEn, hc]
@[simp] theorem State.sourceEvent_canon (s : State) (e : SourceEvent) (hc : s.Canon) : (State.sourceEvent s e).Canon := by
  unfold State.sourceEvent
  try dsimp only
  repeat' (first
    | (simp (maxDischargeDepth := 30) [*]; done)
    | intro _
    | (with_reducible first | apply State.canon_ite | apply State.canon_foldl | apply State.canon_foldl_snd | apply State.canon_foldl_fst)
    | (split <;> (try (rename_i q; obtain ⟨q1, q2⟩ := Prod.ext_iff.1 q; dsimp only at q1 q2; (try obtain ⟨q3, q4⟩ := Prod.ext_iff.1 q2); subst_vars))))
@[simp] theorem State.gridPoint_canon (s : State) (hc : s.Canon) : (State.gridPoint s).Canon := by
  simp (maxDischargeDepth := 30) (contextual := true) [State.gridPoint, hc]
@[simp] theorem State.encoderTick_canon (s : State) (e : Nat) (forward : Bool) (tm : BitVec 64) (hc : s.Canon) : (State.encoderTick s e forward tm).Canon := by
  simp (maxDischargeDepth := 30) (contextual := true) [State.encoderTick, hc]
@[simp] theorem State.triggerTick_canon (s : State) (i : Nat) (rising : Bool) (tm : BitVec 64) (hc : s.Canon) : (State.triggerTick s i rising tm).Canon := by simp [State.triggerTick, hc]
@[simp] theorem State.tickStall_canon (s : State) (hc : s.Canon) : (State.tickStall s).Canon := by
  simp (maxDischargeDepth := 30) (contextual := true) [State.tickStall, hc]
@[simp] theorem State.timeSync_canon (s : State) (hc : s.Canon) : (State.timeSync s).Canon := by
  simp (maxDischargeDepth := 30) (contextual := true) [State.timeSync, hc]
@[simp] theorem State.loseLock_canon (s : State) (hc : s.Canon) : (State.loseLock s).Canon := by
  simp (maxDischargeDepth := 30) (contextual := true) [State.loseLock, hc]
@[simp] theorem State.modHost_canon (s : State) (f : HostIf → HostIf) (hc : s.Canon) : (State.modHost s f).Canon := by simp [State.modHost, hc]
@[simp] theorem State.setOwner_canon (s : State) (k : Nat) (device : Bool) (hc : s.Canon) : (State.setOwner s k device).Canon := by simp [State.setOwner, hc]
@[simp] theorem State.nonOwner_canon (s : State) (k : Nat) (read : Bool) (hc : s.Canon) : (State.nonOwner s k read).Canon := by
  simp (maxDischargeDepth := 30) (contextual := true) [State.nonOwner, hc]
@[simp] theorem State.hostReadsGo_canon (s : State) (hc : s.Canon) : (State.hostReadsGo s).Canon := by
  simp (maxDischargeDepth := 30) (contextual := true) [State.hostReadsGo, hc]
@[simp] theorem State.bar2Write_canon (s : State) (off : Nat) (data : List Byte) (hc : s.Canon) : (State.bar2Write s off data).Canon := by
  simp (maxDischargeDepth := 30) (contextual := true) [State.bar2Write, hc]
@[simp] theorem State.bar2Read_canon (s : State) (off len : Nat) (hc : s.Canon) : (State.bar2Read s off len).Canon := by
  simp (maxDischargeDepth := 30) (contextual := true) [State.bar2Read, hc]
@[simp] theorem State.ocuHand_canon (s : State) (req : Nat) (v : Word) (hc : s.Canon) : (State.ocuHand s req v).Canon := by
  unfold State.ocuHand
  try dsimp only
  repeat' (first
    | (with_reducible assumption)
    | intro _
    | with_reducible apply State.canon_foldl
    | with_reducible apply State.canon_foldl_snd
    | with_reducible apply State.canon_foldl_fst
    | with_reducible apply State.canon_foldl_thd
    | with_reducible apply State.Canon.mem
    | with_reducible apply State.Canon.regs
    | (simp only [State.mk_canon]; refine ⟨?_, ?_⟩)
    | with_reducible apply Tab.wf_set'
    | with_reducible apply Tab.wf_filter'
    | with_reducible apply State.bump_canon
    | with_reducible apply State.err_canon
    | with_reducible apply State.modHost_canon
    | with_reducible apply State.raise_canon
    | with_reducible apply State.sendVec_canon
    | with_reducible apply State.setOwner_canon
    | with_reducible apply State.setReg_canon
    | with_reducible apply State.canon_ite
    | with_reducible apply State.canon_ite2
    | with_reducible apply State.canon_ite3
    | dsimp only
    | (split <;> (try (rename_i heq; have q2 := congrArg Prod.snd heq; have q1 := congrArg Prod.fst heq; dsimp only at q1 q2; (try subst q1); first | subst q2 | (have q3 := congrArg Prod.snd q2; have q4 := congrArg Prod.fst q2; dsimp only at q3 q4; (try subst q4); subst q3)))))
@[simp] theorem State.handoverEffect_canon (s : State) (hc : s.Canon) : (State.handoverEffect s).Canon := by
  unfold State.handoverEffect
  try dsimp only
  repeat' (first
    | (with_reducible assumption)
    | intro _
    | with_reducible apply State.canon_foldl
    | with_reducible apply State.canon_foldl_snd
    | with_reducible apply State.canon_foldl_fst
    | with_reducible apply State.canon_foldl_thd
    | with_reducible apply State.Canon.mem
    | with_reducible apply State.Canon.regs
    | (simp only [State.mk_canon]; refine ⟨?_, ?_⟩)
    | with_reducible apply Tab.wf_set'
    | with_reducible apply Tab.wf_filter'
    | with_reducible apply State.modHost_canon
    | with_reducible apply State.sendVec_canon
    | with_reducible apply State.setOwner_canon
    | with_reducible apply State.setReg_canon
    | with_reducible apply State.canon_ite
    | with_reducible apply State.canon_ite2
    | with_reducible apply State.canon_ite3
    | dsimp only
    | (split <;> (try (rename_i heq; have q2 := congrArg Prod.snd heq; have q1 := congrArg Prod.fst heq; dsimp only at q1 q2; (try subst q1); first | subst q2 | (have q3 := congrArg Prod.snd q2; have q4 := congrArg Prod.fst q2; dsimp only at q3 q4; (try subst q4); subst q3)))))
@[simp] theorem State.ocuHdb_canon (s : State) (v : Word) (hc : s.Canon) : (State.ocuHdb s v).Canon := by simp [State.ocuHdb, hc]
@[simp] theorem State.ring_canon (s : State) (v : Word) (hc : s.Canon) : (State.ring s v).Canon := by
  simp (maxDischargeDepth := 30) (contextual := true) [State.ring, hc]
@[simp] theorem State.doorbellPresent_canon (s : State) (hc : s.Canon) : (State.doorbellPresent s).Canon := by
  unfold State.doorbellPresent
  try dsimp only
  repeat' (first
    | (simp (maxDischargeDepth := 30) [*]; done)
    | intro _
    | (with_reducible first | apply State.canon_ite | apply State.canon_foldl | apply State.canon_foldl_snd | apply State.canon_foldl_fst)
    | (split <;> (try (rename_i q; obtain ⟨q1, q2⟩ := Prod.ext_iff.1 q; dsimp only at q1 q2; (try obtain ⟨q3, q4⟩ := Prod.ext_iff.1 q2); subst_vars))))
@[simp] theorem State.ocuDdb_canon (s : State) (req : Nat) (v : Word) (hc : s.Canon) : (State.ocuDdb s req v).Canon := by
  simp (maxDischargeDepth := 30) (contextual := true) [State.ocuDdb, hc]
@[simp] theorem State.ocuCtl_canon (s : State) (req : Nat) (v : Word) (hc : s.Canon) : (State.ocuCtl s req v).Canon := by
  simp (maxDischargeDepth := 30) (contextual := true) [State.ocuCtl, hc]
@[simp] theorem State.ringCfg_canon (s : State) (req r : Nat) (v : Word) (hc : s.Canon) : (State.ringCfg s req r v).Canon := by
  simp (maxDischargeDepth := 30) (contextual := true) [State.ringCfg, hc]
@[simp] theorem State.ringKept_canon (t s : State) (r : Nat) (hc : t.Canon) (hc1 : s.Canon) : (State.ringKept t s r).Canon := by simp [State.ringKept, hc]
@[simp] theorem State.ringStrobe_canon (s : State) (hc : s.Canon) : (State.ringStrobe s).Canon := by
  simp (maxDischargeDepth := 30) (contextual := true) [State.ringStrobe, hc]
@[simp] theorem State.ringRelease_canon (s : State) (r : Nat) (x0 : Nat) (x1 : Nat) (hc : s.Canon) : (State.ringRelease s r x0 x1).1.Canon := by
  induction x0 generalizing s r x1 with
  | zero => cases x1 <;> exact hc
  | succ n ih =>
    cases x1 with
    | zero => exact hc
    | succ d =>
      unfold State.ringRelease
      dsimp only
      split
      · exact ih _ _ _ (State.modHost_canon _ _ (State.setFld_canon _ _ _ _ _ (State.setOwner_canon _ _ _ hc)))
      · exact State.raise_canon _ _ _ (State.err_canon _ _ _ _ _ _ hc)
@[simp] theorem State.ringGo_canon (s : State) (r : Nat) (hc : s.Canon) : (State.ringGo s r).Canon := by
  unfold State.ringGo
  try dsimp only
  repeat' (first
    | (simp (maxDischargeDepth := 30) [*]; done)
    | intro _
    | (with_reducible first | apply State.canon_ite | apply State.canon_foldl | apply State.canon_foldl_snd | apply State.canon_foldl_fst)
    | (split <;> (try (rename_i q; obtain ⟨q1, q2⟩ := Prod.ext_iff.1 q; dsimp only at q1 q2; (try obtain ⟨q3, q4⟩ := Prod.ext_iff.1 q2); subst_vars))))
@[simp] theorem State.flr_canon (s : State) (hc : s.Canon) : (State.flr s).Canon := by
  simp (maxDischargeDepth := 30) (contextual := true) [State.flr, hc]
@[simp] theorem State.dlDown_canon (s : State) (hc : s.Canon) : (State.dlDown s).Canon := by
  simp (maxDischargeDepth := 30) (contextual := true) [State.dlDown, hc]
@[simp] theorem State.dlUp_canon (s : State) (rate width : Nat) (hc : s.Canon) : (State.dlUp s rate width).Canon := by
  simp (maxDischargeDepth := 30) (contextual := true) [State.dlUp, hc]
@[simp] theorem State.perst_canon (s : State) (hc : s.Canon) : (State.perst s).Canon := by
  simp (maxDischargeDepth := 30) (contextual := true) [State.perst, hc]
@[simp] theorem State.aerFault_canon (s : State) (uncorrectable : Bool) (i : Nat) (hc : s.Canon) : (State.aerFault s uncorrectable i).Canon := by
  simp (maxDischargeDepth := 30) (contextual := true) [State.aerFault, hc]
@[simp] theorem State.cfgRequest_canon (s : State) (r : CfgReq) (hc : s.Canon) : (State.cfgRequest s r).Canon := by
  unfold State.cfgRequest
  try dsimp only
  repeat' (first
    | (simp (maxDischargeDepth := 30) [*]; done)
    | intro _
    | (with_reducible first | apply State.canon_ite | apply State.canon_foldl | apply State.canon_foldl_snd | apply State.canon_foldl_fst)
    | (split <;> (try (rename_i q; obtain ⟨q1, q2⟩ := Prod.ext_iff.1 q; dsimp only at q1 q2; (try obtain ⟨q3, q4⟩ := Prod.ext_iff.1 q2); subst_vars))))
@[simp] theorem State.hostCpl_canon (s : State) (link off : Nat) (data : List Byte) (pois : Bool) (hc : s.Canon) : (State.hostCpl s link off data pois).Canon := by simp [State.hostCpl, hc]
@[simp] theorem State.segOff_canon (s : State) (n seg : Nat) (hc : s.Canon) : (State.segOff s n seg).Canon := by simp [State.segOff, hc]
@[simp] theorem State.segWake_canon (s : State) (n seg : Nat) (hc : s.Canon) : (State.segWake s n seg).Canon := by simp [State.segWake, hc]
@[simp] theorem State.segPower_canon (s : State) (n : Nat) (v : Word) (hc : s.Canon) : (State.segPower s n v).Canon := by
  simp (maxDischargeDepth := 30) (contextual := true) [State.segPower, hc]
@[simp] theorem State.segReady_canon (s : State) (n seg : Nat) (hc : s.Canon) : (State.segReady s n seg).Canon := by
  simp (maxDischargeDepth := 30) (contextual := true) [State.segReady, hc]
@[simp] theorem State.scrubAdvance_canon (s : State) (n b : Nat) (hc : s.Canon) : (State.scrubAdvance s n b).Canon := by
  unfold State.scrubAdvance
  try dsimp only
  repeat' (first
    | (simp (maxDischargeDepth := 30) [*]; done)
    | intro _
    | (with_reducible first | apply State.canon_ite | apply State.canon_foldl | apply State.canon_foldl_snd | apply State.canon_foldl_fst)
    | (split <;> (try (rename_i q; obtain ⟨q1, q2⟩ := Prod.ext_iff.1 q; dsimp only at q1 q2; (try obtain ⟨q3, q4⟩ := Prod.ext_iff.1 q2); subst_vars))))
@[simp] theorem State.scrubBlock_canon (s : State) (b who : Nat) (hc : s.Canon) : (State.scrubBlock s b who).Canon := by
  simp (maxDischargeDepth := 30) (contextual := true) [State.scrubBlock, hc]
@[simp] theorem State.scrubRead_canon (s : State) (n : Nat) (hc : s.Canon) : (State.scrubRead s n).Canon := by
  unfold State.scrubRead
  try dsimp only
  repeat' (first
    | (simp (maxDischargeDepth := 30) [*]; done)
    | intro _
    | (with_reducible first | apply State.canon_ite | apply State.canon_foldl | apply State.canon_foldl_snd | apply State.canon_foldl_fst)
    | (split <;> (try (rename_i q; obtain ⟨q1, q2⟩ := Prod.ext_iff.1 q; dsimp only at q1 q2; (try obtain ⟨q3, q4⟩ := Prod.ext_iff.1 q2); subst_vars))))
@[simp] theorem State.scrubWriteBack_canon (s : State) (p : Nat → Bool) (hc : s.Canon) : (State.scrubWriteBack s p).Canon := by
  unfold State.scrubWriteBack
  try dsimp only
  repeat' (first
    | (simp (maxDischargeDepth := 30) [*]; done)
    | intro _
    | (with_reducible first | apply State.canon_ite | apply State.canon_foldl | apply State.canon_foldl_snd | apply State.canon_foldl_fst)
    | (split <;> (try (rename_i q; obtain ⟨q1, q2⟩ := Prod.ext_iff.1 q; dsimp only at q1 q2; (try obtain ⟨q3, q4⟩ := Prod.ext_iff.1 q2); subst_vars))))
@[simp] theorem State.scrubWrite_canon (s : State) (n : Nat) (hc : s.Canon) : (State.scrubWrite s n).Canon := by simp [State.scrubWrite, hc]
theorem State.shapedRead_canon {s : State} {n p shape pitch cls : Nat}  {r0 : List Byte} {r1 : List Nat} {t : State} (he : (State.shapedRead s n p shape pitch cls) = some (r0, r1, t)) (hc : s.Canon) : t.Canon := by
  unfold State.shapedRead at he
  dsimp only at he
  split at he
  · cases Option.some.inj he; exact State.checkWords_canon _ _ _ (State.contend_canon _ _ _ hc)
  · cases he
@[simp] theorem State.setDma_canon (s : State) (ch : Nat) (d : DmaSt) (hc : s.Canon) : (State.setDma s ch d).Canon := by simp [State.setDma, hc]
@[simp] theorem State.dmaDoneInt_canon (s : State) (ch : Nat) (hc : s.Canon) : (State.dmaDoneInt s ch).Canon := by simp [State.dmaDoneInt, hc]
@[simp] theorem State.dmaErrInt_canon (s : State) (ch : Nat) (hc : s.Canon) : (State.dmaErrInt s ch).Canon := by simp [State.dmaErrInt, hc]
@[simp] theorem State.dmaComplete_canon (s : State) (ch : Nat) (hc : s.Canon) : (State.dmaComplete s ch).Canon := by
  unfold State.dmaComplete
  (repeat' split) <;> simp_all (maxDischargeDepth := 30) (contextual := true)
@[simp] theorem State.dmaSettle_canon (s : State) (ch : Nat) (hc : s.Canon) : (State.dmaSettle s ch).Canon := by
  unfold State.dmaSettle
  try dsimp only
  repeat' (first
    | (simp (maxDischargeDepth := 30) [*]; done)
    | intro _
    | (with_reducible first | apply State.canon_ite | apply State.canon_foldl | apply State.canon_foldl_snd | apply State.canon_foldl_fst)
    | (split <;> (try (rename_i q; obtain ⟨q1, q2⟩ := Prod.ext_iff.1 q; dsimp only at q1 q2; (try obtain ⟨q3, q4⟩ := Prod.ext_iff.1 q2); subst_vars))))
@[simp] theorem State.dmaStart_canon (s : State) (ch : Nat) (hc : s.Canon) : (State.dmaStart s ch).Canon := by
  simp (maxDischargeDepth := 30) (contextual := true) [State.dmaStart, hc]
@[simp] theorem State.dmaStop_canon (s : State) (ch : Nat) (hc : s.Canon) : (State.dmaStop s ch).Canon := by
  simp (maxDischargeDepth := 30) (contextual := true) [State.dmaStop, hc]
@[simp] theorem State.dmaCtlWrite_canon (s : State) (ch : Nat) (v : Word) (req : Nat) (hc : s.Canon) : (State.dmaCtlWrite s ch v req).Canon := by
  simp (maxDischargeDepth := 30) (contextual := true) [State.dmaCtlWrite, hc]
@[simp] theorem State.dmaAck_canon (s : State) (ch bytes blk : Nat) (pois : Bool) (hc : s.Canon) : (State.dmaAck s ch bytes blk pois).Canon := by
  simp (maxDischargeDepth := 30) (contextual := true) [State.dmaAck, hc]
theorem State.dmaTileRead_canon {s : State} {ch n q len dst : Nat}  {r0 : List Byte} {r1 : List Nat} {t : State} (he : (State.dmaTileRead s ch n q len dst) = some (r0, r1, t)) (hc : s.Canon) : t.Canon := by
  unfold State.dmaTileRead at he
  dsimp only at he
  obtain ⟨⟨b, w, u⟩, h, e⟩ := Option.map_eq_some_iff.1 he
  cases e
  exact State.shapedRead_canon h hc
theorem State.dmaOwnRead_canon {s : State} {ch n o len dst : Nat}  {r0 : List Byte} {r1 : List Nat} {t : State} (he : (State.dmaOwnRead s ch n o len dst) = some (r0, r1, t)) (hc : s.Canon) : t.Canon := by
  unfold State.dmaOwnRead at he
  dsimp only at he
  split at he
  · obtain ⟨⟨b, w, u⟩, h, e⟩ := Option.map_eq_some_iff.1 he
    cases e
    exact State.vaultRead_canon h hc
  · have key : ∀ (l : List (Nat × Nat)) (acc : Option (List Byte × List Nat × State)), (∀ x, acc = some x → x.2.2.Canon) →
        ∀ x, l.foldl (fun acc q => acc.bind (fun (b, bad, t) =>
          (t.dmaTileRead ch n q.1 q.2 (dst + (q.1 - o))).map (fun (b', bad', u) => (b ++ b', bad ++ bad', u)))) acc = some x → x.2.2.Canon := by
      intro l
      induction l with
      | nil => intro acc h; exact h
      | cons q l ih =>
        intro acc h
        refine ih _ (fun x hx => ?_)
        obtain ⟨⟨b, w, t⟩, ha, hb⟩ := Option.bind_eq_some_iff.1 hx
        obtain ⟨⟨b', w', u⟩, hc', e⟩ := Option.map_eq_some_iff.1 hb
        cases e
        exact State.dmaTileRead_canon hc' (h _ ha)
    exact key _ _ (fun x hx => by cases hx; exact hc) _ he
@[simp] theorem State.dmaAdvance_canon (s : State) (ch len : Nat) (hc : s.Canon) : (State.dmaAdvance s ch len).Canon := by simp [State.dmaAdvance, hc]
@[simp] theorem State.dmaOwnPiece_canon (s : State) (ch n o len : Nat) (hc : s.Canon) : (State.dmaOwnPiece s ch n o len).Canon := by
  unfold State.dmaOwnPiece
  try dsimp only
  repeat' (first
    | (with_reducible assumption)
    | intro _
    | with_reducible apply State.canon_foldl
    | with_reducible apply State.canon_foldl_snd
    | with_reducible apply State.canon_foldl_fst
    | with_reducible apply State.canon_foldl_thd
    | with_reducible apply State.Canon.mem
    | with_reducible apply State.Canon.regs
    | (simp only [State.mk_canon]; refine ⟨?_, ?_⟩)
    | with_reducible apply Tab.wf_set'
    | with_reducible apply Tab.wf_filter'
    | with_reducible apply State.dmaAck_canon
    | with_reducible apply State.dmaAdvance_canon
    | (refine State.dmaOwnRead_canon (by assumption) ?_)
    | with_reducible apply State.dmaSettle_canon
    | with_reducible apply State.err_canon
    | with_reducible apply State.offAccess_canon
    | with_reducible apply State.post_canon
    | with_reducible apply State.setDma_canon
    | with_reducible apply State.vaultArrive_canon
    | with_reducible apply State.canon_ite
    | with_reducible apply State.canon_ite2
    | with_reducible apply State.canon_ite3
    | dsimp only
    | (split <;> (try (rename_i heq; have q2 := congrArg Prod.snd heq; have q1 := congrArg Prod.fst heq; dsimp only at q1 q2; (try subst q1); first | subst q2 | (have q3 := congrArg Prod.snd q2; have q4 := congrArg Prod.fst q2; dsimp only at q3 q4; (try subst q4); subst q3)))))
@[simp] theorem State.dmaRemotePiece_canon (s : State) (ch o len : Nat) (hc : s.Canon) : (State.dmaRemotePiece s ch o len).Canon := by
  simp (maxDischargeDepth := 30) (contextual := true) [State.dmaRemotePiece, hc]
@[simp] theorem State.dmaRequest_canon (s : State) (ch : Nat) (hc : s.Canon) : (State.dmaRequest s ch).Canon := by
  simp (maxDischargeDepth := 30) (contextual := true) [State.dmaRequest, hc]
@[simp] theorem State.setStrm_canon (s : State) (n st : Nat) (x : StreamSt) (hc : s.Canon) : (State.setStrm s n st x).Canon := by simp [State.setStrm, hc]
@[simp] theorem State.strRaise_canon (s : State) (n st k : Nat) (hc : s.Canon) : (State.strRaise s n st k).Canon := by simp [State.strRaise, hc]
@[simp] theorem State.strEnd_canon (s : State) (n st r : Nat) (hc : s.Canon) : (State.strEnd s n st r).Canon := by
  simp (maxDischargeDepth := 30) (contextual := true) [State.strEnd, hc]
@[simp] theorem State.strIndexNext_canon (s : State) (n st : Nat) (hc : s.Canon) : (State.strIndexNext s n st).Canon := by
  unfold State.strIndexNext
  try dsimp only
  repeat' (first
    | (with_reducible assumption)
    | intro _
    | with_reducible apply State.canon_foldl
    | with_reducible apply State.canon_foldl_snd
    | with_reducible apply State.canon_foldl_fst
    | with_reducible apply State.canon_foldl_thd
    | with_reducible apply State.Canon.mem
    | with_reducible apply State.Canon.regs
    | (simp only [State.mk_canon]; refine ⟨?_, ?_⟩)
    | with_reducible apply Tab.wf_set'
    | with_reducible apply Tab.wf_filter'
    | with_reducible apply State.count_canon
    | with_reducible apply State.offAccess_canon
    | with_reducible apply State.setStrm_canon
    | with_reducible apply State.st_canon
    | (refine State.vaultRead_canon (by assumption) ?_)
    | with_reducible apply State.canon_ite
    | with_reducible apply State.canon_ite2
    | with_reducible apply State.canon_ite3
    | dsimp only
    | (split <;> (try (rename_i heq; have q2 := congrArg Prod.snd heq; have q1 := congrArg Prod.fst heq; dsimp only at q1 q2; (try subst q1); first | subst q2 | (have q3 := congrArg Prod.snd q2; have q4 := congrArg Prod.fst q2; dsimp only at q3 q4; (try subst q4); subst q3)))))
@[simp] theorem State.strIndexDone_canon (s : State) (n st j : Nat) (hc : s.Canon) : (State.strIndexDone s n st j).Canon := by
  simp (maxDischargeDepth := 30) (contextual := true) [State.strIndexDone, hc]
@[simp] theorem State.streamArm_canon (s : State) (n st : Nat) (count : Word) (hc : s.Canon) : (State.streamArm s n st count).Canon := by
  simp (maxDischargeDepth := 30) (contextual := true) [State.streamArm, hc]
@[simp] theorem State.strSettle_canon (s : State) (n st : Nat) (hc : s.Canon) : (State.strSettle s n st).Canon := by
  unfold State.strSettle
  try dsimp only
  repeat' (first
    | (simp (maxDischargeDepth := 30) [*]; done)
    | intro _
    | (with_reducible first | apply State.canon_ite | apply State.canon_foldl | apply State.canon_foldl_snd | apply State.canon_foldl_fst)
    | (split <;> (try (rename_i q; obtain ⟨q1, q2⟩ := Prod.ext_iff.1 q; dsimp only at q1 q2; (try obtain ⟨q3, q4⟩ := Prod.ext_iff.1 q2); subst_vars))))
@[simp] theorem State.strStopAt_canon (s : State) (n st r : Nat) (hc : s.Canon) : (State.strStopAt s n st r).Canon := by simp [State.strStopAt, hc]
@[simp] theorem State.strOff_canon (s : State) (n st j p : Nat) (write : Bool) (hc : s.Canon) : (State.strOff s n st j p write).Canon := by
  simp (maxDischargeDepth := 30) (contextual := true) [State.strOff, hc]
@[simp] theorem State.strLand_canon (s : State) (n st j off : Nat) (data : List Byte) (bad : List Nat) (a : Nat) (hc : s.Canon) : (State.strLand s n st j off data bad a).Canon := by
  unfold State.strLand
  try dsimp only
  repeat' (first
    | (simp (maxDischargeDepth := 30) [*]; done)
    | intro _
    | (with_reducible first | apply State.canon_ite | apply State.canon_foldl | apply State.canon_foldl_snd | apply State.canon_foldl_fst)
    | (split <;> (try (rename_i q; obtain ⟨q1, q2⟩ := Prod.ext_iff.1 q; dsimp only at q1 q2; (try obtain ⟨q3, q4⟩ := Prod.ext_iff.1 q2); subst_vars))))
@[simp] theorem State.strSend_canon (s : State) (n st : Nat) (hc : s.Canon) : (State.strSend s n st).Canon := by
  simp (maxDischargeDepth := 30) (contextual := true) [State.strSend, hc]
@[simp] theorem State.strBegin_canon (s : State) (n st j a : Nat) (hc : s.Canon) : (State.strBegin s n st j a).Canon := by
  unfold State.strBegin
  try dsimp only
  repeat' (first
    | (with_reducible assumption)
    | intro _
    | with_reducible apply State.canon_foldl
    | with_reducible apply State.canon_foldl_snd
    | with_reducible apply State.canon_foldl_fst
    | with_reducible apply State.canon_foldl_thd
    | with_reducible apply State.Canon.mem
    | with_reducible apply State.Canon.regs
    | (simp only [State.mk_canon]; refine ⟨?_, ?_⟩)
    | with_reducible apply Tab.wf_set'
    | with_reducible apply Tab.wf_filter'
    | with_reducible apply State.setFld_canon
    | with_reducible apply State.setStrm_canon
    | (refine State.shapedRead_canon (by assumption) ?_)
    | with_reducible apply State.st_canon
    | with_reducible apply State.strLand_canon
    | with_reducible apply State.strOff_canon
    | with_reducible apply State.strSend_canon
    | (refine State.vaultRead_canon (by assumption) ?_)
    | with_reducible apply State.canon_ite
    | with_reducible apply State.canon_ite2
    | with_reducible apply State.canon_ite3
    | dsimp only
    | (split <;> (try (rename_i heq; have q2 := congrArg Prod.snd heq; have q1 := congrArg Prod.fst heq; dsimp only at q1 q2; (try subst q1); first | subst q2 | (have q3 := congrArg Prod.snd q2; have q4 := congrArg Prod.fst q2; dsimp only at q3 q4; (try subst q4); subst q3)))))
@[simp] theorem State.streamRowFetch_canon (s : State) (n st : Nat) (hc : s.Canon) : (State.streamRowFetch s n st).Canon := by
  unfold State.streamRowFetch
  try dsimp only
  repeat' (first
    | (with_reducible assumption)
    | intro _
    | with_reducible apply State.canon_foldl
    | with_reducible apply State.canon_foldl_snd
    | with_reducible apply State.canon_foldl_fst
    | with_reducible apply State.canon_foldl_thd
    | with_reducible apply State.Canon.mem
    | with_reducible apply State.Canon.regs
    | (simp only [State.mk_canon]; refine ⟨?_, ?_⟩)
    | with_reducible apply Tab.wf_set'
    | with_reducible apply Tab.wf_filter'
    | with_reducible apply State.count_canon
    | with_reducible apply State.err_canon
    | with_reducible apply State.errFree_canon
    | with_reducible apply State.st_canon
    | with_reducible apply State.strBegin_canon
    | with_reducible apply State.strIndexDone_canon
    | with_reducible apply State.strStopAt_canon
    | with_reducible apply State.canon_ite
    | with_reducible apply State.canon_ite2
    | with_reducible apply State.canon_ite3
    | dsimp only
    | (split <;> (try (rename_i heq; have q2 := congrArg Prod.snd heq; have q1 := congrArg Prod.fst heq; dsimp only at q1 q2; (try subst q1); first | subst q2 | (have q3 := congrArg Prod.snd q2; have q4 := congrArg Prod.fst q2; dsimp only at q3 q4; (try subst q4); subst q3)))))
@[simp] theorem State.streamData_canon (s : State) (n st j a : Nat) (data : List Byte) (bad : List Nat) (hc : s.Canon) : (State.streamData s n st j a data bad).Canon := by
  unfold State.streamData
  try dsimp only
  repeat' (first
    | (simp (maxDischargeDepth := 30) [*]; done)
    | intro _
    | (with_reducible first | apply State.canon_ite | apply State.canon_foldl | apply State.canon_foldl_snd | apply State.canon_foldl_fst)
    | (split <;> (try (rename_i q; obtain ⟨q1, q2⟩ := Prod.ext_iff.1 q; dsimp only at q1 q2; (try obtain ⟨q3, q4⟩ := Prod.ext_iff.1 q2); subst_vars))))
@[simp] theorem State.slotReady_canon (s : State) (n st : Nat) (hc : s.Canon) : (State.slotReady s n st).Canon := by
  unfold State.slotReady
  try dsimp only
  repeat' (first
    | (simp (maxDischargeDepth := 30) [*]; done)
    | intro _
    | (with_reducible first | apply State.canon_ite | apply State.canon_foldl | apply State.canon_foldl_snd | apply State.canon_foldl_fst)
    | (split <;> (try (rename_i q; obtain ⟨q1, q2⟩ := Prod.ext_iff.1 q; dsimp only at q1 q2; (try obtain ⟨q3, q4⟩ := Prod.ext_iff.1 q2); subst_vars))))
@[simp] theorem State.strel_canon (s : State) (n st : Nat) (hc : s.Canon) : (State.strel s n st).Canon := by
  simp (maxDischargeDepth := 30) (contextual := true) [State.strel, hc]
@[simp] theorem State.ststop_canon (s : State) (n st : Nat) (hc : s.Canon) : (State.ststop s n st).Canon := by simp [State.ststop, hc]
@[simp] theorem State.strWrite_canon (s : State) (req n st a : Nat) (v : Word) (hc : s.Canon) : (State.strWrite s req n st a v).Canon := by simp [State.strWrite, hc]
@[simp] theorem State.setDome_canon (s : State) (n : Nat) (d : Dome) (hc : s.Canon) : (State.setDome s n d).Canon := by simp [State.setDome, hc]
@[simp] theorem State.modDome_canon (s : State) (n : Nat) (f : Dome → Dome) (hc : s.Canon) : (State.modDome s n f).Canon := by simp [State.modDome, hc]
@[simp] theorem State.walkAdvance_canon (s : State) (n : Nat) (f : RunF) (hc : s.Canon) : (State.walkAdvance s n f).Canon := by
  unfold State.walkAdvance
  try dsimp only
  repeat' (first
    | (simp (maxDischargeDepth := 30) [*]; done)
    | intro _
    | (with_reducible first | apply State.canon_ite | apply State.canon_foldl | apply State.canon_foldl_snd | apply State.canon_foldl_fst)
    | (split <;> (try (rename_i q; obtain ⟨q1, q2⟩ := Prod.ext_iff.1 q; dsimp only at q1 q2; (try obtain ⟨q3, q4⟩ := Prod.ext_iff.1 q2); subst_vars))))
@[simp] theorem State.domeErrWords_canon (s : State) (n : Nat) (ws : List Nat) (hc : s.Canon) : (State.domeErrWords s n ws).Canon := by
  simp (maxDischargeDepth := 30) (contextual := true) [State.domeErrWords, hc]
@[simp] theorem State.domeReject_canon (s : State) (n : Nat) (ws : List Nat) (reason : Nat) (hc : s.Canon) : (State.domeReject s n ws reason).Canon := by
  simp (maxDischargeDepth := 30) (contextual := true) [State.domeReject, hc]
@[simp] theorem State.domeRefuse_canon (s : State) (n : Nat) (ws : List Nat) (p : Nat) (write : Bool) (hc : s.Canon) : (State.domeRefuse s n ws p write).Canon := by
  simp (maxDischargeDepth := 30) (contextual := true) [State.domeRefuse, hc]
@[simp] theorem State.domePoison_canon (s : State) (n : Nat) (ws : List Nat) (p : Nat) (hc : s.Canon) : (State.domePoison s n ws p).Canon := by simp [State.domePoison, hc]
@[simp] theorem State.domeDone_canon (s : State) (n : Nat) (ws : List Nat) (hc : s.Canon) : (State.domeDone s n ws).Canon := by
  simp (maxDischargeDepth := 30) (contextual := true) [State.domeDone, hc]
@[simp] theorem State.domeCtl_canon (s : State) (n : Nat) (v : Word) (hc : s.Canon) : (State.domeCtl s n v).Canon := by simp [State.domeCtl, hc]
@[simp] theorem State.loadwIssue_canon (s : State) (n : Nat) (hc : s.Canon) : (State.loadwIssue s n).Canon := by
  unfold State.loadwIssue
  try dsimp only
  repeat' (first
    | (simp (maxDischargeDepth := 30) [*]; done)
    | intro _
    | (with_reducible first | apply State.canon_ite | apply State.canon_foldl | apply State.canon_foldl_snd | apply State.canon_foldl_fst)
    | (split <;> (try (rename_i q; obtain ⟨q1, q2⟩ := Prod.ext_iff.1 q; dsimp only at q1 q2; (try obtain ⟨q3, q4⟩ := Prod.ext_iff.1 q2); subst_vars))))
@[simp] theorem State.runIssue_canon (s : State) (n : Nat) (hc : s.Canon) : (State.runIssue s n).Canon := by
  unfold State.runIssue
  try dsimp only
  repeat' (first
    | (simp (maxDischargeDepth := 30) [*]; done)
    | intro _
    | (with_reducible first | apply State.canon_ite | apply State.canon_foldl | apply State.canon_foldl_snd | apply State.canon_foldl_fst)
    | (split <;> (try (rename_i q; obtain ⟨q1, q2⟩ := Prod.ext_iff.1 q; dsimp only at q1 q2; (try obtain ⟨q3, q4⟩ := Prod.ext_iff.1 q2); subst_vars))))
@[simp] theorem State.winLoad_canon (s : State) (n : Nat) (ws : List Nat) (hc : s.Canon) : (State.winLoad s n ws).Canon := by
  simp (maxDischargeDepth := 30) (contextual := true) [State.winLoad, hc]
@[simp] theorem State.tableIssue_canon (s : State) (n ty : Nat) (hc : s.Canon) : (State.tableIssue s n ty).Canon := by
  unfold State.tableIssue
  try dsimp only
  repeat' (first
    | (simp (maxDischargeDepth := 30) [*]; done)
    | intro _
    | (with_reducible first | apply State.canon_ite | apply State.canon_foldl | apply State.canon_foldl_snd | apply State.canon_foldl_fst)
    | (split <;> (try (rename_i q; obtain ⟨q1, q2⟩ := Prod.ext_iff.1 q; dsimp only at q1 q2; (try obtain ⟨q3, q4⟩ := Prod.ext_iff.1 q2); subst_vars))))
@[simp] theorem State.loadBlocks_canon (s : State) (n : Nat) (x0 : Nat) (x1 : LoadSt) (hc : s.Canon) : (State.loadBlocks s n x0 x1).2.Canon := by
  induction x0 generalizing s n x1 with
  | zero =>
    unfold State.loadBlocks
    try dsimp only
    repeat' (first
      | (with_reducible assumption)
        | intro _
      | with_reducible apply State.canon_foldl
      | with_reducible apply State.canon_foldl_snd
      | with_reducible apply State.canon_foldl_fst
      | with_reducible apply State.canon_foldl_thd
      | with_reducible apply State.Canon.mem
      | with_reducible apply State.Canon.regs
      | (simp only [State.mk_canon]; refine ⟨?_, ?_⟩)
      | with_reducible apply Tab.wf_set'
      | with_reducible apply Tab.wf_filter'
      | with_reducible apply State.domePoison_canon
      | with_reducible apply State.domeRefuse_canon
      | (refine State.vaultRead_canon (by assumption) ?_)
      | with_reducible apply State.canon_ite
      | with_reducible apply State.canon_ite2
      | with_reducible apply State.canon_ite3
      | dsimp only
      | (split <;> (try (rename_i heq; have q2 := congrArg Prod.snd heq; have q1 := congrArg Prod.fst heq; dsimp only at q1 q2; (try subst q1); first | subst q2 | (have q3 := congrArg Prod.snd q2; have q4 := congrArg Prod.fst q2; dsimp only at q3 q4; (try subst q4); subst q3)))))
  
  | succ n ih =>
    unfold State.loadBlocks
    try dsimp only
    repeat' (first
      | (with_reducible assumption)
        | intro _
      | with_reducible apply State.canon_foldl
      | with_reducible apply State.canon_foldl_snd
      | with_reducible apply State.canon_foldl_fst
      | with_reducible apply State.canon_foldl_thd
      | with_reducible apply State.Canon.mem
      | with_reducible apply State.Canon.regs
      | (simp only [State.mk_canon]; refine ⟨?_, ?_⟩)
      | with_reducible apply Tab.wf_set'
      | with_reducible apply Tab.wf_filter'
      | with_reducible apply State.domePoison_canon
      | with_reducible apply State.domeRefuse_canon
      | (refine State.vaultRead_canon (by assumption) ?_)
      | with_reducible apply ih
      | with_reducible apply State.canon_ite
      | with_reducible apply State.canon_ite2
      | with_reducible apply State.canon_ite3
      | dsimp only
      | (split <;> (try (rename_i heq; have q2 := congrArg Prod.snd heq; have q1 := congrArg Prod.fst heq; dsimp only at q1 q2; (try subst q1); first | subst q2 | (have q3 := congrArg Prod.snd q2; have q4 := congrArg Prod.fst q2; dsimp only at q3 q4; (try subst q4); subst q3)))))
  
@[simp] theorem State.loadwFill_canon (s : State) (n : Nat) (l : LoadSt) (hc : s.Canon) : (State.loadwFill s n l).Canon := by
  simp (maxDischargeDepth := 30) (contextual := true) [State.loadwFill, hc]
@[simp] theorem State.loadwComplete_canon (s : State) (n : Nat) (upTo : Option Nat) (hc : s.Canon) : (State.loadwComplete s n upTo).Canon := by
  unfold State.loadwComplete
  try dsimp only
  repeat' (first
    | (with_reducible assumption)
    | intro _
    | with_reducible apply State.canon_foldl
    | with_reducible apply State.canon_foldl_snd
    | with_reducible apply State.canon_foldl_fst
    | with_reducible apply State.canon_foldl_thd
    | with_reducible apply State.Canon.mem
    | with_reducible apply State.Canon.regs
    | (simp only [State.mk_canon]; refine ⟨?_, ?_⟩)
    | with_reducible apply Tab.wf_set'
    | with_reducible apply Tab.wf_filter'
    | with_reducible apply State.domePoison_canon
    | with_reducible apply State.loadBlocks_canon
    | with_reducible apply State.loadwFill_canon
    | with_reducible apply State.modDome_canon
    | with_reducible apply State.canon_ite
    | with_reducible apply State.canon_ite2
    | with_reducible apply State.canon_ite3
    | dsimp only
    | (split <;> (try (rename_i heq; have q2 := congrArg Prod.snd heq; have q1 := congrArg Prod.fst heq; dsimp only at q1 q2; (try subst q1); first | subst q2 | (have q3 := congrArg Prod.snd q2; have q4 := congrArg Prod.fst q2; dsimp only at q3 q4; (try subst q4); subst q3)))))
@[simp] theorem State.tableComplete_canon (s : State) (n : Nat) (upTo : Option Nat) (hc : s.Canon) : (State.tableComplete s n upTo).Canon := by
  unfold State.tableComplete
  try dsimp only
  repeat' (first
    | (with_reducible assumption)
    | intro _
    | with_reducible apply State.canon_foldl
    | with_reducible apply State.canon_foldl_snd
    | with_reducible apply State.canon_foldl_fst
    | with_reducible apply State.canon_foldl_thd
    | with_reducible apply State.Canon.mem
    | with_reducible apply State.Canon.regs
    | (simp only [State.mk_canon]; refine ⟨?_, ?_⟩)
    | with_reducible apply Tab.wf_set'
    | with_reducible apply Tab.wf_filter'
    | with_reducible apply State.domeDone_canon
    | with_reducible apply State.loadBlocks_canon
    | with_reducible apply State.modDome_canon
    | with_reducible apply State.canon_ite
    | with_reducible apply State.canon_ite2
    | with_reducible apply State.canon_ite3
    | dsimp only
    | (split <;> (try (rename_i heq; have q2 := congrArg Prod.snd heq; have q1 := congrArg Prod.fst heq; dsimp only at q1 q2; (try subst q1); first | subst q2 | (have q3 := congrArg Prod.snd q2; have q4 := congrArg Prod.fst q2; dsimp only at q3 q4; (try subst q4); subst q3)))))
@[simp] theorem State.report_canon (s : State) (n : Nat) (f : RunF) (p : Nat) (pois : Bool) (os : List OutEl) (hc : s.Canon) : (State.report s n f p pois os).Canon := by
  simp (maxDischargeDepth := 30) (contextual := true) [State.report, hc]
@[simp] theorem State.writeOut_canon (s : State) (n : Nat) (cells : List (Nat × Byte)) (pois : List Nat) (hc : s.Canon) : (State.writeOut s n cells pois).2.Canon := by
  unfold State.writeOut
  try dsimp only
  repeat' (first
    | (with_reducible assumption)
    | intro _
    | with_reducible apply State.canon_foldl
    | with_reducible apply State.canon_foldl_snd
    | with_reducible apply State.canon_foldl_fst
    | with_reducible apply State.canon_foldl_thd
    | with_reducible apply State.Canon.mem
    | with_reducible apply State.Canon.regs
    | (simp only [State.mk_canon]; refine ⟨?_, ?_⟩)
    | with_reducible apply Tab.wf_set'
    | with_reducible apply Tab.wf_filter'
    | with_reducible apply State.vaultStore_canon
    | with_reducible apply State.canon_ite
    | with_reducible apply State.canon_ite2
    | with_reducible apply State.canon_ite3
    | dsimp only
    | (split <;> (try (rename_i heq; have q2 := congrArg Prod.snd heq; have q1 := congrArg Prod.fst heq; dsimp only at q1 q2; (try subst q1); first | subst q2 | (have q3 := congrArg Prod.snd q2; have q4 := congrArg Prod.fst q2; dsimp only at q3 q4; (try subst q4); subst q3)))))
@[simp] theorem State.abufLost_canon (s : State) (n : Nat) (hc : s.Canon) : (State.abufLost s n).Canon := by simp [State.abufLost, hc]
@[simp] theorem State.writeOuts_canon (s : State) (n : Nat) (f : RunF) (q : List (Nat × (List Nat × Bool))) (x0 : List (Nat × (List Nat × Bool))) (hc : s.Canon) : (State.writeOuts s n f q x0).2.Canon := by
  induction x0 generalizing s n f q with
  | nil =>
    unfold State.writeOuts
    try dsimp only
    repeat' (first
      | (with_reducible assumption)
        | intro _
      | with_reducible apply State.canon_foldl
      | with_reducible apply State.canon_foldl_snd
      | with_reducible apply State.canon_foldl_fst
      | with_reducible apply State.canon_foldl_thd
      | with_reducible apply State.Canon.mem
      | with_reducible apply State.Canon.regs
      | (simp only [State.mk_canon]; refine ⟨?_, ?_⟩)
      | with_reducible apply Tab.wf_set'
      | with_reducible apply Tab.wf_filter'
      | with_reducible apply State.bump_canon
      | with_reducible apply State.writeOut_canon
      | with_reducible apply State.canon_ite
      | with_reducible apply State.canon_ite2
      | with_reducible apply State.canon_ite3
      | dsimp only
      | (split <;> (try (rename_i heq; have q2 := congrArg Prod.snd heq; have q1 := congrArg Prod.fst heq; dsimp only at q1 q2; (try subst q1); first | subst q2 | (have q3 := congrArg Prod.snd q2; have q4 := congrArg Prod.fst q2; dsimp only at q3 q4; (try subst q4); subst q3)))))
  
  | cons y l ih =>
    unfold State.writeOuts
    try dsimp only
    repeat' (first
      | (with_reducible assumption)
        | intro _
      | with_reducible apply State.canon_foldl
      | with_reducible apply State.canon_foldl_snd
      | with_reducible apply State.canon_foldl_fst
      | with_reducible apply State.canon_foldl_thd
      | with_reducible apply State.Canon.mem
      | with_reducible apply State.Canon.regs
      | (simp only [State.mk_canon]; refine ⟨?_, ?_⟩)
      | with_reducible apply Tab.wf_set'
      | with_reducible apply Tab.wf_filter'
      | with_reducible apply State.bump_canon
      | with_reducible apply State.writeOut_canon
      | with_reducible apply ih
      | with_reducible apply State.canon_ite
      | with_reducible apply State.canon_ite2
      | with_reducible apply State.canon_ite3
      | dsimp only
      | (split <;> (try (rename_i heq; have q2 := congrArg Prod.snd heq; have q1 := congrArg Prod.fst heq; dsimp only at q1 q2; (try subst q1); first | subst q2 | (have q3 := congrArg Prod.snd q2; have q4 := congrArg Prod.fst q2; dsimp only at q3 q4; (try subst q4); subst q3)))))
  
@[simp] theorem State.runRefused_canon (s : State) (n : Nat) (ws : List Nat) (p : Nat) (write : Bool) (cyc left : Nat) (hc : s.Canon) : (State.runRefused s n ws p write cyc left).Canon := by
  simp (maxDischargeDepth := 30) (contextual := true) [State.runRefused, hc]
@[simp] theorem State.modRun_canon (s : State) (n : Nat) (g : RunSt → RunSt) (hc : s.Canon) : (State.modRun s n g).Canon := by simp [State.modRun, hc]
@[simp] theorem State.runFetch_canon (s : State) (n b : Nat) (hc : s.Canon) : (State.runFetch s n b).Canon := by
  unfold State.runFetch
  try dsimp only
  repeat' (first
    | (with_reducible assumption)
    | intro _
    | with_reducible apply State.canon_foldl
    | with_reducible apply State.canon_foldl_snd
    | with_reducible apply State.canon_foldl_fst
    | with_reducible apply State.canon_foldl_thd
    | with_reducible apply State.Canon.mem
    | with_reducible apply State.Canon.regs
    | (simp only [State.mk_canon]; refine ⟨?_, ?_⟩)
    | with_reducible apply Tab.wf_set'
    | with_reducible apply Tab.wf_filter'
    | with_reducible apply State.domePoison_canon
    | with_reducible apply State.modRun_canon
    | with_reducible apply State.runRefused_canon
    | (refine State.vaultRead_canon (by assumption) ?_)
    | with_reducible apply State.canon_ite
    | with_reducible apply State.canon_ite2
    | with_reducible apply State.canon_ite3
    | dsimp only
    | (split <;> (try (rename_i heq; have q2 := congrArg Prod.snd heq; have q1 := congrArg Prod.fst heq; dsimp only at q1 q2; (try subst q1); first | subst q2 | (have q3 := congrArg Prod.snd q2; have q4 := congrArg Prod.fst q2; dsimp only at q3 q4; (try subst q4); subst q3)))))
@[simp] theorem State.runFetchTo_canon (s : State) (n m : Nat) (x0 : Nat) (hc : s.Canon) : (State.runFetchTo s n m x0).Canon := by
  induction x0 generalizing s n m with
  | zero =>
    unfold State.runFetchTo
    try dsimp only
    repeat' (first
      | (with_reducible assumption)
      | (split <;> (try (rename_i heq; have q2 := congrArg Prod.snd heq; have q1 := congrArg Prod.fst heq; dsimp only at q1 q2; (try subst q1); first | subst q2 | (have q3 := congrArg Prod.snd q2; have q4 := congrArg Prod.fst q2; dsimp only at q3 q4; (try subst q4); subst q3)))))
  
  | succ n ih =>
    unfold State.runFetchTo
    try dsimp only
    repeat' (first
      | (with_reducible assumption)
        | intro _
      | with_reducible apply State.canon_foldl
      | with_reducible apply State.canon_foldl_snd
      | with_reducible apply State.canon_foldl_fst
      | with_reducible apply State.canon_foldl_thd
      | with_reducible apply State.Canon.mem
      | with_reducible apply State.Canon.regs
      | (simp only [State.mk_canon]; refine ⟨?_, ?_⟩)
      | with_reducible apply Tab.wf_set'
      | with_reducible apply Tab.wf_filter'
      | with_reducible apply State.modRun_canon
      | with_reducible apply State.runFetch_canon
      | with_reducible apply ih
      | with_reducible apply State.canon_ite
      | with_reducible apply State.canon_ite2
      | with_reducible apply State.canon_ite3
      | dsimp only
      | (split <;> (try (rename_i heq; have q2 := congrArg Prod.snd heq; have q1 := congrArg Prod.fst heq; dsimp only at q1 q2; (try subst q1); first | subst q2 | (have q3 := congrArg Prod.snd q2; have q4 := congrArg Prod.fst q2; dsimp only at q3 q4; (try subst q4); subst q3)))))
  
@[simp] theorem State.runReads_canon (s : State) (n m lim : Nat) (x0 : Nat) (hc : s.Canon) : (State.runReads s n m lim x0).Canon := by
  induction x0 generalizing s n m lim with
  | zero =>
    unfold State.runReads
    try dsimp only
    repeat' (first
      | (with_reducible assumption)
        | intro _
      | with_reducible apply State.canon_foldl
      | with_reducible apply State.canon_foldl_snd
      | with_reducible apply State.canon_foldl_fst
      | with_reducible apply State.canon_foldl_thd
      | with_reducible apply State.Canon.mem
      | with_reducible apply State.Canon.regs
      | (simp only [State.mk_canon]; refine ⟨?_, ?_⟩)
      | with_reducible apply Tab.wf_set'
      | with_reducible apply Tab.wf_filter'
      | with_reducible apply State.modRun_canon
      | with_reducible apply State.runFetch_canon
      | with_reducible apply State.canon_ite
      | with_reducible apply State.canon_ite2
      | with_reducible apply State.canon_ite3
      | dsimp only
      | (split <;> (try (rename_i heq; have q2 := congrArg Prod.snd heq; have q1 := congrArg Prod.fst heq; dsimp only at q1 q2; (try subst q1); first | subst q2 | (have q3 := congrArg Prod.snd q2; have q4 := congrArg Prod.fst q2; dsimp only at q3 q4; (try subst q4); subst q3)))))
  
  | succ n ih =>
    unfold State.runReads
    try dsimp only
    repeat' (first
      | (with_reducible assumption)
        | intro _
      | with_reducible apply State.canon_foldl
      | with_reducible apply State.canon_foldl_snd
      | with_reducible apply State.canon_foldl_fst
      | with_reducible apply State.canon_foldl_thd
      | with_reducible apply State.Canon.mem
      | with_reducible apply State.Canon.regs
      | (simp only [State.mk_canon]; refine ⟨?_, ?_⟩)
      | with_reducible apply Tab.wf_set'
      | with_reducible apply Tab.wf_filter'
      | with_reducible apply State.modRun_canon
      | with_reducible apply State.runFetch_canon
      | with_reducible apply ih
      | with_reducible apply State.canon_ite
      | with_reducible apply State.canon_ite2
      | with_reducible apply State.canon_ite3
      | dsimp only
      | (split <;> (try (rename_i heq; have q2 := congrArg Prod.snd heq; have q1 := congrArg Prod.fst heq; dsimp only at q1 q2; (try subst q1); first | subst q2 | (have q3 := congrArg Prod.snd q2; have q4 := congrArg Prod.fst q2; dsimp only at q3 q4; (try subst q4); subst q3)))))
  
@[simp] theorem State.runPos_canon (s : State) (n : Nat) (hc : s.Canon) : (State.runPos s n).Canon := by
  unfold State.runPos
  try dsimp only
  repeat' (first
    | (with_reducible assumption)
    | intro _
    | with_reducible apply State.canon_foldl
    | with_reducible apply State.canon_foldl_snd
    | with_reducible apply State.canon_foldl_fst
    | with_reducible apply State.canon_foldl_thd
    | with_reducible apply State.Canon.mem
    | with_reducible apply State.Canon.regs
    | (simp only [State.mk_canon]; refine ⟨?_, ?_⟩)
    | with_reducible apply Tab.wf_set'
    | with_reducible apply Tab.wf_filter'
    | with_reducible apply State.bump_canon
    | with_reducible apply State.modDome_canon
    | with_reducible apply State.modRun_canon
    | with_reducible apply State.report_canon
    | with_reducible apply State.runRefused_canon
    | with_reducible apply State.writeOuts_canon
    | with_reducible apply State.canon_ite
    | with_reducible apply State.canon_ite2
    | with_reducible apply State.canon_ite3
    | dsimp only
    | (split <;> (try (rename_i heq; have q2 := congrArg Prod.snd heq; have q1 := congrArg Prod.fst heq; dsimp only at q1 q2; (try subst q1); first | subst q2 | (have q3 := congrArg Prod.snd q2; have q4 := congrArg Prod.fst q2; dsimp only at q3 q4; (try subst q4); subst q3)))))
@[simp] theorem State.runTo_canon (s : State) (n m : Nat) (x0 : Nat) (hc : s.Canon) : (State.runTo s n m x0).Canon := by
  induction x0 generalizing s n m with
  | zero =>
    unfold State.runTo
    try dsimp only
    repeat' (first
      | (with_reducible assumption)
      | (split <;> (try (rename_i heq; have q2 := congrArg Prod.snd heq; have q1 := congrArg Prod.fst heq; dsimp only at q1 q2; (try subst q1); first | subst q2 | (have q3 := congrArg Prod.snd q2; have q4 := congrArg Prod.fst q2; dsimp only at q3 q4; (try subst q4); subst q3)))))
  
  | succ n ih =>
    unfold State.runTo
    try dsimp only
    repeat' (first
      | (with_reducible assumption)
        | intro _
      | with_reducible apply State.canon_foldl
      | with_reducible apply State.canon_foldl_snd
      | with_reducible apply State.canon_foldl_fst
      | with_reducible apply State.canon_foldl_thd
      | with_reducible apply State.Canon.mem
      | with_reducible apply State.Canon.regs
      | (simp only [State.mk_canon]; refine ⟨?_, ?_⟩)
      | with_reducible apply Tab.wf_set'
      | with_reducible apply Tab.wf_filter'
      | with_reducible apply State.runFetchTo_canon
      | with_reducible apply State.runPos_canon
      | with_reducible apply ih
      | with_reducible apply State.canon_ite
      | with_reducible apply State.canon_ite2
      | with_reducible apply State.canon_ite3
      | dsimp only
      | (split <;> (try (rename_i heq; have q2 := congrArg Prod.snd heq; have q1 := congrArg Prod.fst heq; dsimp only at q1 q2; (try subst q1); first | subst q2 | (have q3 := congrArg Prod.snd q2; have q4 := congrArg Prod.fst q2; dsimp only at q3 q4; (try subst q4); subst q3)))))
  
@[simp] theorem State.runFinish_canon (s : State) (n : Nat) (hc : s.Canon) : (State.runFinish s n).Canon := by
  unfold State.runFinish
  try dsimp only
  repeat' (first
    | (with_reducible assumption)
    | intro _
    | with_reducible apply State.canon_foldl
    | with_reducible apply State.canon_foldl_snd
    | with_reducible apply State.canon_foldl_fst
    | with_reducible apply State.canon_foldl_thd
    | with_reducible apply State.Canon.mem
    | with_reducible apply State.Canon.regs
    | (simp only [State.mk_canon]; refine ⟨?_, ?_⟩)
    | with_reducible apply Tab.wf_set'
    | with_reducible apply Tab.wf_filter'
    | with_reducible apply State.bump_canon
    | with_reducible apply State.domeDone_canon
    | with_reducible apply State.modDome_canon
    | with_reducible apply State.walkAdvance_canon
    | with_reducible apply State.canon_ite
    | with_reducible apply State.canon_ite2
    | with_reducible apply State.canon_ite3
    | dsimp only
    | (split <;> (try (rename_i heq; have q2 := congrArg Prod.snd heq; have q1 := congrArg Prod.fst heq; dsimp only at q1 q2; (try subst q1); first | subst q2 | (have q3 := congrArg Prod.snd q2; have q4 := congrArg Prod.fst q2; dsimp only at q3 q4; (try subst q4); subst q3)))))
@[simp] theorem State.runComplete_canon (s : State) (n : Nat) (upTo : Option (Nat × Nat)) (hc : s.Canon) : (State.runComplete s n upTo).Canon := by
  unfold State.runComplete
  try dsimp only
  repeat' (first
    | (with_reducible assumption)
    | intro _
    | with_reducible apply State.canon_foldl
    | with_reducible apply State.canon_foldl_snd
    | with_reducible apply State.canon_foldl_fst
    | with_reducible apply State.canon_foldl_thd
    | with_reducible apply State.Canon.mem
    | with_reducible apply State.Canon.regs
    | (simp only [State.mk_canon]; refine ⟨?_, ?_⟩)
    | with_reducible apply Tab.wf_set'
    | with_reducible apply Tab.wf_filter'
    | with_reducible apply State.runFinish_canon
    | with_reducible apply State.runReads_canon
    | with_reducible apply State.runTo_canon
    | with_reducible apply State.canon_ite
    | with_reducible apply State.canon_ite2
    | with_reducible apply State.canon_ite3
    | dsimp only
    | (split <;> (try (rename_i heq; have q2 := congrArg Prod.snd heq; have q1 := congrArg Prod.fst heq; dsimp only at q1 q2; (try subst q1); first | subst q2 | (have q3 := congrArg Prod.snd q2; have q4 := congrArg Prod.fst q2; dsimp only at q3 q4; (try subst q4); subst q3)))))
@[simp] theorem State.closeTensor_canon (s : State) (n t : Nat) (hc : s.Canon) : (State.closeTensor s n t).1.Canon := by
  unfold State.closeTensor
  try dsimp only
  repeat' (first
    | (simp (maxDischargeDepth := 30) [*]; done)
    | intro _
    | (with_reducible first | apply State.canon_ite | apply State.canon_foldl | apply State.canon_foldl_snd | apply State.canon_foldl_fst)
    | (split <;> (try (rename_i q; obtain ⟨q1, q2⟩ := Prod.ext_iff.1 q; dsimp only at q1 q2; (try obtain ⟨q3, q4⟩ := Prod.ext_iff.1 q2); subst_vars))))
@[simp] theorem State.tickClose_canon (s : State) (n : Nat) (hc : s.Canon) : (State.tickClose s n).Canon := by
  unfold State.tickClose
  try dsimp only
  repeat' (first
    | (with_reducible assumption)
    | intro _
    | with_reducible apply State.canon_foldl
    | with_reducible apply State.canon_foldl_snd
    | with_reducible apply State.canon_foldl_fst
    | with_reducible apply State.canon_foldl_thd
    | with_reducible apply State.Canon.mem
    | with_reducible apply State.Canon.regs
    | (simp only [State.mk_canon]; refine ⟨?_, ?_⟩)
    | with_reducible apply Tab.wf_set'
    | with_reducible apply Tab.wf_filter'
    | with_reducible apply State.closeTensor_canon
    | with_reducible apply State.modDome_canon
    | with_reducible apply State.raise_canon
    | with_reducible apply State.canon_ite
    | (split <;> (try (rename_i heq; have q2 := congrArg Prod.snd heq; have q1 := congrArg Prod.fst heq; dsimp only at q1 q2; (try subst q1); first | subst q2 | (have q3 := congrArg Prod.snd q2; have q4 := congrArg Prod.fst q2; dsimp only at q3 q4; (try subst q4); subst q3)))))
@[simp] theorem State.logAppend_canon (s : State) (n : Nat) (r16 : List Byte) (hc : s.Canon) : (State.logAppend s n r16).Canon := by
  simp (maxDischargeDepth := 30) (contextual := true) [State.logAppend, hc]
@[simp] theorem State.commitScales_canon (s : State) (n : Nat) (hc : s.Canon) : (State.commitScales s n).1.Canon := by
  unfold State.commitScales
  try dsimp only
  repeat' (first
    | (simp (maxDischargeDepth := 30) [*]; done)
    | intro _
    | (with_reducible first | apply State.canon_ite | apply State.canon_foldl | apply State.canon_foldl_snd | apply State.canon_foldl_fst)
    | (split <;> (try (rename_i q; obtain ⟨q1, q2⟩ := Prod.ext_iff.1 q; dsimp only at q1 q2; (try obtain ⟨q3, q4⟩ := Prod.ext_iff.1 q2); subst_vars))))
@[simp] theorem State.commitWeights_canon (s : State) (n : Nat) (hc : s.Canon) : (State.commitWeights s n).1.Canon := by
  unfold State.commitWeights
  try dsimp only
  repeat' (first
    | (simp (maxDischargeDepth := 30) [*]; done)
    | intro _
    | (with_reducible first | apply State.canon_ite | apply State.canon_foldl | apply State.canon_foldl_snd | apply State.canon_foldl_fst)
    | (split <;> (try (rename_i q; obtain ⟨q1, q2⟩ := Prod.ext_iff.1 q; dsimp only at q1 q2; (try obtain ⟨q3, q4⟩ := Prod.ext_iff.1 q2); subst_vars))))
@[simp] theorem State.scaleCommit_canon (s : State) (n : Nat) (scales weights : Bool) (hc : s.Canon) : (State.scaleCommit s n scales weights).Canon := by
  unfold State.scaleCommit
  try dsimp only
  repeat' (first
    | (simp (maxDischargeDepth := 30) [*]; done)
    | intro _
    | (with_reducible first | apply State.canon_ite | apply State.canon_foldl | apply State.canon_foldl_snd | apply State.canon_foldl_fst)
    | (split <;> (try (rename_i q; obtain ⟨q1, q2⟩ := Prod.ext_iff.1 q; dsimp only at q1 q2; (try obtain ⟨q3, q4⟩ := Prod.ext_iff.1 q2); subst_vars))))
@[simp] theorem State.tnsCfgWrite_canon (s : State) (n t : Nat) (v : Word) (hc : s.Canon) : (State.tnsCfgWrite s n t v).Canon := by
  simp (maxDischargeDepth := 30) (contextual := true) [State.tnsCfgWrite, hc]
@[simp] theorem State.expWrite_canon (s : State) (req n t : Nat) (v : Word) (hc : s.Canon) : (State.expWrite s req n t v).Canon := by simp [State.expWrite, hc]
@[simp] theorem State.adpCtlWrite_canon (s : State) (req n : Nat) (v : Word) (hc : s.Canon) : (State.adpCtlWrite s req n v).Canon := by
  simp (maxDischargeDepth := 30) (contextual := true) [State.adpCtlWrite, hc]
@[simp] theorem State.updCtlWrite_canon (s : State) (req n : Nat) (v : Word) (hc : s.Canon) : (State.updCtlWrite s req n v).Canon := by
  simp (maxDischargeDepth := 30) (contextual := true) [State.updCtlWrite, hc]
@[simp] theorem State.updBegin_canon (s : State) (n : Nat) (hc : s.Canon) : (State.updBegin s n).Canon := by simp [State.updBegin, hc]
@[simp] theorem State.updRefused_canon (s : State) (n p : Nat) (write : Bool) (hc : s.Canon) : (State.updRefused s n p write).Canon := by
  simp (maxDischargeDepth := 30) (contextual := true) [State.updRefused, hc]
@[simp] theorem State.updFetch_canon (s : State) (n : Nat) (x0 : List Nat) (hc : s.Canon) : (State.updFetch s n x0).Canon := by
  induction x0 generalizing s n with
  | nil =>
    unfold State.updFetch
    try dsimp only
    repeat' (first
      | (with_reducible assumption)
        | intro _
      | with_reducible apply State.canon_foldl
      | with_reducible apply State.canon_foldl_snd
      | with_reducible apply State.canon_foldl_fst
      | with_reducible apply State.canon_foldl_thd
      | with_reducible apply State.Canon.mem
      | with_reducible apply State.Canon.regs
      | (simp only [State.mk_canon]; refine ⟨?_, ?_⟩)
      | with_reducible apply Tab.wf_set'
      | with_reducible apply Tab.wf_filter'
      | with_reducible apply State.modDome_canon
      | with_reducible apply State.updRefused_canon
      | (refine State.vaultRead_canon (by assumption) ?_)
      | with_reducible apply State.canon_ite
      | with_reducible apply State.canon_ite2
      | with_reducible apply State.canon_ite3
      | dsimp only
      | (split <;> (try (rename_i heq; have q2 := congrArg Prod.snd heq; have q1 := congrArg Prod.fst heq; dsimp only at q1 q2; (try subst q1); first | subst q2 | (have q3 := congrArg Prod.snd q2; have q4 := congrArg Prod.fst q2; dsimp only at q3 q4; (try subst q4); subst q3)))))
  
  | cons y l ih =>
    unfold State.updFetch
    try dsimp only
    repeat' (first
      | (with_reducible assumption)
        | intro _
      | with_reducible apply State.canon_foldl
      | with_reducible apply State.canon_foldl_snd
      | with_reducible apply State.canon_foldl_fst
      | with_reducible apply State.canon_foldl_thd
      | with_reducible apply State.Canon.mem
      | with_reducible apply State.Canon.regs
      | (simp only [State.mk_canon]; refine ⟨?_, ?_⟩)
      | with_reducible apply Tab.wf_set'
      | with_reducible apply Tab.wf_filter'
      | with_reducible apply State.modDome_canon
      | with_reducible apply State.updRefused_canon
      | (refine State.vaultRead_canon (by assumption) ?_)
      | with_reducible apply ih
      | with_reducible apply State.canon_ite
      | with_reducible apply State.canon_ite2
      | with_reducible apply State.canon_ite3
      | dsimp only
      | (split <;> (try (rename_i heq; have q2 := congrArg Prod.snd heq; have q1 := congrArg Prod.fst heq; dsimp only at q1 q2; (try subst q1); first | subst q2 | (have q3 := congrArg Prod.snd q2; have q4 := congrArg Prod.fst q2; dsimp only at q3 q4; (try subst q4); subst q3)))))
  
@[simp] theorem State.updStore_canon (s : State) (n a : Nat) (data : List Byte) (bad : List Nat) (hc : s.Canon) : (State.updStore s n a data bad).2.Canon := by
  unfold State.updStore
  try dsimp only
  repeat' (first
    | (simp (maxDischargeDepth := 30) [*]; done)
    | intro _
    | (with_reducible first | apply State.canon_ite | apply State.canon_foldl | apply State.canon_foldl_snd | apply State.canon_foldl_fst)
    | (split <;> (try (rename_i q; obtain ⟨q1, q2⟩ := Prod.ext_iff.1 q; dsimp only at q1 q2; (try obtain ⟨q3, q4⟩ := Prod.ext_iff.1 q2); subst_vars))))
@[simp] theorem State.updStores_canon (s : State) (n : Nat) (x0 : List (Nat × List Byte × List Nat)) (hc : s.Canon) : (State.updStores s n x0).2.Canon := by
  induction x0 generalizing s n with
  | nil =>
    unfold State.updStores
    try dsimp only
    repeat' (first
      | (with_reducible assumption)
      | (split <;> (try (rename_i heq; have q2 := congrArg Prod.snd heq; have q1 := congrArg Prod.fst heq; dsimp only at q1 q2; (try subst q1); first | subst q2 | (have q3 := congrArg Prod.snd q2; have q4 := congrArg Prod.fst q2; dsimp only at q3 q4; (try subst q4); subst q3)))))
  
  | cons y l ih =>
    unfold State.updStores
    try dsimp only
    repeat' (first
      | (with_reducible assumption)
        | intro _
      | with_reducible apply State.canon_foldl
      | with_reducible apply State.canon_foldl_snd
      | with_reducible apply State.canon_foldl_fst
      | with_reducible apply State.canon_foldl_thd
      | with_reducible apply State.Canon.mem
      | with_reducible apply State.Canon.regs
      | (simp only [State.mk_canon]; refine ⟨?_, ?_⟩)
      | with_reducible apply Tab.wf_set'
      | with_reducible apply Tab.wf_filter'
      | with_reducible apply State.updStore_canon
      | with_reducible apply ih
      | with_reducible apply State.canon_ite
      | with_reducible apply State.canon_ite2
      | with_reducible apply State.canon_ite3
      | dsimp only
      | (split <;> (try (rename_i heq; have q2 := congrArg Prod.snd heq; have q1 := congrArg Prod.fst heq; dsimp only at q1 q2; (try subst q1); first | subst q2 | (have q3 := congrArg Prod.snd q2; have q4 := congrArg Prod.fst q2; dsimp only at q3 q4; (try subst q4); subst q3)))))
  
@[simp] theorem State.updFinish_canon (t : State) (n : Nat) (hc : t.Canon) : (State.updFinish t n).Canon := by
  unfold State.updFinish
  try dsimp only
  repeat' (first
    | (with_reducible assumption)
    | intro _
    | with_reducible apply State.canon_foldl
    | with_reducible apply State.canon_foldl_snd
    | with_reducible apply State.canon_foldl_fst
    | with_reducible apply State.canon_foldl_thd
    | with_reducible apply State.Canon.mem
    | with_reducible apply State.Canon.regs
    | (simp only [State.mk_canon]; refine ⟨?_, ?_⟩)
    | with_reducible apply Tab.wf_set'
    | with_reducible apply Tab.wf_filter'
    | with_reducible apply State.bump_canon
    | with_reducible apply State.err_canon
    | with_reducible apply State.evtAdd_canon
    | with_reducible apply State.modDome_canon
    | with_reducible apply State.raise_canon
    | with_reducible apply State.updRefused_canon
    | with_reducible apply State.updStores_canon
    | with_reducible apply State.canon_ite
    | with_reducible apply State.canon_ite2
    | with_reducible apply State.canon_ite3
    | dsimp only
    | (split <;> (try (rename_i heq; have q2 := congrArg Prod.snd heq; have q1 := congrArg Prod.fst heq; dsimp only at q1 q2; (try subst q1); first | subst q2 | (have q3 := congrArg Prod.snd q2; have q4 := congrArg Prod.fst q2; dsimp only at q3 q4; (try subst q4); subst q3)))))
@[simp] theorem State.updDone_canon (s : State) (n : Nat) (upTo : Option Nat) (hc : s.Canon) : (State.updDone s n upTo).Canon := by
  simp (maxDischargeDepth := 30) (contextual := true) [State.updDone, hc]
@[simp] theorem State.scalesWarm_canon (s : State) (n : Nat) (hc : s.Canon) : (State.scalesWarm s n).Canon := by
  simp (maxDischargeDepth := 30) (contextual := true) [State.scalesWarm, hc]
@[simp] theorem State.wregWrite_canon (s : State) (req n r a : Nat) (v : Word) (hc : s.Canon) : (State.wregWrite s req n r a v).Canon := by simp [State.wregWrite, hc]
@[simp] theorem State.updRegWrite_canon (s : State) (req n a : Nat) (m v : Word) (hc : s.Canon) : (State.updRegWrite s req n a m v).Canon := by
  simp (maxDischargeDepth := 30) (contextual := true) [State.updRegWrite, hc]
@[simp] theorem State.modPort_canon (s : State) (p : Nat) (f : Port → Port) (hc : s.Canon) : (State.modPort s p f).Canon := by simp [State.modPort, hc]
@[simp] theorem State.setPch_canon (s : State) (p v : Nat) (c : PortCh) (hc : s.Canon) : (State.setPch s p v c).Canon := by simp [State.setPch, hc]
@[simp] theorem State.portArm_canon (s : State) (p e : Nat) (hc : s.Canon) : (State.portArm s p e).Canon := by
  simp (maxDischargeDepth := 30) (contextual := true) [State.portArm, hc]
@[simp] theorem State.stripeDone_canon (s : State) (p v : Nat) (hc : s.Canon) : (State.stripeDone s p v).Canon := by
  unfold State.stripeDone
  try dsimp only
  repeat' (first
    | (simp (maxDischargeDepth := 30) [*]; done)
    | intro _
    | (with_reducible first | apply State.canon_ite | apply State.canon_foldl | apply State.canon_foldl_snd | apply State.canon_foldl_fst)
    | (split <;> (try (rename_i q; obtain ⟨q1, q2⟩ := Prod.ext_iff.1 q; dsimp only at q1 q2; (try obtain ⟨q3, q4⟩ := Prod.ext_iff.1 q2); subst_vars))))
@[simp] theorem State.landingWrite_canon (s : State) (p : Nat) (hc : s.Canon) : (State.landingWrite s p).Canon := by
  unfold State.landingWrite
  try dsimp only
  repeat' (first
    | (simp (maxDischargeDepth := 30) [*]; done)
    | intro _
    | (with_reducible first | apply State.canon_ite | apply State.canon_foldl | apply State.canon_foldl_snd | apply State.canon_foldl_fst)
    | (split <;> (try (rename_i q; obtain ⟨q1, q2⟩ := Prod.ext_iff.1 q; dsimp only at q1 q2; (try obtain ⟨q3, q4⟩ := Prod.ext_iff.1 q2); subst_vars))))
@[simp] theorem State.landingFlush_canon (s : State) (p : Nat) (x0 : Nat) (hc : s.Canon) : (State.landingFlush s p x0).Canon := by
  induction x0 generalizing s p with
  | zero =>
    unfold State.landingFlush
    try dsimp only
    repeat' (first
      | (with_reducible assumption)
      | (split <;> (try (rename_i heq; have q2 := congrArg Prod.snd heq; have q1 := congrArg Prod.fst heq; dsimp only at q1 q2; (try subst q1); first | subst q2 | (have q3 := congrArg Prod.snd q2; have q4 := congrArg Prod.fst q2; dsimp only at q3 q4; (try subst q4); subst q3)))))
  
  | succ n ih =>
    unfold State.landingFlush
    try dsimp only
    repeat' (first
      | (with_reducible assumption)
        | intro _
      | with_reducible apply State.canon_foldl
      | with_reducible apply State.canon_foldl_snd
      | with_reducible apply State.canon_foldl_fst
      | with_reducible apply State.canon_foldl_thd
      | with_reducible apply State.Canon.mem
      | with_reducible apply State.Canon.regs
      | (simp only [State.mk_canon]; refine ⟨?_, ?_⟩)
      | with_reducible apply Tab.wf_set'
      | with_reducible apply Tab.wf_filter'
      | with_reducible apply State.landingWrite_canon
      | with_reducible apply ih
      | (split <;> (try (rename_i heq; have q2 := congrArg Prod.snd heq; have q1 := congrArg Prod.fst heq; dsimp only at q1 q2; (try subst q1); first | subst q2 | (have q3 := congrArg Prod.snd q2; have q4 := congrArg Prod.fst q2; dsimp only at q3 q4; (try subst q4); subst q3)))))
  
@[simp] theorem State.spHdr_canon (s : State) (p : Nat) (corrected : Bool) (hc : s.Canon) : (State.spHdr s p corrected).Canon := by
  simp (maxDischargeDepth := 30) (contextual := true) [State.spHdr, hc]
@[simp] theorem State.spFault_canon (s : State) (p v a code bit detail : Nat) (hc : s.Canon) : (State.spFault s p v a code bit detail).Canon := by
  simp (maxDischargeDepth := 30) (contextual := true) [State.spFault, hc]
@[simp] theorem State.spLine_canon (s : State) (p v : Nat) (payload : List Byte) (crcOk : Bool) (hc : s.Canon) : (State.spLine s p v payload crcOk).Canon := by
  unfold State.spLine
  try dsimp only
  repeat' (first
    | (simp (maxDischargeDepth := 30) [*]; done)
    | intro _
    | (with_reducible first | apply State.canon_ite | apply State.canon_foldl | apply State.canon_foldl_snd | apply State.canon_foldl_fst)
    | (split <;> (try (rename_i q; obtain ⟨q1, q2⟩ := Prod.ext_iff.1 q; dsimp only at q1 q2; (try obtain ⟨q3, q4⟩ := Prod.ext_iff.1 q2); subst_vars))))
@[simp] theorem State.spStop_canon (s : State) (p : Nat) (hc : s.Canon) : (State.spStop s p).Canon := by simp [State.spStop, hc]
@[simp] theorem State.longPacket_canon (s : State) (p v dt : Nat) (payload : List Byte) (crcOk corrected : Bool) (hc : s.Canon) : (State.longPacket s p v dt payload crcOk corrected).Canon := by
  simp (maxDischargeDepth := 30) (contextual := true) [State.longPacket, hc]
@[simp] theorem State.frameStart_canon (s : State) (p v : Nat) (corrected : Bool) (hc : s.Canon) : (State.frameStart s p v corrected).Canon := by
  simp (maxDischargeDepth := 30) (contextual := true) [State.frameStart, hc]
@[simp] theorem State.headerLost_canon (s : State) (p : Nat) (hc : s.Canon) : (State.headerLost s p).Canon := by
  simp (maxDischargeDepth := 30) (contextual := true) [State.headerLost, hc]
@[simp] theorem State.linkEvent_canon (s : State) (p : Nat) (e : LinkEv) (hc : s.Canon) : (State.linkEvent s p e).Canon := by
  unfold State.linkEvent
  try dsimp only
  repeat' (first
    | (simp (maxDischargeDepth := 30) [*]; done)
    | intro _
    | (with_reducible first | apply State.canon_ite | apply State.canon_foldl | apply State.canon_foldl_snd | apply State.canon_foldl_fst)
    | (split <;> (try (rename_i q; obtain ⟨q1, q2⟩ := Prod.ext_iff.1 q; dsimp only at q1 q2; (try obtain ⟨q3, q4⟩ := Prod.ext_iff.1 q2); subst_vars))))
@[simp] theorem State.deskew_canon (s : State) (p : Nat) (hc : s.Canon) : (State.deskew s p).Canon := by simp [State.deskew, hc]
@[simp] theorem State.portAbandon_canon (s : State) (p : Nat) (hc : s.Canon) : (State.portAbandon s p).Canon := by simp [State.portAbandon, hc]
@[simp] theorem State.portEn_canon (s : State) (p : Nat) (en : Bool) (hc : s.Canon) : (State.portEn s p en).Canon := by
  simp (maxDischargeDepth := 30) (contextual := true) [State.portEn, hc]
@[simp] theorem State.spField_canon (s : State) (req p a : Nat) (hc : s.Canon) : (State.spField s req p a).Canon := by simp [State.spField, hc]
@[simp] theorem State.spBusyErr_canon (s : State) (req p a : Nat) (hc : s.Canon) : (State.spBusyErr s req p a).Canon := by simp [State.spBusyErr, hc]
@[simp] theorem State.spCfgWrite_canon (s : State) (req p : Nat) (v : Word) (hc : s.Canon) : (State.spCfgWrite s req p v).Canon := by
  simp (maxDischargeDepth := 30) (contextual := true) [State.spCfgWrite, hc]
@[simp] theorem State.spLineWrite_canon (s : State) (req p : Nat) (v : Word) (hc : s.Canon) : (State.spLineWrite s req p v).Canon := by
  simp (maxDischargeDepth := 30) (contextual := true) [State.spLineWrite, hc]
@[simp] theorem State.spGridWrite_canon (s : State) (req p : Nat) (v : Word) (hc : s.Canon) : (State.spGridWrite s req p v).Canon := by simp [State.spGridWrite, hc]
@[simp] theorem State.spTrigWrite_canon (s : State) (req p : Nat) (v : Word) (hc : s.Canon) : (State.spTrigWrite s req p v).Canon := by simp [State.spTrigWrite, hc]
@[simp] theorem State.tblDataWrite_canon (s : State) (req p : Nat) (v : Word) (hc : s.Canon) : (State.tblDataWrite s req p v).Canon := by
  simp (maxDischargeDepth := 30) (contextual := true) [State.tblDataWrite, hc]
@[simp] theorem State.tblDataRead_canon (s : State) (p : Nat) (hc : s.Canon) : (State.tblDataRead s p).2.Canon := by simp [State.tblDataRead, hc]
@[simp] theorem State.triggerPulse_canon (s : State) (p : Nat) (hc : s.Canon) : (State.triggerPulse s p).Canon := by
  unfold State.triggerPulse
  try dsimp only
  repeat' (first
    | (simp (maxDischargeDepth := 30) [*]; done)
    | intro _
    | (with_reducible first | apply State.canon_ite | apply State.canon_foldl | apply State.canon_foldl_snd | apply State.canon_foldl_fst)
    | (split <;> (try (rename_i q; obtain ⟨q1, q2⟩ := Prod.ext_iff.1 q; dsimp only at q1 q2; (try obtain ⟨q3, q4⟩ := Prod.ext_iff.1 q2); subst_vars))))
@[simp] theorem State.i2cCmd_canon (s : State) (req p : Nat) (v : Word) (hc : s.Canon) : (State.i2cCmd s req p v).Canon := by
  simp (maxDischargeDepth := 30) (contextual := true) [State.i2cCmd, hc]
@[simp] theorem State.i2cTx_canon (s : State) (req p : Nat) (v : Word) (hc : s.Canon) : (State.i2cTx s req p v).Canon := by simp [State.i2cTx, hc]
@[simp] theorem State.i2cEnd_canon (s : State) (p : Nat) (e : I2cEnd) (hc : s.Canon) : (State.i2cEnd s p e).Canon := by
  unfold State.i2cEnd
  try dsimp only
  repeat' (first
    | (simp (maxDischargeDepth := 30) [*]; done)
    | intro _
    | (with_reducible first | apply State.canon_ite | apply State.canon_foldl | apply State.canon_foldl_snd | apply State.canon_foldl_fst)
    | (split <;> (try (rename_i q; obtain ⟨q1, q2⟩ := Prod.ext_iff.1 q; dsimp only at q1 q2; (try obtain ⟨q3, q4⟩ := Prod.ext_iff.1 q2); subst_vars))))
@[simp] theorem State.spiCtl_canon (s : State) (p : Nat) (v : Word) (hc : s.Canon) : (State.spiCtl s p v).Canon := by
  simp (maxDischargeDepth := 30) (contextual := true) [State.spiCtl, hc]
@[simp] theorem State.spiEnd_canon (s : State) (p : Nat) (rx : Word) (hc : s.Canon) : (State.spiEnd s p rx).Canon := by
  simp (maxDischargeDepth := 30) (contextual := true) [State.spiEnd, hc]
@[simp] theorem State.portReset_canon (s : State) (p : Nat) (hc : s.Canon) : (State.portReset s p).Canon := by simp [State.portReset, hc]
@[simp] theorem State.modLnk_canon (s : State) (a : Nat) (f : Link → Link) (hc : s.Canon) : (State.modLnk s a f).Canon := by simp [State.modLnk, hc]
@[simp] theorem State.emit_canon (s : State) (a : Nat) (f : Flit) (hc : s.Canon) : (State.emit s a f).Canon := by simp [State.emit, hc]
@[simp] theorem State.sendMsg_canon (s : State) (a : Nat) (fs : List Flit) (hc : s.Canon) : (State.sendMsg s a fs).Canon := by
  simp (maxDischargeDepth := 30) (contextual := true) [State.sendMsg, hc]
@[simp] theorem State.pump_canon (s : State) (a : Nat) (x0 : Nat) (hc : s.Canon) : (State.pump s a x0).Canon := by
  induction x0 generalizing s a with
  | zero =>
    unfold State.pump
    try dsimp only
    repeat' (first
      | (with_reducible assumption)
      | (split <;> (try (rename_i heq; have q2 := congrArg Prod.snd heq; have q1 := congrArg Prod.fst heq; dsimp only at q1 q2; (try subst q1); first | subst q2 | (have q3 := congrArg Prod.snd q2; have q4 := congrArg Prod.fst q2; dsimp only at q3 q4; (try subst q4); subst q3)))))
  
  | succ n ih =>
    unfold State.pump
    try dsimp only
    repeat' (first
      | (with_reducible assumption)
        | intro _
      | with_reducible apply State.canon_foldl
      | with_reducible apply State.canon_foldl_snd
      | with_reducible apply State.canon_foldl_fst
      | with_reducible apply State.canon_foldl_thd
      | with_reducible apply State.Canon.mem
      | with_reducible apply State.Canon.regs
      | (simp only [State.mk_canon]; refine ⟨?_, ?_⟩)
      | with_reducible apply Tab.wf_set'
      | with_reducible apply Tab.wf_filter'
      | with_reducible apply State.modLnk_canon
      | with_reducible apply State.sendMsg_canon
      | with_reducible apply ih
      | with_reducible apply State.canon_ite
      | with_reducible apply State.canon_ite2
      | with_reducible apply State.canon_ite3
      | dsimp only
      | (split <;> (try (rename_i heq; have q2 := congrArg Prod.snd heq; have q1 := congrArg Prod.fst heq; dsimp only at q1 q2; (try subst q1); first | subst q2 | (have q3 := congrArg Prod.snd q2; have q4 := congrArg Prod.fst q2; dsimp only at q3 q4; (try subst q4); subst q3)))))
  
@[simp] theorem State.pumpAll_canon (s : State) (a : Nat) (hc : s.Canon) : (State.pumpAll s a).Canon := by simp [State.pumpAll, hc]
@[simp] theorem State.sendLctl_canon (s : State) (a : Nat) (nak : Bool) (hc : s.Canon) : (State.sendLctl s a nak).Canon := by
  simp (maxDischargeDepth := 30) (contextual := true) [State.sendLctl, hc]
@[simp] theorem State.freed_canon (s : State) (a w r y : Nat) (hc : s.Canon) : (State.freed s a w r y).Canon := by simp [State.freed, hc]
@[simp] theorem State.setRd_canon (s : State) (a c : Nat) (r : Rdma) (hc : s.Canon) : (State.setRd s a c r).Canon := by simp [State.setRd, hc]
@[simp] theorem State.rdErr_canon (s : State) (a c detail : Nat) (req : Nat) (hc : s.Canon) : (State.rdErr s a c detail req).Canon := by simp [State.rdErr, hc]
@[simp] theorem State.rdEnd_canon (s : State) (a c r : Nat) (hc : s.Canon) : (State.rdEnd s a c r).Canon := by
  simp (maxDischargeDepth := 30) (contextual := true) [State.rdEnd, hc]
@[simp] theorem State.rdSettle_canon (s : State) (a c : Nat) (hc : s.Canon) : (State.rdSettle s a c).Canon := by
  unfold State.rdSettle
  try dsimp only
  repeat' (first
    | (simp (maxDischargeDepth := 30) [*]; done)
    | intro _
    | (with_reducible first | apply State.canon_ite | apply State.canon_foldl | apply State.canon_foldl_snd | apply State.canon_foldl_fst)
    | (split <;> (try (rename_i q; obtain ⟨q1, q2⟩ := Prod.ext_iff.1 q; dsimp only at q1 q2; (try obtain ⟨q3, q4⟩ := Prod.ext_iff.1 q2); subst_vars))))
@[simp] theorem State.rdBack_canon (s : State) (a c n : Nat) (hc : s.Canon) : (State.rdBack s a c n).Canon := by simp [State.rdBack, hc]
@[simp] theorem State.rdEarly_canon (s : State) (a c k : Nat) (hc : s.Canon) : (State.rdEarly s a c k).Canon := by
  simp (maxDischargeDepth := 30) (contextual := true) [State.rdEarly, hc]
@[simp] theorem State.trainAt_canon (s : State) (a k : Nat) (hc : s.Canon) : (State.trainAt s a k).Canon := by simp [State.trainAt, hc]
@[simp] theorem State.linkDown_canon (s : State) (a good : Nat) (capture : Bool) (hc : s.Canon) : (State.linkDown s a good capture).Canon := by
  simp (maxDischargeDepth := 30) (contextual := true) [State.linkDown, hc]
@[simp] theorem State.trainFrom_canon (s : State) (a k : Nat) (hc : s.Canon) : (State.trainFrom s a k).Canon := by
  simp (maxDischargeDepth := 30) (contextual := true) [State.trainFrom, hc]
@[simp] theorem State.retrain_canon (s : State) (a : Nat) (hc : s.Canon) : (State.retrain s a).Canon := by simp [State.retrain, hc]
@[simp] theorem State.startTrain_canon (s : State) (a : Nat) (hc : s.Canon) : (State.startTrain s a).Canon := by
  simp (maxDischargeDepth := 30) (contextual := true) [State.startTrain, hc]
@[simp] theorem State.axlCtl_canon (s : State) (a : Nat) (v : Word) (hc : s.Canon) : (State.axlCtl s a v).Canon := by
  simp (maxDischargeDepth := 30) (contextual := true) [State.axlCtl, hc]
@[simp] theorem State.axlEn_canon (s : State) (a : Nat) (en : Bool) (hc : s.Canon) : (State.axlEn s a en).Canon := by
  simp (maxDischargeDepth := 30) (contextual := true) [State.axlEn, hc]
@[simp] theorem State.replayAll_canon (s : State) (a : Nat) (hc : s.Canon) : (State.replayAll s a).Canon := by
  unfold State.replayAll
  try dsimp only
  repeat' (first
    | (simp (maxDischargeDepth := 30) [*]; done)
    | intro _
    | (with_reducible first | apply State.canon_ite | apply State.canon_foldl | apply State.canon_foldl_snd | apply State.canon_foldl_fst)
    | (split <;> (try (rename_i q; obtain ⟨q1, q2⟩ := Prod.ext_iff.1 q; dsimp only at q1 q2; (try obtain ⟨q3, q4⟩ := Prod.ext_iff.1 q2); subst_vars))))
@[simp] theorem State.trained_canon (s : State) (a : Nat) (far : Byte) (p : LinkPeer) (hc : s.Canon) : (State.trained s a far p).Canon := by
  unfold State.trained
  try dsimp only
  repeat' (first
    | (with_reducible assumption)
    | intro _
    | with_reducible apply State.canon_foldl
    | with_reducible apply State.canon_foldl_snd
    | with_reducible apply State.canon_foldl_fst
    | with_reducible apply State.canon_foldl_thd
    | with_reducible apply State.Canon.mem
    | with_reducible apply State.Canon.regs
    | (simp only [State.mk_canon]; refine ⟨?_, ?_⟩)
    | with_reducible apply Tab.wf_set'
    | with_reducible apply Tab.wf_filter'
    | with_reducible apply State.bump_canon
    | with_reducible apply State.err_canon
    | with_reducible apply State.linkDown_canon
    | with_reducible apply State.modLnk_canon
    | with_reducible apply State.pumpAll_canon
    | with_reducible apply State.raise_canon
    | with_reducible apply State.replayAll_canon
    | with_reducible apply State.setReg_canon
    | with_reducible apply State.canon_ite
    | with_reducible apply State.canon_ite2
    | with_reducible apply State.canon_ite3
    | dsimp only
    | (split <;> (try (rename_i heq; have q2 := congrArg Prod.snd heq; have q1 := congrArg Prod.fst heq; dsimp only at q1 q2; (try subst q1); first | subst q2 | (have q3 := congrArg Prod.snd q2; have q4 := congrArg Prod.fst q2; dsimp only at q3 q4; (try subst q4); subst q3)))))
@[simp] theorem State.trainStep_canon (s : State) (a k : Nat) (good inverted : Byte) (hc : s.Canon) : (State.trainStep s a k good inverted).Canon := by
  simp (maxDischargeDepth := 30) (contextual := true) [State.trainStep, hc]
@[simp] theorem State.trainFail_canon (s : State) (a good : Nat) (hc : s.Canon) : (State.trainFail s a good).Canon := by simp [State.trainFail, hc]
@[simp] theorem State.badMsg_canon (s : State) (a mt : Nat) (hc : s.Canon) : (State.badMsg s a mt).Canon := by simp [State.badMsg, hc]
@[simp] theorem State.dropPart_canon (s : State) (a : Nat) (hc : s.Canon) : (State.dropPart s a).Canon := by
  unfold State.dropPart
  try dsimp only
  repeat' (first
    | (simp (maxDischargeDepth := 30) [*]; done)
    | intro _
    | (with_reducible first | apply State.canon_ite | apply State.canon_foldl | apply State.canon_foldl_snd | apply State.canon_foldl_fst)
    | (split <;> (try (rename_i q; obtain ⟨q1, q2⟩ := Prod.ext_iff.1 q; dsimp only at q1 q2; (try obtain ⟨q3, q4⟩ := Prod.ext_iff.1 q2); subst_vars))))
@[simp] theorem State.takeHdr_canon (s : State) (a : Nat) (f : BitVec 256) (hc : s.Canon) : (State.takeHdr s a f).Canon := by
  simp (maxDischargeDepth := 30) (contextual := true) [State.takeHdr, hc]
@[simp] theorem State.takeData_canon (s : State) (a : Nat) (f : BitVec 256) (pois : BitVec 28) (hc : s.Canon) : (State.takeData s a f pois).Canon := by
  unfold State.takeData
  try dsimp only
  repeat' (first
    | (simp (maxDischargeDepth := 30) [*]; done)
    | intro _
    | (with_reducible first | apply State.canon_ite | apply State.canon_foldl | apply State.canon_foldl_snd | apply State.canon_foldl_fst)
    | (split <;> (try (rename_i q; obtain ⟨q1, q2⟩ := Prod.ext_iff.1 q; dsimp only at q1 q2; (try obtain ⟨q3, q4⟩ := Prod.ext_iff.1 q2); subst_vars))))
@[simp] theorem State.nakFlit_canon (s : State) (a : Nat) (hc : s.Canon) : (State.nakFlit s a).Canon := by
  simp (maxDischargeDepth := 30) (contextual := true) [State.nakFlit, hc]
@[simp] theorem State.seqFlit_canon (s : State) (a : Nat) (f : BitVec 256) (pois : BitVec 28) (hc : s.Canon) : (State.seqFlit s a f pois).Canon := by
  simp (maxDischargeDepth := 30) (contextual := true) [State.seqFlit, hc]
@[simp] theorem State.lctl_canon (s : State) (a : Nat) (f : BitVec 256) (hc : s.Canon) : (State.lctl s a f).Canon := by
  simp (maxDischargeDepth := 30) (contextual := true) [State.lctl, hc]
@[simp] theorem State.replayTimeout_canon (s : State) (a : Nat) (hc : s.Canon) : (State.replayTimeout s a).Canon := by simp [State.replayTimeout, hc]
@[simp] theorem State.winCtl_canon (s : State) (req a w : Nat) (v : Word) (hc : s.Canon) : (State.winCtl s req a w v).Canon := by
  simp (maxDischargeDepth := 30) (contextual := true) [State.winCtl, hc]
@[simp] theorem State.winField_canon (s : State) (req a w r : Nat) (v : Word) (hc : s.Canon) : (State.winField s req a w r v).Canon := by simp [State.winField, hc]
@[simp] theorem State.sendWack_canon (s : State) (a tag status : Nat) (hc : s.Canon) : (State.sendWack s a tag status).Canon := by simp [State.sendWack, hc]
@[simp] theorem State.rwrCut_canon (s : State) (a : Nat) (m : RwrMsg) (dst : Nat) (hc : s.Canon) : (State.rwrCut s a m dst).Canon := by
  simp (maxDischargeDepth := 30) (contextual := true) [State.rwrCut, hc]
@[simp] theorem State.rwrReject_canon (s : State) (a : Nat) (m : RwrMsg) (rest : List RwrMsg) (r : Nat) (hc : s.Canon) : (State.rwrReject s a m rest r).Canon := by
  simp (maxDischargeDepth := 30) (contextual := true) [State.rwrReject, hc]
@[simp] theorem State.rwr_canon (s : State) (a : Nat) (hc : s.Canon) : (State.rwr s a).Canon := by
  unfold State.rwr
  try dsimp only
  repeat' (first
    | (with_reducible assumption)
    | intro _
    | with_reducible apply State.canon_foldl
    | with_reducible apply State.canon_foldl_snd
    | with_reducible apply State.canon_foldl_fst
    | with_reducible apply State.canon_foldl_thd
    | with_reducible apply State.Canon.mem
    | with_reducible apply State.Canon.regs
    | (simp only [State.mk_canon]; refine ⟨?_, ?_⟩)
    | with_reducible apply Tab.wf_set'
    | with_reducible apply Tab.wf_filter'
    | with_reducible apply State.freed_canon
    | with_reducible apply State.modLnk_canon
    | with_reducible apply State.rwrCut_canon
    | with_reducible apply State.rwrReject_canon
    | with_reducible apply State.canon_ite
    | with_reducible apply State.canon_ite2
    | with_reducible apply State.canon_ite3
    | dsimp only
    | (split <;> (try (rename_i heq; have q2 := congrArg Prod.snd heq; have q1 := congrArg Prod.fst heq; dsimp only at q1 q2; (try subst q1); first | subst q2 | (have q3 := congrArg Prod.snd q2; have q4 := congrArg Prod.fst q2; dsimp only at q3 q4; (try subst q4); subst q3)))))
@[simp] theorem State.rwrAck_canon (s : State) (a key : Nat) (hc : s.Canon) : (State.rwrAck s a key).Canon := by
  unfold State.rwrAck
  try dsimp only
  repeat' (first
    | (simp (maxDischargeDepth := 30) [*]; done)
    | intro _
    | (with_reducible first | apply State.canon_ite | apply State.canon_foldl | apply State.canon_foldl_snd | apply State.canon_foldl_fst)
    | (split <;> (try (rename_i q; obtain ⟨q1, q2⟩ := Prod.ext_iff.1 q; dsimp only at q1 q2; (try obtain ⟨q3, q4⟩ := Prod.ext_iff.1 q2); subst_vars))))
@[simp] theorem State.rdRefuse_canon (s : State) (req a c r : Nat) (hc : s.Canon) : (State.rdRefuse s req a c r).Canon := by
  simp (maxDischargeDepth := 30) (contextual := true) [State.rdRefuse, hc]
@[simp] theorem State.rdStart_canon (s : State) (req a c : Nat) (v : Word) (hc : s.Canon) : (State.rdStart s req a c v).Canon := by
  simp (maxDischargeDepth := 30) (contextual := true) [State.rdStart, hc]
@[simp] theorem State.rdCtl_canon (s : State) (req a c : Nat) (v : Word) (hc : s.Canon) : (State.rdCtl s req a c v).Canon := by
  simp (maxDischargeDepth := 30) (contextual := true) [State.rdCtl, hc]
@[simp] theorem State.rdField_canon (s : State) (req a c r : Nat) (v : Word) (hc : s.Canon) : (State.rdField s req a c r v).Canon := by simp [State.rdField, hc]
@[simp] theorem State.rdPiece_canon (s : State) (a c : Nat) (hc : s.Canon) : (State.rdPiece s a c).Canon := by
  unfold State.rdPiece
  try dsimp only
  repeat' (first
    | (simp (maxDischargeDepth := 30) [*]; done)
    | intro _
    | (with_reducible first | apply State.canon_ite | apply State.canon_foldl | apply State.canon_foldl_snd | apply State.canon_foldl_fst)
    | (split <;> (try (rename_i q; obtain ⟨q1, q2⟩ := Prod.ext_iff.1 q; dsimp only at q1 q2; (try obtain ⟨q3, q4⟩ := Prod.ext_iff.1 q2); subst_vars))))
@[simp] theorem State.rdData_canon (s : State) (a c key : Nat) (addr : Nat) (data : List Byte) (pois : List Nat) (off : Bool) (hc : s.Canon) : (State.rdData s a c key addr data pois off).Canon := by simp [State.rdData, hc]
@[simp] theorem State.wack_canon (s : State) (a : Nat) (hc : s.Canon) : (State.wack s a).Canon := by
  unfold State.wack
  try dsimp only
  repeat' (first
    | (simp (maxDischargeDepth := 30) [*]; done)
    | intro _
    | (with_reducible first | apply State.canon_ite | apply State.canon_foldl | apply State.canon_foldl_snd | apply State.canon_foldl_fst)
    | (split <;> (try (rename_i q; obtain ⟨q1, q2⟩ := Prod.ext_iff.1 q; dsimp only at q1 q2; (try obtain ⟨q3, q4⟩ := Prod.ext_iff.1 q2); subst_vars))))
@[simp] theorem State.linkTicks_canon (s : State) (hc : s.Canon) : (State.linkTicks s).Canon := by
  simp (maxDischargeDepth := 30) (contextual := true) [State.linkTicks, hc]
@[simp] theorem State.tickMessage_canon (s : State) (a : Nat) (hc : s.Canon) : (State.tickMessage s a).Canon := by
  unfold State.tickMessage
  try dsimp only
  repeat' (first
    | (simp (maxDischargeDepth := 30) [*]; done)
    | intro _
    | (with_reducible first | apply State.canon_ite | apply State.canon_foldl | apply State.canon_foldl_snd | apply State.canon_foldl_fst)
    | (split <;> (try (rename_i q; obtain ⟨q1, q2⟩ := Prod.ext_iff.1 q; dsimp only at q1 q2; (try obtain ⟨q3, q4⟩ := Prod.ext_iff.1 q2); subst_vars))))
@[simp] theorem State.timeProbe_canon (s : State) (a : Nat) (hc : s.Canon) : (State.timeProbe s a).Canon := by
  simp (maxDischargeDepth := 30) (contextual := true) [State.timeProbe, hc]
@[simp] theorem State.probeAnswer_canon (s : State) (a : Nat) (f : BitVec 256) (hc : s.Canon) : (State.probeAnswer s a f).Canon := by
  simp (maxDischargeDepth := 30) (contextual := true) [State.probeAnswer, hc]
@[simp] theorem State.answer_canon (s : State) (a : Nat) (f : BitVec 256) (hc : s.Canon) : (State.answer s a f).Canon := by
  unfold State.answer
  try dsimp only
  repeat' (first
    | (simp (maxDischargeDepth := 30) [*]; done)
    | (split <;> (try (rename_i q; obtain ⟨q1, q2⟩ := Prod.ext_iff.1 q; dsimp only at q1 q2; (try obtain ⟨q3, q4⟩ := Prod.ext_iff.1 q2); subst_vars))))
@[simp] theorem State.axlMap_canon (s : State) (a : Nat) (hc : s.Canon) : (State.axlMap s a).Canon := by
  simp (maxDischargeDepth := 30) (contextual := true) [State.axlMap, hc]
@[simp] theorem State.axlWarm_canon (s : State) (a : Nat) (hc : s.Canon) : (State.axlWarm s a).Canon := by
  simp (maxDischargeDepth := 30) (contextual := true) [State.axlWarm, hc]
@[simp] theorem State.setCore_canon (s : State) (n : Nat) (c : Core) (hc : s.Canon) : (State.setCore s n c).Canon := by simp [State.setCore, hc]
@[simp] theorem State.modCore_canon (s : State) (n : Nat) (f : Core → Core) (hc : s.Canon) : (State.modCore s n f).Canon := by simp [State.modCore, hc]
@[simp] theorem State.cpEnter_canon (s : State) (n src : Nat) (pc : Word) (idle : Bool) (hc : s.Canon) : (State.cpEnter s n src pc idle).Canon := by simp [State.cpEnter, hc]
@[simp] theorem State.cpNmiEnter_canon (s : State) (n : Nat) (pc : Word) (idle : Bool) (hc : s.Canon) : (State.cpNmiEnter s n pc idle).Canon := by
  simp (maxDischargeDepth := 30) (contextual := true) [State.cpNmiEnter, hc]
@[simp] theorem State.cpDouble_canon (s : State) (n src : Nat) (pc : Word) (hc : s.Canon) : (State.cpDouble s n src pc).Canon := by
  simp (maxDischargeDepth := 30) (contextual := true) [State.cpDouble, hc]
@[simp] theorem State.cpFault_canon (s : State) (n src : Nat) (pc push : Word) (addr op : Option Word) (hc : s.Canon) : (State.cpFault s n src pc push addr op).Canon := by
  unfold State.cpFault
  try dsimp only
  repeat' (first
    | (simp (maxDischargeDepth := 30) [*]; done)
    | intro _
    | (with_reducible first | apply State.canon_ite | apply State.canon_foldl | apply State.canon_foldl_snd | apply State.canon_foldl_fst)
    | (split <;> (try (rename_i q; obtain ⟨q1, q2⟩ := Prod.ext_iff.1 q; dsimp only at q1 q2; (try obtain ⟨q3, q4⟩ := Prod.ext_iff.1 q2); subst_vars))))
@[simp] theorem State.vuFault_canon (s : State) (n cause elem : Nat) (pc addr : Word) (hc : s.Canon) : (State.vuFault s n cause elem pc addr).Canon := by
  simp (maxDischargeDepth := 30) (contextual := true) [State.vuFault, hc]
@[simp] theorem State.cpTakeLate_canon (s : State) (n : Nat) (hc : s.Canon) : (State.cpTakeLate s n).Canon := by
  unfold State.cpTakeLate
  try dsimp only
  repeat' (first
    | (simp (maxDischargeDepth := 30) [*]; done)
    | intro _
    | (with_reducible first | apply State.canon_ite | apply State.canon_foldl | apply State.canon_foldl_snd | apply State.canon_foldl_fst)
    | (split <;> (try (rename_i q; obtain ⟨q1, q2⟩ := Prod.ext_iff.1 q; dsimp only at q1 q2; (try obtain ⟨q3, q4⟩ := Prod.ext_iff.1 q2); subst_vars))))
@[simp] theorem State.takeInterrupt_canon (s : State) (n : Nat) (hc : s.Canon) : (State.takeInterrupt s n).Canon := by
  unfold State.takeInterrupt
  try dsimp only
  repeat' (first
    | (with_reducible assumption)
    | intro _
    | with_reducible apply State.canon_foldl
    | with_reducible apply State.canon_foldl_snd
    | with_reducible apply State.canon_foldl_fst
    | with_reducible apply State.canon_foldl_thd
    | with_reducible apply State.Canon.mem
    | with_reducible apply State.Canon.regs
    | (simp only [State.mk_canon]; refine ⟨?_, ?_⟩)
    | with_reducible apply Tab.wf_set'
    | with_reducible apply Tab.wf_filter'
    | with_reducible apply State.cpEnter_canon
    | with_reducible apply State.cpNmiEnter_canon
    | with_reducible apply State.cpTakeLate_canon
    | with_reducible apply State.st_canon
    | with_reducible apply State.canon_ite
    | with_reducible apply State.canon_ite2
    | with_reducible apply State.canon_ite3
    | dsimp only
    | (split <;> (try (rename_i heq; have q2 := congrArg Prod.snd heq; have q1 := congrArg Prod.fst heq; dsimp only at q1 q2; (try subst q1); first | subst q2 | (have q3 := congrArg Prod.snd q2; have q4 := congrArg Prod.fst q2; dsimp only at q3 q4; (try subst q4); subst q3)))))
@[simp] theorem State.cpNmi_canon (s : State) (n : Nat) (v : Word) (hc : s.Canon) : (State.cpNmi s n v).Canon := by
  simp (maxDischargeDepth := 30) (contextual := true) [State.cpNmi, hc]
@[simp] theorem State.retn_canon (s : State) (n : Nat) (hc : s.Canon) : (State.retn s n).Canon := by simp [State.retn, hc]
@[simp] theorem State.aperData_canon (s : State) (a : Nat) (data : List Byte) (pois : Bool) (hc : s.Canon) : (State.aperData s a data pois).Canon := by simp [State.aperData, hc]
@[simp] theorem State.aperAck_canon (s : State) (id : Nat) (hc : s.Canon) : (State.aperAck s id).Canon := by simp [State.aperAck, hc]
@[simp] theorem State.cpDispatch_canon (s : State) (n entry arg : Nat) (hc : s.Canon) : (State.cpDispatch s n entry arg).Canon := by
  simp (maxDischargeDepth := 30) (contextual := true) [State.cpDispatch, hc]
@[simp] theorem State.entryTake_canon (s : State) (n : Nat) (hc : s.Canon) : (State.entryTake s n).Canon := by
  unfold State.entryTake
  try dsimp only
  repeat' (first
    | (simp (maxDischargeDepth := 30) [*]; done)
    | intro _
    | (with_reducible first | apply State.canon_ite | apply State.canon_foldl | apply State.canon_foldl_snd | apply State.canon_foldl_fst)
    | (split <;> (try (rename_i q; obtain ⟨q1, q2⟩ := Prod.ext_iff.1 q; dsimp only at q1 q2; (try obtain ⟨q3, q4⟩ := Prod.ext_iff.1 q2); subst_vars))))
@[simp] theorem State.setHalt_canon (s : State) (n : Nat) (h : Bool) (hc : s.Canon) : (State.setHalt s n h).Canon := by
  simp (maxDischargeDepth := 30) (contextual := true) [State.setHalt, hc]
@[simp] theorem State.halted_canon (s : State) (n : Nat) (hc : s.Canon) : (State.halted s n).Canon := by
  simp (maxDischargeDepth := 30) (contextual := true) [State.halted, hc]
@[simp] theorem State.tcmpArm_canon (s : State) (n : Nat) (v : Word) (hc : s.Canon) : (State.tcmpArm s n v).Canon := by simp [State.tcmpArm, hc]
@[simp] theorem State.timer_canon (s : State) (n : Nat) (hc : s.Canon) : (State.timer s n).Canon := by
  simp (maxDischargeDepth := 30) (contextual := true) [State.timer, hc]
@[simp] theorem State.icCtl_canon (s : State) (n : Nat) (v : Word) (hc : s.Canon) : (State.icCtl s n v).Canon := by
  simp (maxDischargeDepth := 30) (contextual := true) [State.icCtl, hc]
@[simp] theorem State.cpReset_canon (s : State) (n : Nat) (hc : s.Canon) : (State.cpReset s n).Canon := by
  simp (maxDischargeDepth := 30) (contextual := true) [State.cpReset, hc]
@[simp] theorem State.modBel_canon (s : State) (f : Belfry → Belfry) (hc : s.Canon) : (State.modBel s f).Canon := by simp [State.modBel, hc]
@[simp] theorem State.seqErr_canon (s : State) (code unit i : Nat) (req : Nat) (hc : s.Canon) : (State.seqErr s code unit i req).Canon := by
  simp (maxDischargeDepth := 30) (contextual := true) [State.seqErr, hc]
@[simp] theorem State.dispDrop_canon (s : State) (i n : Nat) (hc : s.Canon) : (State.dispDrop s i n).Canon := by
  simp (maxDischargeDepth := 30) (contextual := true) [State.dispDrop, hc]
@[simp] theorem State.actDispatch_canon (s : State) (i e : Nat) (hc : s.Canon) : (State.actDispatch s i e).Canon := by
  simp (maxDischargeDepth := 30) (contextual := true) [State.actDispatch, hc]
@[simp] theorem State.actCommit_canon (s : State) (i e : Nat) (hc : s.Canon) : (State.actCommit s i e).Canon := by
  simp (maxDischargeDepth := 30) (contextual := true) [State.actCommit, hc]
@[simp] theorem State.actBarrier_canon (s : State) (i e due : Nat) (hc : s.Canon) : (State.actBarrier s i e due).Canon := by
  simp (maxDischargeDepth := 30) (contextual := true) [State.actBarrier, hc]
@[simp] theorem State.actDma_canon (s : State) (i e : Nat) (hc : s.Canon) : (State.actDma s i e).Canon := by
  simp (maxDischargeDepth := 30) (contextual := true) [State.actDma, hc]
@[simp] theorem State.actStream_canon (s : State) (i e : Nat) (hc : s.Canon) : (State.actStream s i e).Canon := by simp [State.actStream, hc]
@[simp] theorem State.actEvt_canon (s : State) (i e : Nat) (hc : s.Canon) : (State.actEvt s i e).Canon := by simp [State.actEvt, hc]
@[simp] theorem State.overrun_canon (s : State) (late : List Nat) (tick : Nat) (hc : s.Canon) : (State.overrun s late tick).Canon := by
  unfold State.overrun
  try dsimp only
  repeat' (first
    | (with_reducible assumption)
    | intro _
    | with_reducible apply State.canon_foldl
    | with_reducible apply State.canon_foldl_snd
    | with_reducible apply State.canon_foldl_fst
    | with_reducible apply State.canon_foldl_thd
    | with_reducible apply State.Canon.mem
    | with_reducible apply State.Canon.regs
    | (simp only [State.mk_canon]; refine ⟨?_, ?_⟩)
    | with_reducible apply Tab.wf_set'
    | with_reducible apply Tab.wf_filter'
    | with_reducible apply State.bump_canon
    | with_reducible apply State.err_canon
    | with_reducible apply State.modBel_canon
    | with_reducible apply State.raise_canon
    | with_reducible apply State.setReg_canon
    | with_reducible apply State.canon_ite
    | with_reducible apply State.canon_ite2
    | with_reducible apply State.canon_ite3
    | dsimp only
    | (split <;> (try (rename_i heq; have q2 := congrArg Prod.snd heq; have q1 := congrArg Prod.fst heq; dsimp only at q1 q2; (try subst q1); first | subst q2 | (have q3 := congrArg Prod.snd q2; have q4 := congrArg Prod.fst q2; dsimp only at q3 q4; (try subst q4); subst q3)))))
@[simp] theorem State.tickCompare_canon (s : State) (hc : s.Canon) : (State.tickCompare s).Canon := by
  unfold State.tickCompare
  try dsimp only
  repeat' (first
    | (with_reducible assumption)
    | intro _
    | with_reducible apply State.canon_foldl
    | with_reducible apply State.canon_foldl_snd
    | with_reducible apply State.canon_foldl_fst
    | with_reducible apply State.canon_foldl_thd
    | with_reducible apply State.Canon.mem
    | with_reducible apply State.Canon.regs
    | (simp only [State.mk_canon]; refine ⟨?_, ?_⟩)
    | with_reducible apply Tab.wf_set'
    | with_reducible apply Tab.wf_filter'
    | with_reducible apply State.err_canon
    | with_reducible apply State.overrun_canon
    | with_reducible apply State.raise_canon
    | with_reducible apply State.setReg_canon
    | (split <;> (try (rename_i heq; have q2 := congrArg Prod.snd heq; have q1 := congrArg Prod.fst heq; dsimp only at q1 q2; (try subst q1); first | subst q2 | (have q3 := congrArg Prod.snd q2; have q4 := congrArg Prod.fst q2; dsimp only at q3 q4; (try subst q4); subst q3)))))
@[simp] theorem State.hbCheck_canon (s : State) (hc : s.Canon) : (State.hbCheck s).Canon := by
  simp (maxDischargeDepth := 30) (contextual := true) [State.hbCheck, hc]
@[simp] theorem State.audit_canon (s : State) (n : Nat) (hc : s.Canon) : (State.audit s n).Canon := by
  simp (maxDischargeDepth := 30) (contextual := true) [State.audit, hc]
@[simp] theorem State.tickEnd_canon (s : State) (at' : Nat) (left : Nat) (hc : s.Canon) : (State.tickEnd s at' left).Canon := by
  simp (maxDischargeDepth := 30) (contextual := true) [State.tickEnd, hc]
@[simp] theorem State.actEntry_canon (s : State) (i k e due : Nat) (hc : s.Canon) : (State.actEntry s i k e due).Canon := by
  simp (maxDischargeDepth := 30) (contextual := true) [State.actEntry, hc]
@[simp] theorem State.badEntry_canon (s : State) (k e : Nat) (hc : s.Canon) : (State.badEntry s k e).Canon := by
  simp (maxDischargeDepth := 30) (contextual := true) [State.badEntry, hc]
@[simp] theorem State.sendEntry_canon (s : State) (i : Nat) (hc : s.Canon) : (State.sendEntry s i).Canon := by
  simp (maxDischargeDepth := 30) (contextual := true) [State.sendEntry, hc]
@[simp] theorem State.dispatchOp_canon (s : State) (o : Nat) (hc : s.Canon) : (State.dispatchOp s o).Canon := by
  unfold State.dispatchOp
  try dsimp only
  repeat' (first
    | (simp (maxDischargeDepth := 30) [*]; done)
    | intro _
    | (with_reducible first | apply State.canon_ite | apply State.canon_foldl | apply State.canon_foldl_snd | apply State.canon_foldl_fst)
    | (split <;> (try (rename_i q; obtain ⟨q1, q2⟩ := Prod.ext_iff.1 q; dsimp only at q1 q2; (try obtain ⟨q3, q4⟩ := Prod.ext_iff.1 q2); subst_vars))))
@[simp] theorem State.tickEndOp_canon (s : State) (hc : s.Canon) : (State.tickEndOp s).Canon := by
  unfold State.tickEndOp
  try dsimp only
  repeat' (first
    | (simp (maxDischargeDepth := 30) [*]; done)
    | intro _
    | (with_reducible first | apply State.canon_ite | apply State.canon_foldl | apply State.canon_foldl_snd | apply State.canon_foldl_fst)
    | (split <;> (try (rename_i q; obtain ⟨q1, q2⟩ := Prod.ext_iff.1 q; dsimp only at q1 q2; (try obtain ⟨q3, q4⟩ := Prod.ext_iff.1 q2); subst_vars))))
@[simp] theorem State.stopSchedule_canon (s : State) (cause : Nat) (hc : s.Canon) : (State.stopSchedule s cause).Canon := by
  simp (maxDischargeDepth := 30) (contextual := true) [State.stopSchedule, hc]
@[simp] theorem State.switchNow_canon (s : State) (ev : BitVec 64) (hc : s.Canon) : (State.switchNow s ev).Canon := by
  simp (maxDischargeDepth := 30) (contextual := true) [State.switchNow, hc]
@[simp] theorem State.startTick_canon (s : State) (e : SourceEvent) (early held : Bool) (hc : s.Canon) : (State.startTick s e early held).Canon := by
  simp (maxDischargeDepth := 30) (contextual := true) [State.startTick, hc]
@[simp] theorem State.tickBoundary_canon (s : State) (hc : s.Canon) : (State.tickBoundary s).Canon := by
  unfold State.tickBoundary
  try dsimp only
  repeat' (first
    | (simp (maxDischargeDepth := 30) [*]; done)
    | intro _
    | (with_reducible first | apply State.canon_ite | apply State.canon_foldl | apply State.canon_foldl_snd | apply State.canon_foldl_fst)
    | (split <;> (try (rename_i q; obtain ⟨q1, q2⟩ := Prod.ext_iff.1 q; dsimp only at q1 q2; (try obtain ⟨q3, q4⟩ := Prod.ext_iff.1 q2); subst_vars))))
@[simp] theorem State.cmdReject_canon (s : State) (req cmd reason : Nat) (hc : s.Canon) : (State.cmdReject s req cmd reason).Canon := by simp [State.cmdReject, hc]
@[simp] theorem State.startSchedule_canon (s : State) (d : Nat) (hc : s.Canon) : (State.startSchedule s d).Canon := by
  simp (maxDischargeDepth := 30) (contextual := true) [State.startSchedule, hc]
@[simp] theorem State.seqCmd_canon (s : State) (req : Nat) (v : Word) (hc : s.Canon) : (State.seqCmd s req v).Canon := by
  simp (maxDischargeDepth := 30) (contextual := true) [State.seqCmd, hc]
@[simp] theorem State.belfryEn_canon (s : State) (en : Bool) (hc : s.Canon) : (State.belfryEn s en).Canon := by
  simp (maxDischargeDepth := 30) (contextual := true) [State.belfryEn, hc]
@[simp] theorem State.descReject_canon (s : State) (req d reason : Nat) (hc : s.Canon) : (State.descReject s req d reason).Canon := by simp [State.descReject, hc]
@[simp] theorem State.descCheck_canon (s : State) (req d : Nat) (hc : s.Canon) : (State.descCheck s req d).Canon := by simp [State.descCheck, hc]
@[simp] theorem State.descCtl_canon (s : State) (req d : Nat) (v : Word) (hc : s.Canon) : (State.descCtl s req d v).Canon := by
  simp (maxDischargeDepth := 30) (contextual := true) [State.descCtl, hc]
@[simp] theorem State.descField_canon (s : State) (req d a : Nat) (v : Word) (hc : s.Canon) : (State.descField s req d a v).Canon := by simp [State.descField, hc]
@[simp] theorem State.setEntry_canon (s : State) (i : Nat) (b : List Byte) (hc : s.Canon) : (State.setEntry s i b).Canon := by simp [State.setEntry, hc]
@[simp] theorem State.tblCommit_canon (s : State) (req : Nat) (w3 : Word) (hc : s.Canon) : (State.tblCommit s req w3).Canon := by
  simp (maxDischargeDepth := 30) (contextual := true) [State.tblCommit, hc]
@[simp] theorem State.modLoader_canon (s : State) (f : Loader → Loader) (hc : s.Canon) : (State.modLoader s f).Canon := by simp [State.modLoader, hc]
@[simp] theorem State.loaderRead_canon (s : State) (hc : s.Canon) : (State.loaderRead s).Canon := by
  simp (maxDischargeDepth := 30) (contextual := true) [State.loaderRead, hc]
@[simp] theorem State.loaderEnd_canon (s : State) (r : Nat) (hc : s.Canon) : (State.loaderEnd s r).Canon := by simp [State.loaderEnd, hc]
@[simp] theorem State.loaderReport_canon (s : State) (r : Nat) (hc : s.Canon) : (State.loaderReport s r).Canon := by
  simp (maxDischargeDepth := 30) (contextual := true) [State.loaderReport, hc]
@[simp] theorem State.loaderCopy_canon (s : State) (src idx n : Nat) (hc : s.Canon) : (State.loaderCopy s src idx n).Canon := by
  simp (maxDischargeDepth := 30) (contextual := true) [State.loaderCopy, hc]
@[simp] theorem State.loadCtl_canon (s : State) (v : Word) (hc : s.Canon) : (State.loadCtl s v).Canon := by
  simp (maxDischargeDepth := 30) (contextual := true) [State.loadCtl, hc]
@[simp] theorem State.loaderHeader_canon (s : State) (h : List Byte) (hc : s.Canon) : (State.loaderHeader s h).Canon := by
  simp (maxDischargeDepth := 30) (contextual := true) [State.loaderHeader, hc]
@[simp] theorem State.loaderStore_canon (s : State) (i : Nat) (x0 : Nat) (x1 : List Byte) (hc : s.Canon) : (State.loaderStore s i x0 x1).Canon := by
  induction x0 generalizing s i x1 with
  | zero =>
    unfold State.loaderStore
    try dsimp only
    repeat' (first
      | (with_reducible assumption)
      | (split <;> (try (rename_i heq; have q2 := congrArg Prod.snd heq; have q1 := congrArg Prod.fst heq; dsimp only at q1 q2; (try subst q1); first | subst q2 | (have q3 := congrArg Prod.snd q2; have q4 := congrArg Prod.fst q2; dsimp only at q3 q4; (try subst q4); subst q3)))))
  
  | succ n ih =>
    unfold State.loaderStore
    try dsimp only
    repeat' (first
      | (with_reducible assumption)
        | intro _
      | with_reducible apply State.canon_foldl
      | with_reducible apply State.canon_foldl_snd
      | with_reducible apply State.canon_foldl_fst
      | with_reducible apply State.canon_foldl_thd
      | with_reducible apply State.Canon.mem
      | with_reducible apply State.Canon.regs
      | (simp only [State.mk_canon]; refine ⟨?_, ?_⟩)
      | with_reducible apply Tab.wf_set'
      | with_reducible apply Tab.wf_filter'
      | with_reducible apply State.loaderEnd_canon
      | with_reducible apply State.seqErr_canon
      | with_reducible apply State.setEntry_canon
      | with_reducible apply ih
      | with_reducible apply State.canon_ite
      | (split <;> (try (rename_i heq; have q2 := congrArg Prod.snd heq; have q1 := congrArg Prod.fst heq; dsimp only at q1 q2; (try subst q1); first | subst q2 | (have q3 := congrArg Prod.snd q2; have q4 := congrArg Prod.fst q2; dsimp only at q3 q4; (try subst q4); subst q3)))))
  
@[simp] theorem State.loadCopy_canon (s : State) (hc : s.Canon) : (State.loadCopy s).Canon := by
  unfold State.loadCopy
  try dsimp only
  repeat' (first
    | (simp (maxDischargeDepth := 30) [*]; done)
    | intro _
    | (with_reducible first | apply State.canon_ite | apply State.canon_foldl | apply State.canon_foldl_snd | apply State.canon_foldl_fst)
    | (split <;> (try (rename_i q; obtain ⟨q1, q2⟩ := Prod.ext_iff.1 q; dsimp only at q1 q2; (try obtain ⟨q3, q4⟩ := Prod.ext_iff.1 q2); subst_vars))))
@[simp] theorem State.loaderDescs_canon (s : State) (h : List Byte) (dslot base n : Nat) (hc : s.Canon) : (State.loaderDescs s h dslot base n).1.Canon := by
  unfold State.loaderDescs
  try dsimp only
  repeat' (first
    | (simp (maxDischargeDepth := 30) [*]; done)
    | intro _
    | (with_reducible first | apply State.canon_ite | apply State.canon_foldl | apply State.canon_foldl_snd | apply State.canon_foldl_fst)
    | (split <;> (try (rename_i q; obtain ⟨q1, q2⟩ := Prod.ext_iff.1 q; dsimp only at q1 q2; (try obtain ⟨q3, q4⟩ := Prod.ext_iff.1 q2); subst_vars))))
@[simp] theorem State.loadDone_canon (s : State) (hc : s.Canon) : (State.loadDone s).Canon := by
  simp (maxDischargeDepth := 30) (contextual := true) [State.loadDone, hc]
@[simp] theorem State.modLan_canon (s : State) (f : Lantern → Lantern) (hc : s.Canon) : (State.modLan s f).Canon := by simp [State.modLan, hc]
@[simp] theorem State.setLanQueue_canon (s : State) (b : Nat) (q : List LanReq) (hc : s.Canon) : (State.setLanQueue s b q).Canon := by simp [State.setLanQueue, hc]
@[simp] theorem State.setLanFills_canon (s : State) (b : Nat) (q : List LanFill) (hc : s.Canon) : (State.setLanFills s b q).Canon := by simp [State.setLanFills, hc]
@[simp] theorem State.setLanLines_canon (s : State) (a : Nat) (ls : List LanLine) (hc : s.Canon) : (State.setLanLines s a ls).Canon := by simp [State.setLanLines, hc]
@[simp] theorem State.lanAsk_canon (s : State) (rs : List LanReq) (hc : s.Canon) : (State.lanAsk s rs).Canon := by
  simp (maxDischargeDepth := 30) (contextual := true) [State.lanAsk, hc]
@[simp] theorem State.lanSend_canon (s : State) (n : Nat) (x0 : Nat) (hc : s.Canon) : (State.lanSend s n x0).Canon := by
  induction x0 generalizing s n with
  | zero =>
    unfold State.lanSend
    try dsimp only
    repeat' (first
      | (with_reducible assumption)
        | intro _
      | with_reducible apply State.canon_foldl
      | with_reducible apply State.canon_foldl_snd
      | with_reducible apply State.canon_foldl_fst
      | with_reducible apply State.canon_foldl_thd
      | with_reducible apply State.Canon.mem
      | with_reducible apply State.Canon.regs
      | (simp only [State.mk_canon]; refine ⟨?_, ?_⟩)
      | with_reducible apply Tab.wf_set'
      | with_reducible apply Tab.wf_filter'
      | with_reducible apply State.modDome_canon
      | with_reducible apply State.postRead_canon
      | with_reducible apply State.canon_ite
      | with_reducible apply State.canon_ite2
      | with_reducible apply State.canon_ite3
      | dsimp only
      | (split <;> (try (rename_i heq; have q2 := congrArg Prod.snd heq; have q1 := congrArg Prod.fst heq; dsimp only at q1 q2; (try subst q1); first | subst q2 | (have q3 := congrArg Prod.snd q2; have q4 := congrArg Prod.fst q2; dsimp only at q3 q4; (try subst q4); subst q3)))))
  
  | succ n ih =>
    unfold State.lanSend
    try dsimp only
    repeat' (first
      | (with_reducible assumption)
        | intro _
      | with_reducible apply State.canon_foldl
      | with_reducible apply State.canon_foldl_snd
      | with_reducible apply State.canon_foldl_fst
      | with_reducible apply State.canon_foldl_thd
      | with_reducible apply State.Canon.mem
      | with_reducible apply State.Canon.regs
      | (simp only [State.mk_canon]; refine ⟨?_, ?_⟩)
      | with_reducible apply Tab.wf_set'
      | with_reducible apply Tab.wf_filter'
      | with_reducible apply State.modDome_canon
      | with_reducible apply State.postRead_canon
      | with_reducible apply ih
      | with_reducible apply State.canon_ite
      | with_reducible apply State.canon_ite2
      | with_reducible apply State.canon_ite3
      | dsimp only
      | (split <;> (try (rename_i heq; have q2 := congrArg Prod.snd heq; have q1 := congrArg Prod.fst heq; dsimp only at q1 q2; (try subst q1); first | subst q2 | (have q3 := congrArg Prod.snd q2; have q4 := congrArg Prod.fst q2; dsimp only at q3 q4; (try subst q4); subst q3)))))
  
@[simp] theorem State.lanGot_canon (s : State) (n blk a : Nat) (data : List Byte) (bad : Bool) (hc : s.Canon) : (State.lanGot s n blk a data bad).Canon := by
  simp (maxDischargeDepth := 30) (contextual := true) [State.lanGot, hc]
@[simp] theorem State.loadwRow_canon (s : State) (n : Nat) (hc : s.Canon) : (State.loadwRow s n).Canon := by
  unfold State.loadwRow
  try dsimp only
  repeat' (first
    | (simp (maxDischargeDepth := 30) [*]; done)
    | intro _
    | (with_reducible first | apply State.canon_ite | apply State.canon_foldl | apply State.canon_foldl_snd | apply State.canon_foldl_fst)
    | (split <;> (try (rename_i q; obtain ⟨q1, q2⟩ := Prod.ext_iff.1 q; dsimp only at q1 q2; (try obtain ⟨q3, q4⟩ := Prod.ext_iff.1 q2); subst_vars))))
@[simp] theorem State.preStep_canon (s : State) (hc : s.Canon) : (State.preStep s).Canon := by
  unfold State.preStep
  try dsimp only
  repeat' (first
    | (simp (maxDischargeDepth := 30) [*]; done)
    | intro _
    | (with_reducible first | apply State.canon_ite | apply State.canon_foldl | apply State.canon_foldl_snd | apply State.canon_foldl_fst)
    | (split <;> (try (rename_i q; obtain ⟨q1, q2⟩ := Prod.ext_iff.1 q; dsimp only at q1 q2; (try obtain ⟨q3, q4⟩ := Prod.ext_iff.1 q2); subst_vars))))
@[simp] theorem State.lanDeliver_canon (s : State) (data : List Byte) (bad : Bool) (r : LanReq) (hc : s.Canon) : (State.lanDeliver s data bad r).Canon := by
  simp (maxDischargeDepth := 30) (contextual := true) [State.lanDeliver, hc]
@[simp] theorem State.lanTaken_canon (s : State) (b : Nat) (r : LanReq) (hc : s.Canon) : (State.lanTaken s b r).Canon := by
  simp (maxDischargeDepth := 30) (contextual := true) [State.lanTaken, hc]
@[simp] theorem State.lanBad_canon (s : State) (b a : Nat) (hc : s.Canon) : (State.lanBad s b a).Canon := by simp [State.lanBad, hc]
@[simp] theorem State.lanGo_canon (s : State) (b : Nat) (hc : s.Canon) : (State.lanGo s b).Canon := by
  simp (maxDischargeDepth := 30) (contextual := true) [State.lanGo, hc]
@[simp] theorem State.lanMiss_canon (s : State) (b : Nat) (r : LanReq) (hc : s.Canon) : (State.lanMiss s b r).Canon := by
  unfold State.lanMiss
  try dsimp only
  repeat' (first
    | (with_reducible assumption)
    | intro _
    | with_reducible apply State.canon_foldl
    | with_reducible apply State.canon_foldl_snd
    | with_reducible apply State.canon_foldl_fst
    | with_reducible apply State.canon_foldl_thd
    | with_reducible apply State.Canon.mem
    | with_reducible apply State.Canon.regs
    | (simp only [State.mk_canon]; refine ⟨?_, ?_⟩)
    | with_reducible apply Tab.wf_set'
    | with_reducible apply Tab.wf_filter'
    | with_reducible apply State.bump_canon
    | with_reducible apply State.freeBytes_canon
    | with_reducible apply State.lanBad_canon
    | with_reducible apply State.lanDeliver_canon
    | with_reducible apply State.lanGo_canon
    | with_reducible apply State.setLanFills_canon
    | with_reducible apply State.unmapped_canon
    | with_reducible apply State.canon_ite
    | (split <;> (try (rename_i heq; have q2 := congrArg Prod.snd heq; have q1 := congrArg Prod.fst heq; dsimp only at q1 q2; (try subst q1); first | subst q2 | (have q3 := congrArg Prod.snd q2; have q4 := congrArg Prod.fst q2; dsimp only at q3 q4; (try subst q4); subst q3)))))
@[simp] theorem State.lanHit_canon (s : State) (r : LanReq) (x : LanLine) (hc : s.Canon) : (State.lanHit s r x).Canon := by
  simp (maxDischargeDepth := 30) (contextual := true) [State.lanHit, hc]
@[simp] theorem State.lanFetch_canon (s : State) (b : Nat) (hc : s.Canon) : (State.lanFetch s b).Canon := by
  unfold State.lanFetch
  try dsimp only
  repeat' (first
    | (simp (maxDischargeDepth := 30) [*]; done)
    | intro _
    | (with_reducible first | apply State.canon_ite | apply State.canon_foldl | apply State.canon_foldl_snd | apply State.canon_foldl_fst)
    | (split <;> (try (rename_i q; obtain ⟨q1, q2⟩ := Prod.ext_iff.1 q; dsimp only at q1 q2; (try obtain ⟨q3, q4⟩ := Prod.ext_iff.1 q2); subst_vars))))
@[simp] theorem State.lanInstall_canon (s : State) (a : Nat) (data : List Byte) (hc : s.Canon) : (State.lanInstall s a data).Canon := by
  simp (maxDischargeDepth := 30) (contextual := true) [State.lanInstall, hc]
@[simp] theorem State.lanFill_canon (s : State) (b : Nat) (hc : s.Canon) : (State.lanFill s b).Canon := by
  unfold State.lanFill
  try dsimp only
  repeat' (first
    | (with_reducible assumption)
    | intro _
    | with_reducible apply State.canon_foldl
    | with_reducible apply State.canon_foldl_snd
    | with_reducible apply State.canon_foldl_fst
    | with_reducible apply State.canon_foldl_thd
    | with_reducible apply State.Canon.mem
    | with_reducible apply State.Canon.regs
    | (simp only [State.mk_canon]; refine ⟨?_, ?_⟩)
    | with_reducible apply Tab.wf_set'
    | with_reducible apply Tab.wf_filter'
    | with_reducible apply State.lanBad_canon
    | with_reducible apply State.lanDeliver_canon
    | with_reducible apply State.lanGo_canon
    | with_reducible apply State.lanInstall_canon
    | with_reducible apply State.setLanFills_canon
    | with_reducible apply State.canon_ite
    | with_reducible apply State.canon_ite2
    | with_reducible apply State.canon_ite3
    | dsimp only
    | (split <;> (try (rename_i heq; have q2 := congrArg Prod.snd heq; have q1 := congrArg Prod.fst heq; dsimp only at q1 q2; (try subst q1); first | subst q2 | (have q3 := congrArg Prod.snd q2; have q4 := congrArg Prod.fst q2; dsimp only at q3 q4; (try subst q4); subst q3)))))
@[simp] theorem State.lanInv_canon (s : State) (hc : s.Canon) : (State.lanInv s).Canon := by simp [State.lanInv, hc]
@[simp] theorem State.lanInvDone_canon (s : State) (hc : s.Canon) : (State.lanInvDone s).Canon := by
  simp (maxDischargeDepth := 30) (contextual := true) [State.lanInvDone, hc]
@[simp] theorem State.lanPre_canon (s : State) (hc : s.Canon) : (State.lanPre s).Canon := by
  simp (maxDischargeDepth := 30) (contextual := true) [State.lanPre, hc]
@[simp] theorem State.lanCtl_canon (s : State) (req : Nat) (v : Word) (hc : s.Canon) : (State.lanCtl s req v).Canon := by
  simp (maxDischargeDepth := 30) (contextual := true) [State.lanCtl, hc]
@[simp] theorem State.lanPreWrite_canon (s : State) (req a : Nat) (m v : Word) (hc : s.Canon) : (State.lanPreWrite s req a m v).Canon := by simp [State.lanPreWrite, hc]
@[simp] theorem State.lanReset_canon (s : State) (hc : s.Canon) : (State.lanReset s).Canon := by simp [State.lanReset, hc]
@[simp] theorem State.resetPage_canon (s : State) (p : Nat) (keep : Nat → Word) (hc : s.Canon) : (State.resetPage s p keep).Canon := by
  refine ⟨hc.mem, (Tab.wf_filterMap regReset _ ?_ s.regs hc.regs).1⟩
  intro x y h hx
  dsimp only at h
  split at h
  · split at h
    · cases h
    · rename_i hv; cases h; exact ⟨rfl, hv⟩
  · cases h; exact ⟨rfl, hx⟩
@[simp] theorem State.warmSpire_canon (s : State) (n : Nat) (hc : s.Canon) : (State.warmSpire s n).Canon := by
  simp (maxDischargeDepth := 30) (contextual := true) [State.warmSpire, hc]
@[simp] theorem State.ocuReset_canon (s : State) (hc : s.Canon) : (State.ocuReset s).Canon := by
  simp (maxDischargeDepth := 30) (contextual := true) [State.ocuReset, hc]
@[simp] theorem State.warmBelfry_canon (s : State) (hc : s.Canon) : (State.warmBelfry s).Canon := by
  simp (maxDischargeDepth := 30) (contextual := true) [State.warmBelfry, hc]
@[simp] theorem State.warmOthers_canon (s : State) (hc : s.Canon) : (State.warmOthers s).Canon := by
  simp (maxDischargeDepth := 30) (contextual := true) [State.warmOthers, hc]
@[simp] theorem State.warmBlocks_canon (s : State) (hc : s.Canon) : (State.warmBlocks s).Canon := by
  simp (maxDischargeDepth := 30) (contextual := true) [State.warmBlocks, hc]
@[simp] theorem State.tioBlkRst_canon (s : State) (hc : s.Canon) : (State.tioBlkRst s).Canon := by
  simp (maxDischargeDepth := 30) (contextual := true) [State.tioBlkRst, hc]
@[simp] theorem State.islandOn_canon (s : State) (n : Nat) (hc : s.Canon) : (State.islandOn s n).Canon := by simp [State.islandOn, hc]
@[simp] theorem State.applyLevel_canon (s : State) (hc : s.Canon) : (State.applyLevel s).Canon := by simp [State.applyLevel, hc]
@[simp] theorem State.keepRst_canon (s : State) (hc : s.Canon) : (State.keepRst s).Canon := by
  simp (maxDischargeDepth := 30) (contextual := true) [State.keepRst, hc]
@[simp] theorem State.blkRst_canon (s : State) (p : Nat) (hc : s.Canon) : (State.blkRst s p).Canon := by
  unfold State.blkRst
  dsimp only
  repeat' (first
    | (with_reducible assumption)
    | intro _
    | with_reducible apply State.canon_foldl
    | with_reducible apply State.canon_foldl_snd
    | with_reducible apply State.canon_foldl_fst
    | with_reducible apply State.canon_foldl_thd
    | with_reducible apply State.Canon.mem
    | with_reducible apply State.Canon.regs
    | (simp only [State.mk_canon]; refine ⟨?_, ?_⟩)
    | with_reducible apply Tab.wf_set'
    | with_reducible apply Tab.wf_filter'
    | with_reducible apply State.axlEn_canon
    | with_reducible apply State.cpReset_canon
    | with_reducible apply State.idle_canon
    | with_reducible apply State.keepRst_canon
    | with_reducible apply State.lanReset_canon
    | with_reducible apply State.modDome_canon
    | with_reducible apply State.modTb_canon
    | with_reducible apply State.ocuReset_canon
    | with_reducible apply State.portReset_canon
    | with_reducible apply State.reset_canon
    | with_reducible apply State.resetPage_canon
    | with_reducible apply State.setDma_canon
    | with_reducible apply State.setStrm_canon
    | with_reducible apply State.tioBlkRst_canon
    | with_reducible apply State.canon_ite
    | with_reducible apply State.canon_ite2
    | with_reducible apply State.canon_ite3
    | dsimp only
    | with_reducible apply State.canon_ite
    | split)
@[simp] theorem State.coldReset_canon (s : State) (hc : s.Canon) : (State.coldReset s).Canon := by
  refine ⟨Tab.wf_filter _ _ _ hc.mem, (Tab.wf_filterMap regReset _ ?_ s.regs hc.regs).1⟩
  intro x y h hx
  dsimp only at h
  split at h
  · cases h
  · rename_i hv; cases h; exact ⟨rfl, hv⟩
@[simp] theorem State.modKeep_canon (s : State) (f : KeepSt → KeepSt) (hc : s.Canon) : (State.modKeep s f).Canon := by simp [State.modKeep, hc]
@[simp] theorem State.setStage_canon (s : State) (v : Nat) (hc : s.Canon) : (State.setStage s v).Canon := by simp [State.setStage, hc]
@[simp] theorem State.setMode_canon (s : State) (v : Nat) (hc : s.Canon) : (State.setMode s v).Canon := by simp [State.setMode, hc]
@[simp] theorem State.bringupFail_canon (s : State) (hc : s.Canon) : (State.bringupFail s).Canon := by simp [State.bringupFail, hc]
@[simp] theorem State.mapReject_canon (s : State) (k why : Nat) (hc : s.Canon) : (State.mapReject s k why).Canon := by
  simp (maxDischargeDepth := 30) (contextual := true) [State.mapReject, hc]
@[simp] theorem State.tryMap_canon (s : State) (k : Nat) (hc : s.Canon) : (State.tryMap s k).2.Canon := by
  unfold State.tryMap
  try dsimp only
  repeat' (first
    | (simp (maxDischargeDepth := 30) [*]; done)
    | intro _
    | (with_reducible first | apply State.canon_ite | apply State.canon_foldl | apply State.canon_foldl_snd | apply State.canon_foldl_fst)
    | (split <;> (try (rename_i q; obtain ⟨q1, q2⟩ := Prod.ext_iff.1 q; dsimp only at q1 q2; (try obtain ⟨q3, q4⟩ := Prod.ext_iff.1 q2); subst_vars))))
@[simp] theorem State.selectMap_canon (s : State) (hc : s.Canon) : (State.selectMap s).Canon := by
  simp (maxDischargeDepth := 30) (contextual := true) [State.selectMap, hc]
@[simp] theorem State.storeMap_canon (s : State) (hc : s.Canon) : (State.storeMap s).Canon := by
  simp (maxDischargeDepth := 30) (contextual := true) [State.storeMap, hc]
@[simp] theorem State.mapLost_canon (s : State) (a n : Nat) (hc : s.Canon) : (State.mapLost s a n).Canon := by simp [State.mapLost, hc]
@[simp] theorem State.runImage_canon (s : State) (a : Nat) (slot : Option Nat) (fails : List Nat) (hc : s.Canon) : (State.runImage s a slot fails).Canon := by
  unfold State.runImage
  try dsimp only
  repeat' (first
    | (with_reducible assumption)
    | intro _
    | with_reducible apply State.canon_foldl
    | with_reducible apply State.canon_foldl_snd
    | with_reducible apply State.canon_foldl_fst
    | with_reducible apply State.canon_foldl_thd
    | with_reducible apply State.Canon.mem
    | with_reducible apply State.Canon.regs
    | (simp only [State.mk_canon]; refine ⟨?_, ?_⟩)
    | with_reducible apply Tab.wf_set'
    | with_reducible apply Tab.wf_filter'
    | with_reducible apply State.clearRange_canon
    | with_reducible apply State.err_canon
    | with_reducible apply State.fresh_canon
    | with_reducible apply State.modKeep_canon
    | with_reducible apply State.raise_canon
    | with_reducible apply State.reset_canon
    | with_reducible apply State.selectMap_canon
    | with_reducible apply State.setBit_canon
    | with_reducible apply State.setBytes_canon
    | with_reducible apply State.setCore_canon
    | with_reducible apply State.setFld_canon
    | with_reducible apply State.setMode_canon
    | with_reducible apply State.setReg_canon
    | with_reducible apply State.setStage_canon
    | with_reducible apply State.st_canon
    | with_reducible apply State.canon_ite
    | with_reducible apply State.canon_ite2
    | with_reducible apply State.canon_ite3
    | dsimp only
    | (split <;> (try (rename_i heq; have q2 := congrArg Prod.snd heq; have q1 := congrArg Prod.fst heq; dsimp only at q1 q2; (try subst q1); first | subst q2 | (have q3 := congrArg Prod.snd q2; have q4 := congrArg Prod.fst q2; dsimp only at q3 q4; (try subst q4); subst q3)))))
@[simp] theorem State.recovery_canon (s : State) (hc : s.Canon) : (State.recovery s).Canon := by
  simp (maxDischargeDepth := 30) (contextual := true) [State.recovery, hc]
@[simp] theorem State.secureBoot_canon (s : State) (hc : s.Canon) : (State.secureBoot s).Canon := by
  simp (maxDischargeDepth := 30) (contextual := true) [State.secureBoot, hc]
@[simp] theorem State.recData_canon (s : State) (req : Nat) (v : Word) (hc : s.Canon) : (State.recData s req v).Canon := by
  simp (maxDischargeDepth := 30) (contextual := true) [State.recData, hc]
@[simp] theorem State.cmdEnd_canon (s : State) (r : Nat) (hc : s.Canon) : (State.cmdEnd s r).Canon := by simp [State.cmdEnd, hc]
@[simp] theorem State.cmdRefuse_canon (s : State) (req cmd r : Nat) (hc : s.Canon) : (State.cmdRefuse s req cmd r).Canon := by simp [State.cmdRefuse, hc]
@[simp] theorem State.warmReset_canon (s : State) (hc : s.Canon) : (State.warmReset s).Canon := by
  simp (maxDischargeDepth := 30) (contextual := true) [State.warmReset, hc]
@[simp] theorem State.keepCmd_canon (s : State) (req : Nat) (v : Word) (hc : s.Canon) : (State.keepCmd s req v).Canon := by
  simp (maxDischargeDepth := 30) (contextual := true) [State.keepCmd, hc]
@[simp] theorem State.mapWriteDone_canon (s : State) (ok : Bool) (hc : s.Canon) : (State.mapWriteDone s ok).Canon := by
  unfold State.mapWriteDone
  try dsimp only
  repeat' (first
    | (simp (maxDischargeDepth := 30) [*]; done)
    | intro _
    | (with_reducible first | apply State.canon_ite | apply State.canon_foldl | apply State.canon_foldl_snd | apply State.canon_foldl_fst)
    | (split <;> (try (rename_i q; obtain ⟨q1, q2⟩ := Prod.ext_iff.1 q; dsimp only at q1 q2; (try obtain ⟨q3, q4⟩ := Prod.ext_iff.1 q2); subst_vars))))
@[simp] theorem State.mboxIn3_canon (s : State) (req : Nat) (v : Word) (hc : s.Canon) : (State.mboxIn3 s req v).Canon := by
  simp (maxDischargeDepth := 30) (contextual := true) [State.mboxIn3, hc]
@[simp] theorem State.keepWrite_canon (s : State) (req a : Nat) (v : Word) (hc : s.Canon) : (State.keepWrite s req a v).Canon := by simp [State.keepWrite, hc]
@[simp] theorem State.resend_canon (s : State) (w : Word) (hc : s.Canon) : (State.resend s w).Canon := by
  simp (maxDischargeDepth := 30) (contextual := true) [State.resend, hc]
@[simp] theorem State.irqEoi_canon (s : State) (v : Word) (hc : s.Canon) : (State.irqEoi s v).Canon := by simp [State.irqEoi, hc]
@[simp] theorem State.irqHost_canon (s : State) (v : Word) (hc : s.Canon) : (State.irqHost s v).Canon := by simp [State.irqHost, hc]
@[simp] theorem State.irqKeep_canon (s : State) (v : Word) (hc : s.Canon) : (State.irqKeep s v).Canon := by simp [State.irqKeep, hc]
@[simp] theorem State.unitFault_canon (s : State) (cause unit : Nat) (hc : s.Canon) : (State.unitFault s cause unit).Canon := by
  simp (maxDischargeDepth := 30) (contextual := true) [State.unitFault, hc]
@[simp] theorem State.avsWrite_canon (s : State) (req : Nat) (v : Word) (hc : s.Canon) : (State.avsWrite s req v).Canon := by simp [State.avsWrite, hc]
@[simp] theorem State.avsStep_canon (s : State) (hc : s.Canon) : (State.avsStep s).Canon := by simp [State.avsStep, hc]
@[simp] theorem State.islandReset_canon (s : State) (n : Nat) (hc : s.Canon) : (State.islandReset s n).Canon := by
  simp (maxDischargeDepth := 30) (contextual := true) [State.islandReset, hc]
@[simp] theorem State.islandOff_canon (s : State) (n : Nat) (hc : s.Canon) : (State.islandOff s n).Canon := by
  simp (maxDischargeDepth := 30) (contextual := true) [State.islandOff, hc]
@[simp] theorem State.spirePower_canon (s : State) (req : Nat) (v : Word) (hc : s.Canon) : (State.spirePower s req v).Canon := by
  simp (maxDischargeDepth := 30) (contextual := true) [State.spirePower, hc]
@[simp] theorem State.islandReady_canon (s : State) (n : Nat) (hc : s.Canon) : (State.islandReady s n).Canon := by
  simp (maxDischargeDepth := 30) (contextual := true) [State.islandReady, hc]
@[simp] theorem State.thrCtl_canon (s : State) (v : Word) (hc : s.Canon) : (State.thrCtl s v).Canon := by simp [State.thrCtl, hc]
@[simp] theorem State.thermCfg_canon (s : State) (req : Nat) (v : Word) (hc : s.Canon) : (State.thermCfg s req v).Canon := by simp [State.thermCfg, hc]
@[simp] theorem State.thermTrip_canon (s : State) (i : Nat) (hc : s.Canon) : (State.thermTrip s i).Canon := by
  simp (maxDischargeDepth := 30) (contextual := true) [State.thermTrip, hc]
@[simp] theorem State.thermal_canon (s : State) (temps : List Byte) (hc : s.Canon) : (State.thermal s temps).Canon := by
  simp (maxDischargeDepth := 30) (contextual := true) [State.thermal, hc]
@[simp] theorem State.throttle_canon (s : State) (hc : s.Canon) : (State.throttle s).Canon := by simp [State.throttle, hc]
@[simp] theorem State.thrTick_canon (s : State) (hc : s.Canon) : (State.thrTick s).Canon := by
  simp (maxDischargeDepth := 30) (contextual := true) [State.thrTick, hc]
@[simp] theorem State.trainLost_canon (s : State) (c : Nat) (hc : s.Canon) : (State.trainLost s c).Canon := by
  simp (maxDischargeDepth := 30) (contextual := true) [State.trainLost, hc]
@[simp] theorem State.pllLock_canon (s : State) (p : Pll) (hc : s.Canon) : (State.pllLock s p).Canon := by
  unfold State.pllLock
  try dsimp only
  repeat' (first
    | (simp (maxDischargeDepth := 30) [*]; done)
    | intro _
    | (with_reducible first | apply State.canon_ite | apply State.canon_foldl | apply State.canon_foldl_snd | apply State.canon_foldl_fst)
    | (split <;> (try (rename_i q; obtain ⟨q1, q2⟩ := Prod.ext_iff.1 q; dsimp only at q1 q2; (try obtain ⟨q3, q4⟩ := Prod.ext_iff.1 q2); subst_vars))))
@[simp] theorem State.pllLoss_canon (s : State) (p : Pll) (hc : s.Canon) : (State.pllLoss s p).Canon := by
  unfold State.pllLoss
  try dsimp only
  repeat' (first
    | (simp (maxDischargeDepth := 30) [*]; done)
    | intro _
    | (with_reducible first | apply State.canon_ite | apply State.canon_foldl | apply State.canon_foldl_snd | apply State.canon_foldl_fst)
    | (split <;> (try (rename_i q; obtain ⟨q1, q2⟩ := Prod.ext_iff.1 q; dsimp only at q1 q2; (try obtain ⟨q3, q4⟩ := Prod.ext_iff.1 q2); subst_vars))))
@[simp] theorem State.resetPin_canon (s : State) (rise : Bool) (hc : s.Canon) : (State.resetPin s rise).Canon := by
  simp (maxDischargeDepth := 30) (contextual := true) [State.resetPin, hc]
@[simp] theorem State.railChange_canon (s : State) (r : Rail) (l : RailLevel) (hc : s.Canon) : (State.railChange s r l).Canon := by simp [State.railChange, hc]
@[simp] theorem State.perstRise_canon (s : State) (hc : s.Canon) : (State.perstRise s).Canon := by simp [State.perstRise, hc]
@[simp] theorem State.setCaps_canon (s : State) (i : Nat) (l : List TioCap) (hc : s.Canon) : (State.setCaps s i l).Canon := by simp [State.setCaps, hc]
@[simp] theorem State.capPost_canon (s : State) (i : Nat) (rise : Bool) (tm : BitVec 64) (cseq : Nat) (hc : s.Canon) : (State.capPost s i rise tm cseq).Canon := by simp [State.capPost, hc]
@[simp] theorem State.capture_canon (s : State) (i : Nat) (rise : Bool) (tm : BitVec 64) (hc : s.Canon) : (State.capture s i rise tm).Canon := by
  simp (maxDischargeDepth := 30) (contextual := true) [State.capture, hc]
@[simp] theorem State.inputEdge_canon (s : State) (i : Nat) (rise : Bool) (held : Nat) (hc : s.Canon) : (State.inputEdge s i rise held).Canon := by
  unfold State.inputEdge
  try dsimp only
  repeat' (first
    | (with_reducible assumption)
    | intro _
    | with_reducible apply State.canon_foldl
    | with_reducible apply State.canon_foldl_snd
    | with_reducible apply State.canon_foldl_fst
    | with_reducible apply State.canon_foldl_thd
    | with_reducible apply State.Canon.mem
    | with_reducible apply State.Canon.regs
    | (simp only [State.mk_canon]; refine ⟨?_, ?_⟩)
    | with_reducible apply Tab.wf_set'
    | with_reducible apply Tab.wf_filter'
    | with_reducible apply State.capture_canon
    | with_reducible apply State.modTio_canon
    | with_reducible apply State.triggerTick_canon
    | with_reducible apply State.canon_ite
    | with_reducible apply State.canon_ite2
    | with_reducible apply State.canon_ite3
    | dsimp only
    | (split <;> (try (rename_i heq; have q2 := congrArg Prod.snd heq; have q1 := congrArg Prod.fst heq; dsimp only at q1 q2; (try subst q1); first | subst q2 | (have q3 := congrArg Prod.snd q2; have q4 := congrArg Prod.fst q2; dsimp only at q3 q4; (try subst q4); subst q3)))))
@[simp] theorem State.capPop_canon (s : State) (i : Nat) (hc : s.Canon) : (State.capPop s i).Canon := by simp [State.capPop, hc]
@[simp] theorem State.enWrite_canon (s : State) (req a : Nat) (v keep : Word) (strict : Bool) (hc : s.Canon) : (State.enWrite s req a v keep strict).Canon := by
  simp (maxDischargeDepth := 30) (contextual := true) [State.enWrite, hc]
@[simp] theorem State.inCfgWrite_canon (s : State) (req i : Nat) (v : Word) (hc : s.Canon) : (State.inCfgWrite s req i v).Canon := by simp [State.inCfgWrite, hc]
@[simp] theorem State.inRingWrite_canon (s : State) (req i : Nat) (v : Word) (hc : s.Canon) : (State.inRingWrite s req i v).Canon := by simp [State.inRingWrite, hc]
@[simp] theorem State.encCfgWrite_canon (s : State) (req e : Nat) (v : Word) (hc : s.Canon) : (State.encCfgWrite s req e v).Canon := by simp [State.encCfgWrite, hc]
@[simp] theorem State.encCount_canon (s : State) (e : Nat) (fwd : Bool) (tm : BitVec 64) (hc : s.Canon) : (State.encCount s e fwd tm).Canon := by
  simp (maxDischargeDepth := 30) (contextual := true) [State.encCount, hc]
@[simp] theorem State.encStep_canon (s : State) (e : Nat) (a b : Bool) (tm : BitVec 64) (hc : s.Canon) : (State.encStep s e a b tm).Canon := by
  simp (maxDischargeDepth := 30) (contextual := true) [State.encStep, hc]
@[simp] theorem State.encoderCount_canon (s : State) (e : Nat) (a b : Bool) (heldA heldB : Nat) (hc : s.Canon) : (State.encoderCount s e a b heldA heldB).Canon := by
  unfold State.encoderCount
  try dsimp only
  repeat' (first
    | (with_reducible assumption)
    | intro _
    | with_reducible apply State.canon_foldl
    | with_reducible apply State.canon_foldl_snd
    | with_reducible apply State.canon_foldl_fst
    | with_reducible apply State.canon_foldl_thd
    | with_reducible apply State.Canon.mem
    | with_reducible apply State.Canon.regs
    | (simp only [State.mk_canon]; refine ⟨?_, ?_⟩)
    | with_reducible apply Tab.wf_set'
    | with_reducible apply Tab.wf_filter'
    | with_reducible apply State.encStep_canon
    | with_reducible apply State.canon_ite
    | with_reducible apply State.canon_ite2
    | with_reducible apply State.canon_ite3
    | dsimp only
    | (split <;> (try (rename_i heq; have q2 := congrArg Prod.snd heq; have q1 := congrArg Prod.fst heq; dsimp only at q1 q2; (try subst q1); first | subst q2 | (have q3 := congrArg Prod.snd q2; have q4 := congrArg Prod.fst q2; dsimp only at q3 q4; (try subst q4); subst q3)))))
@[simp] theorem State.encIndex_canon (s : State) (e : Nat) (high : Bool) (held : Nat) (hc : s.Canon) : (State.encIndex s e high held).Canon := by
  unfold State.encIndex
  try dsimp only
  repeat' (first
    | (with_reducible assumption)
    | intro _
    | with_reducible apply State.canon_foldl
    | with_reducible apply State.canon_foldl_snd
    | with_reducible apply State.canon_foldl_fst
    | with_reducible apply State.canon_foldl_thd
    | with_reducible apply State.Canon.mem
    | with_reducible apply State.Canon.regs
    | (simp only [State.mk_canon]; refine ⟨?_, ?_⟩)
    | with_reducible apply Tab.wf_set'
    | with_reducible apply Tab.wf_filter'
    | with_reducible apply State.modTio_canon
    | with_reducible apply State.raise_canon
    | with_reducible apply State.setReg_canon
    | with_reducible apply State.setReg64_canon
    | with_reducible apply State.canon_ite
    | with_reducible apply State.canon_ite2
    | with_reducible apply State.canon_ite3
    | dsimp only
    | (split <;> (try (rename_i heq; have q2 := congrArg Prod.snd heq; have q1 := congrArg Prod.fst heq; dsimp only at q1 q2; (try subst q1); first | subst q2 | (have q3 := congrArg Prod.snd q2; have q4 := congrArg Prod.fst q2; dsimp only at q3 q4; (try subst q4); subst q3)))))
@[simp] theorem State.modDch_canon (s : State) (c : Nat) (f : DramCh → DramCh) (hc : s.Canon) : (State.modDch s c f).Canon := by simp [State.modDch, hc]
@[simp] theorem State.dramRead_canon (s : State) (c a len req : Nat) (hc : s.Canon) : (State.dramRead s c a len req).2.2.Canon := by
  simp (maxDischargeDepth := 30) (contextual := true) [State.dramRead, hc]
@[simp] theorem State.ackMsg_canon (s : State) (nd : Nat) (m : Msg) (tag : Tag) (hc : s.Canon) : (State.ackMsg s nd m tag).Canon := by simp [State.ackMsg, hc]
@[simp] theorem State.answerWrites_canon (s : State) (nd a dst : Nat) (data : List Byte) (bad : List Nat) (tag : Tag) (hc : s.Canon) : (State.answerWrites s nd a dst data bad tag).Canon := by
  simp (maxDischargeDepth := 30) (contextual := true) [State.answerWrites, hc]
@[simp] theorem State.credBack_canon (s : State) (nd : Nat) (m : Msg) (hc : s.Canon) : (State.credBack s nd m).Canon := by simp [State.credBack, hc]
@[simp] theorem State.dramServe_canon (s : State) (c : Nat) (m : Msg) (hc : s.Canon) : (State.dramServe s c m).Canon := by
  unfold State.dramServe
  try dsimp only
  repeat' (first
    | (simp (maxDischargeDepth := 30) [*]; done)
    | intro _
    | (with_reducible first | apply State.canon_ite | apply State.canon_foldl | apply State.canon_foldl_snd | apply State.canon_foldl_fst)
    | (split <;> (try (rename_i q; obtain ⟨q1, q2⟩ := Prod.ext_iff.1 q; dsimp only at q1 q2; (try obtain ⟨q3, q4⟩ := Prod.ext_iff.1 q2); subst_vars))))
@[simp] theorem State.dramRequestServe_canon (s : State) (c i : Nat) (hc : s.Canon) : (State.dramRequestServe s c i).Canon := by
  unfold State.dramRequestServe
  try dsimp only
  repeat' (first
    | (simp (maxDischargeDepth := 30) [*]; done)
    | intro _
    | (with_reducible first | apply State.canon_ite | apply State.canon_foldl | apply State.canon_foldl_snd | apply State.canon_foldl_fst)
    | (split <;> (try (rename_i q; obtain ⟨q1, q2⟩ := Prod.ext_iff.1 q; dsimp only at q1 q2; (try obtain ⟨q3, q4⟩ := Prod.ext_iff.1 q2); subst_vars))))
@[simp] theorem State.dramTake_canon (s : State) (c : Nat) (m : Msg) (hc : s.Canon) : (State.dramTake s c m).Canon := by
  unfold State.dramTake
  try dsimp only
  repeat' (first
    | (simp (maxDischargeDepth := 30) [*]; done)
    | intro _
    | (with_reducible first | apply State.canon_ite | apply State.canon_foldl | apply State.canon_foldl_snd | apply State.canon_foldl_fst)
    | (split <;> (try (rename_i q; obtain ⟨q1, q2⟩ := Prod.ext_iff.1 q; dsimp only at q1 q2; (try obtain ⟨q3, q4⟩ := Prod.ext_iff.1 q2); subst_vars))))
@[simp] theorem State.dramScrub_canon (s : State) (c : Nat) (hc : s.Canon) : (State.dramScrub s c).Canon := by
  simp (maxDischargeDepth := 30) (contextual := true) [State.dramScrub, hc]
@[simp] theorem State.drcScrubCtl_canon (s : State) (c : Nat) (v : Word) (hc : s.Canon) : (State.drcScrubCtl s c v).Canon := by simp [State.drcScrubCtl, hc]
@[simp] theorem State.mr4_canon (s : State) (c a b : Nat) (hc : s.Canon) : (State.mr4 s c a b).Canon := by
  simp (maxDischargeDepth := 30) (contextual := true) [State.mr4, hc]
@[simp] theorem State.delayCorrection_canon (s : State) (c : Nat) (drift : Option (BitVec 16)) (hc : s.Canon) : (State.delayCorrection s c drift).Canon := by
  unfold State.delayCorrection
  try dsimp only
  repeat' (first
    | (simp (maxDischargeDepth := 30) [*]; done)
    | intro _
    | (with_reducible first | apply State.canon_ite | apply State.canon_foldl | apply State.canon_foldl_snd | apply State.canon_foldl_fst)
    | (split <;> (try (rename_i q; obtain ⟨q1, q2⟩ := Prod.ext_iff.1 q; dsimp only at q1 q2; (try obtain ⟨q3, q4⟩ := Prod.ext_iff.1 q2); subst_vars))))
@[simp] theorem State.refresh_canon (s : State) (u1 : Nat) (hc : s.Canon) : (State.refresh s u1).Canon := by simp [State.refresh, hc]
@[simp] theorem State.fallBack_canon (s : State) (hc : s.Canon) : (State.fallBack s).Canon := by
  simp (maxDischargeDepth := 30) (contextual := true) [State.fallBack, hc]
@[simp] theorem State.stageDone_canon (s : State) (v : Nat) (hc : s.Canon) : (State.stageDone s v).Canon := by simp [State.stageDone, hc]
@[simp] theorem State.stagePcie_canon (s : State) (hc : s.Canon) : (State.stagePcie s).Canon := by
  simp (maxDischargeDepth := 30) (contextual := true) [State.stagePcie, hc]
@[simp] theorem State.stageSram_canon (s : State) (failed : BitVec 34) (service : Bool) (hc : s.Canon) : (State.stageSram s failed service).Canon := by
  simp (maxDischargeDepth := 30) (contextual := true) [State.stageSram, hc]
@[simp] theorem State.stageLogic_canon (s : State) (failed : BitVec 34) (routers : Word) (service : Bool) (hc : s.Canon) : (State.stageLogic s failed routers service).Canon := by
  simp (maxDischargeDepth := 30) (contextual := true) [State.stageLogic, hc]
@[simp] theorem State.stageDramTrain_canon (s : State) (trained : Byte) (dens : Nat) (hc : s.Canon) : (State.stageDramTrain s trained dens).Canon := by
  simp (maxDischargeDepth := 30) (contextual := true) [State.stageDramTrain, hc]
@[simp] theorem State.stageVault_canon (s : State) (rows : List BadRow) (checkOk : Bool) (hc : s.Canon) : (State.stageVault s rows checkOk).Canon := by
  simp (maxDischargeDepth := 30) (contextual := true) [State.stageVault, hc]
@[simp] theorem State.stageDramTest_canon (s : State) (passed : Byte) (hc : s.Canon) : (State.stageDramTest s passed).Canon := by
  simp (maxDischargeDepth := 30) (contextual := true) [State.stageDramTest, hc]
@[simp] theorem State.mapReset_canon (s : State) (hc : s.Canon) : (State.mapReset s).Canon := by
  have hw : (((List.range 4).foldl (fun t a => t.axlMap a) s.warmOthers).modTb (fun b => { b with tickCnt := 0 })).Canon := by
    apply State.modTb_canon
    exact State.canon_foldl _ _ _ (State.warmOthers_canon s hc) (fun t x h => State.axlMap_canon t x h)
  unfold State.mapReset
  dsimp only
  generalize ((List.range 4).foldl (fun t a => t.axlMap a) s.warmOthers).modTb (fun b => { b with tickCnt := 0 }) = t at hw ⊢
  refine ⟨hw.mem, (Tab.wf_filterMap regReset _ ?_ t.regs hw.regs).1⟩
  intro x y h hx
  split at h
  · cases h
  · rename_i hv; cases h; exact ⟨rfl, hv⟩
@[simp] theorem State.stageMap_canon (s : State) (hc : s.Canon) : (State.stageMap s).Canon := by
  simp (maxDischargeDepth := 30) (contextual := true) [State.stageMap, hc]
@[simp] theorem State.readEffect_canon (s : State) (req a : Nat) (hc : s.Canon) : (State.readEffect s req a).Canon := by
  unfold State.readEffect
  try dsimp only
  repeat' (first
    | (simp (maxDischargeDepth := 30) [*]; done)
    | (split <;> (try (rename_i q; obtain ⟨q1, q2⟩ := Prod.ext_iff.1 q; dsimp only at q1 q2; (try obtain ⟨q3, q4⟩ := Prod.ext_iff.1 q2); subst_vars))))
@[simp] theorem State.readReg_canon (s : State) (req a : Nat) (hc : s.Canon) : (State.readReg s req a).2.Canon := by
  unfold State.readReg
  try dsimp only
  repeat' (first
    | (simp (maxDischargeDepth := 30) [*]; done)
    | intro _
    | (with_reducible first | apply State.canon_ite | apply State.canon_foldl | apply State.canon_foldl_snd | apply State.canon_foldl_fst)
    | (split <;> (try (rename_i q; obtain ⟨q1, q2⟩ := Prod.ext_iff.1 q; dsimp only at q1 q2; (try obtain ⟨q3, q4⟩ := Prod.ext_iff.1 q2); subst_vars))))
@[simp] theorem State.plainWrite_canon (s : State) (a : Nat) (v : Word) (hc : s.Canon) : (State.plainWrite s a v).Canon := by simp [State.plainWrite, hc]
@[simp] theorem State.keepBody_canon (s : State) (req a : Nat) (v : Word) (hc : s.Canon) : (State.keepBody s req a v).Canon := by
  unfold State.keepBody
  try dsimp only
  repeat' (first
    | (simp (maxDischargeDepth := 30) [*]; done)
    | (split <;> (try (rename_i q; obtain ⟨q1, q2⟩ := Prod.ext_iff.1 q; dsimp only at q1 q2; (try obtain ⟨q3, q4⟩ := Prod.ext_iff.1 q2); subst_vars))))
@[simp] theorem State.timeBody_canon (s : State) (req a : Nat) (v : Word) (hc : s.Canon) : (State.timeBody s req a v).Canon := by
  simp (maxDischargeDepth := 30) (contextual := true) [State.timeBody, hc]
@[simp] theorem State.belBody_canon (s : State) (req a : Nat) (v : Word) (hc : s.Canon) : (State.belBody s req a v).Canon := by
  simp (maxDischargeDepth := 30) (contextual := true) [State.belBody, hc]
@[simp] theorem State.dmaBody_canon (s : State) (req ch a : Nat) (v : Word) (hc : s.Canon) : (State.dmaBody s req ch a v).Canon := by
  simp (maxDischargeDepth := 30) (contextual := true) [State.dmaBody, hc]
@[simp] theorem State.tioBody_canon (s : State) (req a : Nat) (v : Word) (hc : s.Canon) : (State.tioBody s req a v).Canon := by
  simp (maxDischargeDepth := 30) (contextual := true) [State.tioBody, hc]
@[simp] theorem State.ringLen_canon (s : State) (req r : Nat) (v : Word) (hc : s.Canon) : (State.ringLen s req r v).Canon := by
  simp (maxDischargeDepth := 30) (contextual := true) [State.ringLen, hc]
@[simp] theorem State.ocuBody_canon (s : State) (req a : Nat) (v : Word) (hc : s.Canon) : (State.ocuBody s req a v).Canon := by
  simp (maxDischargeDepth := 30) (contextual := true) [State.ocuBody, hc]
@[simp] theorem State.msixWrite_canon (s : State) (a : Nat) (v : Word) (hc : s.Canon) : (State.msixWrite s a v).Canon := by
  simp (maxDischargeDepth := 30) (contextual := true) [State.msixWrite, hc]
@[simp] theorem State.spBody_canon (s : State) (req p a : Nat) (v : Word) (hc : s.Canon) : (State.spBody s req p a v).Canon := by
  simp (maxDischargeDepth := 30) (contextual := true) [State.spBody, hc]
@[simp] theorem State.axlBody_canon (s : State) (req l a : Nat) (v : Word) (hc : s.Canon) : (State.axlBody s req l a v).Canon := by
  simp (maxDischargeDepth := 30) (contextual := true) [State.axlBody, hc]
@[simp] theorem State.cpBody_canon (s : State) (n a : Nat) (v : Word) (hc : s.Canon) : (State.cpBody s n a v).Canon := by
  unfold State.cpBody
  try dsimp only
  repeat' (first
    | (simp (maxDischargeDepth := 30) [*]; done)
    | (split <;> (try (rename_i q; obtain ⟨q1, q2⟩ := Prod.ext_iff.1 q; dsimp only at q1 q2; (try obtain ⟨q3, q4⟩ := Prod.ext_iff.1 q2); subst_vars))))
@[simp] theorem State.setSew_canon (s : State) (n sew : Nat) (hc : s.Canon) : (State.setSew s n sew).Canon := by simp [State.setSew, hc]
@[simp] theorem State.vuBody_canon (s : State) (req n a : Nat) (v : Word) (hc : s.Canon) : (State.vuBody s req n a v).Canon := by
  simp (maxDischargeDepth := 30) (contextual := true) [State.vuBody, hc]
@[simp] theorem State.vltBody_canon (s : State) (req n a : Nat) (v : Word) (hc : s.Canon) : (State.vltBody s req n a v).Canon := by
  simp (maxDischargeDepth := 30) (contextual := true) [State.vltBody, hc]
@[simp] theorem State.domeBody_canon (s : State) (req n a : Nat) (v : Word) (hc : s.Canon) : (State.domeBody s req n a v).Canon := by
  simp (maxDischargeDepth := 30) (contextual := true) [State.domeBody, hc]
@[simp] theorem State.ctrCmd_canon (s : State) (n : Nat) (v : Word) (hc : s.Canon) : (State.ctrCmd s n v).Canon := by simp [State.ctrCmd, hc]
@[simp] theorem State.evtBody_canon (s : State) (n a : Nat) (v : Word) (hc : s.Canon) : (State.evtBody s n a v).Canon := by
  simp (maxDischargeDepth := 30) (contextual := true) [State.evtBody, hc]
@[simp] theorem State.bodyWrite_canon (s : State) (req a : Nat) (v : Word) (hc : s.Canon) : (State.bodyWrite s req a v).Canon := by
  unfold State.bodyWrite
  dsimp only
  cases h : isMsix a
  · cases descAt a with
    | none => exact hc
    | some x =>
      simp only [Bool.false_eq_true, if_false]
      repeat' (first
        | (with_reducible assumption)
            | intro _
        | with_reducible apply State.canon_foldl
        | with_reducible apply State.canon_foldl_snd
        | with_reducible apply State.canon_foldl_fst
        | with_reducible apply State.canon_foldl_thd
        | with_reducible apply State.Canon.mem
        | with_reducible apply State.Canon.regs
        | (simp only [State.mk_canon]; refine ⟨?_, ?_⟩)
        | with_reducible apply Tab.wf_set'
        | with_reducible apply Tab.wf_filter'
        | with_reducible apply State.axlBody_canon
        | with_reducible apply State.belBody_canon
        | with_reducible apply State.cpBody_canon
        | with_reducible apply State.dmaBody_canon
        | with_reducible apply State.domeBody_canon
        | with_reducible apply State.drcScrubCtl_canon
        | with_reducible apply State.evtBody_canon
        | with_reducible apply State.keepBody_canon
        | with_reducible apply State.lanCtl_canon
        | with_reducible apply State.lanPreWrite_canon
        | with_reducible apply State.msixWrite_canon
        | with_reducible apply State.ocuBody_canon
        | with_reducible apply State.plainWrite_canon
        | with_reducible apply State.spBody_canon
        | with_reducible apply State.strWrite_canon
        | with_reducible apply State.timeBody_canon
        | with_reducible apply State.tioBody_canon
        | with_reducible apply State.vltBody_canon
        | with_reducible apply State.vuBody_canon
        | with_reducible apply State.canon_ite
        | with_reducible apply State.canon_ite2
        | with_reducible apply State.canon_ite3
        | dsimp only
        | with_reducible apply State.canon_ite
        | split)
  · exact State.msixWrite_canon _ _ _ hc
@[simp] theorem State.lockedWrite_canon (s : State) (req a off : Nat) (v : Word) (hc : s.Canon) : (State.lockedWrite s req a off v).Canon := by
  unfold State.lockedWrite
  try dsimp only
  repeat' (first
    | (simp (maxDischargeDepth := 30) [*]; done)
    | intro _
    | (with_reducible first | apply State.canon_ite | apply State.canon_foldl | apply State.canon_foldl_snd | apply State.canon_foldl_fst)
    | (split <;> (try (rename_i q; obtain ⟨q1, q2⟩ := Prod.ext_iff.1 q; dsimp only at q1 q2; (try obtain ⟨q3, q4⟩ := Prod.ext_iff.1 q2); subst_vars))))
@[simp] theorem State.bodyStore_canon (s : State) (req a off : Nat) (v : Word) (hc : s.Canon) : (State.bodyStore s req a off v).Canon := by simp [State.bodyStore, hc]
@[simp] theorem State.setEn_canon (s : State) (p : Nat) (en : Bool) (hc : s.Canon) : (State.setEn s p en).Canon := by
  simp (maxDischargeDepth := 30) (contextual := true) [State.setEn, hc]
@[simp] theorem State.blkRstRefused_canon (s : State) (req p : Nat) (hc : s.Canon) : (State.blkRstRefused s req p).Canon := by simp [State.blkRstRefused, hc]
@[simp] theorem State.blkCtl_canon (s : State) (req p : Nat) (v : Word) (hc : s.Canon) : (State.blkCtl s req p v).Canon := by
  simp (maxDischargeDepth := 30) (contextual := true) [State.blkCtl, hc]
@[simp] theorem State.intClear_canon (s : State) (p : Nat) (v : Word) (hc : s.Canon) : (State.intClear s p v).Canon := by simp [State.intClear, hc]
@[simp] theorem State.intEn_canon (s : State) (p : Nat) (v : Word) (hc : s.Canon) : (State.intEn s p v).Canon := by simp [State.intEn, hc]
@[simp] theorem State.intForce_canon (s : State) (p : Nat) (v : Word) (hc : s.Canon) : (State.intForce s p v).Canon := by
  simp (maxDischargeDepth := 30) (contextual := true) [State.intForce, hc]
@[simp] theorem State.lockWrite_canon (s : State) (p : Nat) (v : Word) (hc : s.Canon) : (State.lockWrite s p v).Canon := by simp [State.lockWrite, hc]
@[simp] theorem State.hdrWrite_canon (s : State) (req p o : Nat) (v : Word) (hc : s.Canon) : (State.hdrWrite s req p o v).Canon := by
  simp (maxDischargeDepth := 30) (contextual := true) [State.hdrWrite, hc]
@[simp] theorem State.openWrite_canon (s : State) (req a : Nat) (v : Word) (hc : s.Canon) : (State.openWrite s req a v).Canon := by
  unfold State.openWrite
  try dsimp only
  repeat' (first
    | (simp (maxDischargeDepth := 30) [*]; done)
    | intro _
    | (with_reducible first | apply State.canon_ite | apply State.canon_foldl | apply State.canon_foldl_snd | apply State.canon_foldl_fst)
    | (split <;> (try (rename_i q; obtain ⟨q1, q2⟩ := Prod.ext_iff.1 q; dsimp only at q1 q2; (try obtain ⟨q3, q4⟩ := Prod.ext_iff.1 q2); subst_vars))))
@[simp] theorem State.writeReg_canon (s : State) (req a : Nat) (v : Word) (hc : s.Canon) : (State.writeReg s req a v).Canon := by
  simp (maxDischargeDepth := 30) (contextual := true) [State.writeReg, hc]
@[simp] theorem State.regWrite_canon (s : State) (req a width : Nat) (v : Word) (hc : s.Canon) : (State.regWrite s req a width v).Canon := by simp [State.regWrite, hc]
@[simp] theorem State.wordRead_canon (s : State) (req a width : Nat) (hc : s.Canon) : (State.wordRead s req a width).Canon := by
  simp (maxDischargeDepth := 30) (contextual := true) [State.wordRead, hc]
@[simp] theorem State.regRead_canon (s : State) (req a width : Nat) (hc : s.Canon) : (State.regRead s req a width).Canon := by
  simp (maxDischargeDepth := 30) (contextual := true) [State.regRead, hc]
@[simp] theorem State.refuseMsg_canon (s : State) (nd src k : Nat) (hc : s.Canon) : (State.refuseMsg s nd src k).Canon := by
  simp (maxDischargeDepth := 30) (contextual := true) [State.refuseMsg, hc]
@[simp] theorem State.pwReg_canon (s : State) (src : Nat) (cells : List (Nat × Byte)) (hc : s.Canon) : (State.pwReg s src cells).Canon := by
  unfold State.pwReg
  try dsimp only
  repeat' (first
    | (simp (maxDischargeDepth := 30) [*]; done)
    | intro _
    | (with_reducible first | apply State.canon_ite | apply State.canon_foldl | apply State.canon_foldl_snd | apply State.canon_foldl_fst)
    | (split <;> (try (rename_i q; obtain ⟨q1, q2⟩ := Prod.ext_iff.1 q; dsimp only at q1 q2; (try obtain ⟨q3, q4⟩ := Prod.ext_iff.1 q2); subst_vars))))
@[simp] theorem State.pwFire_canon (s : State) (cells : List (Nat × Byte)) (hc : s.Canon) : (State.pwFire s cells).Canon := by
  simp (maxDischargeDepth := 30) (contextual := true) [State.pwFire, hc]
@[simp] theorem State.pwArrive_canon (s : State) (m : Msg) (cells : List (Nat × Byte)) (pois : List Nat) (arr : Option Ctr) (landing : Bool) (tag : Tag) (hc : s.Canon) : (State.pwArrive s m cells pois arr landing tag).Canon := by
  unfold State.pwArrive
  try dsimp only
  repeat' (first
    | (simp (maxDischargeDepth := 30) [*]; done)
    | intro _
    | (with_reducible first | apply State.canon_ite | apply State.canon_foldl | apply State.canon_foldl_snd | apply State.canon_foldl_fst)
    | (split <;> (try (rename_i q; obtain ⟨q1, q2⟩ := Prod.ext_iff.1 q; dsimp only at q1 q2; (try obtain ⟨q3, q4⟩ := Prod.ext_iff.1 q2); subst_vars))))
@[simp] theorem State.nodeRead_canon (s : State) (src a n : Nat) (hc : s.Canon) : (State.nodeRead s src a n).2.2.2.Canon := by
  unfold State.nodeRead
  try dsimp only
  repeat' (first
    | (with_reducible assumption)
    | intro _
    | with_reducible apply State.canon_foldl
    | with_reducible apply State.canon_foldl_snd
    | with_reducible apply State.canon_foldl_fst
    | with_reducible apply State.canon_foldl_thd
    | with_reducible apply State.Canon.mem
    | with_reducible apply State.Canon.regs
    | (simp only [State.mk_canon]; refine ⟨?_, ?_⟩)
    | with_reducible apply Tab.wf_set'
    | with_reducible apply Tab.wf_filter'
    | with_reducible apply State.freeBytes_canon
    | with_reducible apply State.offAccess_canon
    | with_reducible apply State.readReg_canon
    | with_reducible apply State.unmapped_canon
    | (refine State.vaultRead_canon (by assumption) ?_)
    | with_reducible apply State.canon_ite
    | with_reducible apply State.canon_ite2
    | with_reducible apply State.canon_ite3
    | dsimp only
    | (split <;> (try (rename_i heq; have q2 := congrArg Prod.snd heq; have q1 := congrArg Prod.fst heq; dsimp only at q1 q2; (try subst q1); first | subst q2 | (have q3 := congrArg Prod.snd q2; have q4 := congrArg Prod.fst q2; dsimp only at q3 q4; (try subst q4); subst q3)))))
@[simp] theorem State.rreqArrive_canon (s : State) (m : Msg) (a len dst : Nat) (tag : Tag) (hc : s.Canon) : (State.rreqArrive s m a len dst tag).Canon := by
  simp (maxDischargeDepth := 30) (contextual := true) [State.rreqArrive, hc]
@[simp] theorem State.rdArrive_canon (s : State) (m : Msg) (a len : Nat) (tag : Tag) (hc : s.Canon) : (State.rdArrive s m a len tag).Canon := by
  unfold State.rdArrive
  try dsimp only
  repeat' (first
    | (with_reducible assumption)
    | intro _
    | with_reducible apply State.canon_foldl
    | with_reducible apply State.canon_foldl_snd
    | with_reducible apply State.canon_foldl_fst
    | with_reducible apply State.canon_foldl_thd
    | with_reducible apply State.Canon.mem
    | with_reducible apply State.Canon.regs
    | (simp only [State.mk_canon]; refine ⟨?_, ?_⟩)
    | with_reducible apply Tab.wf_set'
    | with_reducible apply Tab.wf_filter'
    | with_reducible apply State.credBack_canon
    | with_reducible apply State.dramTake_canon
    | with_reducible apply State.lanAsk_canon
    | with_reducible apply State.nodeRead_canon
    | with_reducible apply State.post_canon
    | with_reducible apply State.canon_ite
    | with_reducible apply State.canon_ite2
    | with_reducible apply State.canon_ite3
    | dsimp only
    | (split <;> (try (rename_i heq; have q2 := congrArg Prod.snd heq; have q1 := congrArg Prod.fst heq; dsimp only at q1 q2; (try subst q1); first | subst q2 | (have q3 := congrArg Prod.snd q2; have q4 := congrArg Prod.fst q2; dsimp only at q3 q4; (try subst q4); subst q3)))))
@[simp] theorem State.giveBack_canon (s : State) (tag : Tag) (a : Nat) (data : List Byte) (pois : List Nat) (off : Bool) (hc : s.Canon) : (State.giveBack s tag a data pois off).Canon := by simp [State.giveBack, hc]
@[simp] theorem State.rdrArrive_canon (s : State) (a : Nat) (data : List Byte) (pois : List Nat) (off : Bool) (tag : Tag) (hc : s.Canon) : (State.rdrArrive s a data pois off tag).Canon := by
  unfold State.rdrArrive
  try dsimp only
  repeat' (first
    | (simp (maxDischargeDepth := 30) [*]; done)
    | intro _
    | (with_reducible first | apply State.canon_ite | apply State.canon_foldl | apply State.canon_foldl_snd | apply State.canon_foldl_fst)
    | (split <;> (try (rename_i q; obtain ⟨q1, q2⟩ := Prod.ext_iff.1 q; dsimp only at q1 q2; (try obtain ⟨q3, q4⟩ := Prod.ext_iff.1 q2); subst_vars))))
@[simp] theorem State.incArrive_canon (s : State) (m : Msg) (k : Nat) (amt : Nat) (hc : s.Canon) : (State.incArrive s m k amt).Canon := by
  simp (maxDischargeDepth := 30) (contextual := true) [State.incArrive, hc]
@[simp] theorem State.ackArrive_canon (s : State) (nd id : Nat) (tag : Tag) (hc : s.Canon) : (State.ackArrive s nd id tag).Canon := by
  unfold State.ackArrive
  try dsimp only
  repeat' (first
    | (simp (maxDischargeDepth := 30) [*]; done)
    | intro _
    | (with_reducible first | apply State.canon_ite | apply State.canon_foldl | apply State.canon_foldl_snd | apply State.canon_foldl_fst)
    | (split <;> (try (rename_i q; obtain ⟨q1, q2⟩ := Prod.ext_iff.1 q; dsimp only at q1 q2; (try obtain ⟨q3, q4⟩ := Prod.ext_iff.1 q2); subst_vars))))
@[simp] theorem State.rcredArrive_canon (s : State) (nd src : Nat) (hc : s.Canon) : (State.rcredArrive s nd src).Canon := by
  simp (maxDischargeDepth := 30) (contextual := true) [State.rcredArrive, hc]
@[simp] theorem State.tcArrive_canon (s : State) (n : Nat) (hc : s.Canon) : (State.tcArrive s n).Canon := by simp [State.tcArrive, hc]
@[simp] theorem State.hbArrive_canon (s : State) (n : Nat) (hc : s.Canon) : (State.hbArrive s n).Canon := by simp [State.hbArrive, hc]
@[simp] theorem State.arrive_canon (s : State) (m : Msg) (h : Header) (ok : Bool) (cells : List (Nat × Byte)) (f : State → State) (hc : s.Canon) (hf : ∀ t : State, t.Canon → (f t).Canon) : (State.arrive s m h ok cells f).Canon := by
  unfold State.arrive
  try dsimp only
  repeat' (first
    | (with_reducible assumption)
    | with_reducible apply hf
    | intro _
    | with_reducible apply State.canon_foldl
    | with_reducible apply State.canon_foldl_snd
    | with_reducible apply State.canon_foldl_fst
    | with_reducible apply State.canon_foldl_thd
    | with_reducible apply State.Canon.mem
    | with_reducible apply State.Canon.regs
    | (simp only [State.mk_canon]; refine ⟨?_, ?_⟩)
    | with_reducible apply Tab.wf_set'
    | with_reducible apply Tab.wf_filter'
    | with_reducible apply State.corrected_canon
    | with_reducible apply State.faultLine_canon
    | with_reducible apply State.refuseMsg_canon
    | with_reducible apply State.takeMsg_canon
    | with_reducible apply State.canon_ite
    | with_reducible apply State.canon_ite2
    | with_reducible apply State.canon_ite3
    | dsimp only
    | (split <;> (try (rename_i heq; have q2 := congrArg Prod.snd heq; have q1 := congrArg Prod.fst heq; dsimp only at q1 q2; (try subst q1); first | subst q2 | (have q3 := congrArg Prod.snd q2; have q4 := congrArg Prod.fst q2; dsimp only at q3 q4; (try subst q4); subst q3)))))
@[simp] theorem State.meshPw_canon (s : State) (m : Msg) (h : Header) (hc : s.Canon) : (State.meshPw s m h).Canon := by
  unfold State.meshPw
  try dsimp only
  repeat' (first
    | (with_reducible assumption)
    | intro _
    | with_reducible apply State.canon_foldl
    | with_reducible apply State.canon_foldl_snd
    | with_reducible apply State.canon_foldl_fst
    | with_reducible apply State.canon_foldl_thd
    | with_reducible apply State.Canon.mem
    | with_reducible apply State.Canon.regs
    | (simp only [State.mk_canon]; refine ⟨?_, ?_⟩)
    | with_reducible apply Tab.wf_set'
    | with_reducible apply Tab.wf_filter'
    | with_reducible apply State.arrive_canon
    | with_reducible apply State.pwArrive_canon
    | with_reducible apply State.canon_ite
    | with_reducible apply State.canon_ite2
    | with_reducible apply State.canon_ite3
    | dsimp only
    | (split <;> (try (rename_i heq; have q2 := congrArg Prod.snd heq; have q1 := congrArg Prod.fst heq; dsimp only at q1 q2; (try subst q1); first | subst q2 | (have q3 := congrArg Prod.snd q2; have q4 := congrArg Prod.fst q2; dsimp only at q3 q4; (try subst q4); subst q3)))))
@[simp] theorem State.meshRreq_canon (s : State) (m : Msg) (h : Header) (hc : s.Canon) : (State.meshRreq s m h).Canon := by
  unfold State.meshRreq
  try dsimp only
  repeat' (first
    | (with_reducible assumption)
    | intro _
    | with_reducible apply State.canon_foldl
    | with_reducible apply State.canon_foldl_snd
    | with_reducible apply State.canon_foldl_fst
    | with_reducible apply State.canon_foldl_thd
    | with_reducible apply State.Canon.mem
    | with_reducible apply State.Canon.regs
    | (simp only [State.mk_canon]; refine ⟨?_, ?_⟩)
    | with_reducible apply Tab.wf_set'
    | with_reducible apply Tab.wf_filter'
    | with_reducible apply State.arrive_canon
    | with_reducible apply State.rreqArrive_canon
    | with_reducible apply State.canon_ite
    | with_reducible apply State.canon_ite2
    | with_reducible apply State.canon_ite3
    | dsimp only
    | (split <;> (try (rename_i heq; have q2 := congrArg Prod.snd heq; have q1 := congrArg Prod.fst heq; dsimp only at q1 q2; (try subst q1); first | subst q2 | (have q3 := congrArg Prod.snd q2; have q4 := congrArg Prod.fst q2; dsimp only at q3 q4; (try subst q4); subst q3)))))
@[simp] theorem State.meshRd_canon (s : State) (m : Msg) (h : Header) (hc : s.Canon) : (State.meshRd s m h).Canon := by
  unfold State.meshRd
  try dsimp only
  repeat' (first
    | (with_reducible assumption)
    | intro _
    | with_reducible apply State.canon_foldl
    | with_reducible apply State.canon_foldl_snd
    | with_reducible apply State.canon_foldl_fst
    | with_reducible apply State.canon_foldl_thd
    | with_reducible apply State.Canon.mem
    | with_reducible apply State.Canon.regs
    | (simp only [State.mk_canon]; refine ⟨?_, ?_⟩)
    | with_reducible apply Tab.wf_set'
    | with_reducible apply Tab.wf_filter'
    | with_reducible apply State.arrive_canon
    | with_reducible apply State.rdArrive_canon
    | with_reducible apply State.canon_ite
    | with_reducible apply State.canon_ite2
    | with_reducible apply State.canon_ite3
    | dsimp only
    | (split <;> (try (rename_i heq; have q2 := congrArg Prod.snd heq; have q1 := congrArg Prod.fst heq; dsimp only at q1 q2; (try subst q1); first | subst q2 | (have q3 := congrArg Prod.snd q2; have q4 := congrArg Prod.fst q2; dsimp only at q3 q4; (try subst q4); subst q3)))))
@[simp] theorem State.meshRdr_canon (s : State) (m : Msg) (h : Header) (hc : s.Canon) : (State.meshRdr s m h).Canon := by
  unfold State.meshRdr
  try dsimp only
  repeat' (first
    | (with_reducible assumption)
    | intro _
    | with_reducible apply State.canon_foldl
    | with_reducible apply State.canon_foldl_snd
    | with_reducible apply State.canon_foldl_fst
    | with_reducible apply State.canon_foldl_thd
    | with_reducible apply State.Canon.mem
    | with_reducible apply State.Canon.regs
    | (simp only [State.mk_canon]; refine ⟨?_, ?_⟩)
    | with_reducible apply Tab.wf_set'
    | with_reducible apply Tab.wf_filter'
    | with_reducible apply State.arrive_canon
    | with_reducible apply State.rdrArrive_canon
    | with_reducible apply State.canon_ite
    | with_reducible apply State.canon_ite2
    | with_reducible apply State.canon_ite3
    | dsimp only
    | (split <;> (try (rename_i heq; have q2 := congrArg Prod.snd heq; have q1 := congrArg Prod.fst heq; dsimp only at q1 q2; (try subst q1); first | subst q2 | (have q3 := congrArg Prod.snd q2; have q4 := congrArg Prod.fst q2; dsimp only at q3 q4; (try subst q4); subst q3)))))
@[simp] theorem State.meshInc_canon (s : State) (m : Msg) (h : Header) (hc : s.Canon) : (State.meshInc s m h).Canon := by
  unfold State.meshInc
  try dsimp only
  repeat' (first
    | (with_reducible assumption)
    | intro _
    | with_reducible apply State.canon_foldl
    | with_reducible apply State.canon_foldl_snd
    | with_reducible apply State.canon_foldl_fst
    | with_reducible apply State.canon_foldl_thd
    | with_reducible apply State.Canon.mem
    | with_reducible apply State.Canon.regs
    | (simp only [State.mk_canon]; refine ⟨?_, ?_⟩)
    | with_reducible apply Tab.wf_set'
    | with_reducible apply Tab.wf_filter'
    | with_reducible apply State.arrive_canon
    | with_reducible apply State.incArrive_canon
    | with_reducible apply State.canon_ite
    | with_reducible apply State.canon_ite2
    | with_reducible apply State.canon_ite3
    | dsimp only
    | (split <;> (try (rename_i heq; have q2 := congrArg Prod.snd heq; have q1 := congrArg Prod.fst heq; dsimp only at q1 q2; (try subst q1); first | subst q2 | (have q3 := congrArg Prod.snd q2; have q4 := congrArg Prod.fst q2; dsimp only at q3 q4; (try subst q4); subst q3)))))
@[simp] theorem State.meshAck_canon (s : State) (m : Msg) (h : Header) (hc : s.Canon) : (State.meshAck s m h).Canon := by
  unfold State.meshAck
  try dsimp only
  repeat' (first
    | (with_reducible assumption)
    | intro _
    | with_reducible apply State.canon_foldl
    | with_reducible apply State.canon_foldl_snd
    | with_reducible apply State.canon_foldl_fst
    | with_reducible apply State.canon_foldl_thd
    | with_reducible apply State.Canon.mem
    | with_reducible apply State.Canon.regs
    | (simp only [State.mk_canon]; refine ⟨?_, ?_⟩)
    | with_reducible apply Tab.wf_set'
    | with_reducible apply Tab.wf_filter'
    | with_reducible apply State.ackArrive_canon
    | with_reducible apply State.arrive_canon
    | with_reducible apply State.canon_ite
    | with_reducible apply State.canon_ite2
    | with_reducible apply State.canon_ite3
    | dsimp only
    | (split <;> (try (rename_i heq; have q2 := congrArg Prod.snd heq; have q1 := congrArg Prod.fst heq; dsimp only at q1 q2; (try subst q1); first | subst q2 | (have q3 := congrArg Prod.snd q2; have q4 := congrArg Prod.fst q2; dsimp only at q3 q4; (try subst q4); subst q3)))))
@[simp] theorem State.meshRcred_canon (s : State) (m : Msg) (h : Header) (hc : s.Canon) : (State.meshRcred s m h).Canon := by
  unfold State.meshRcred
  try dsimp only
  repeat' (first
    | (with_reducible assumption)
    | intro _
    | with_reducible apply State.canon_foldl
    | with_reducible apply State.canon_foldl_snd
    | with_reducible apply State.canon_foldl_fst
    | with_reducible apply State.canon_foldl_thd
    | with_reducible apply State.Canon.mem
    | with_reducible apply State.Canon.regs
    | (simp only [State.mk_canon]; refine ⟨?_, ?_⟩)
    | with_reducible apply Tab.wf_set'
    | with_reducible apply Tab.wf_filter'
    | with_reducible apply State.arrive_canon
    | with_reducible apply State.rcredArrive_canon
    | with_reducible apply State.canon_ite
    | with_reducible apply State.canon_ite2
    | with_reducible apply State.canon_ite3
    | dsimp only
    | (split <;> (try (rename_i heq; have q2 := congrArg Prod.snd heq; have q1 := congrArg Prod.fst heq; dsimp only at q1 q2; (try subst q1); first | subst q2 | (have q3 := congrArg Prod.snd q2; have q4 := congrArg Prod.fst q2; dsimp only at q3 q4; (try subst q4); subst q3)))))
@[simp] theorem State.meshTc_canon (s : State) (m : Msg) (h : Header) (hc : s.Canon) : (State.meshTc s m h).Canon := by
  unfold State.meshTc
  try dsimp only
  repeat' (first
    | (with_reducible assumption)
    | intro _
    | with_reducible apply State.canon_foldl
    | with_reducible apply State.canon_foldl_snd
    | with_reducible apply State.canon_foldl_fst
    | with_reducible apply State.canon_foldl_thd
    | with_reducible apply State.Canon.mem
    | with_reducible apply State.Canon.regs
    | (simp only [State.mk_canon]; refine ⟨?_, ?_⟩)
    | with_reducible apply Tab.wf_set'
    | with_reducible apply Tab.wf_filter'
    | with_reducible apply State.arrive_canon
    | with_reducible apply State.tcArrive_canon
    | with_reducible apply State.canon_ite
    | with_reducible apply State.canon_ite2
    | with_reducible apply State.canon_ite3
    | dsimp only
    | (split <;> (try (rename_i heq; have q2 := congrArg Prod.snd heq; have q1 := congrArg Prod.fst heq; dsimp only at q1 q2; (try subst q1); first | subst q2 | (have q3 := congrArg Prod.snd q2; have q4 := congrArg Prod.fst q2; dsimp only at q3 q4; (try subst q4); subst q3)))))
@[simp] theorem State.meshHb_canon (s : State) (m : Msg) (h : Header) (hc : s.Canon) : (State.meshHb s m h).Canon := by
  unfold State.meshHb
  try dsimp only
  repeat' (first
    | (with_reducible assumption)
    | intro _
    | with_reducible apply State.canon_foldl
    | with_reducible apply State.canon_foldl_snd
    | with_reducible apply State.canon_foldl_fst
    | with_reducible apply State.canon_foldl_thd
    | with_reducible apply State.Canon.mem
    | with_reducible apply State.Canon.regs
    | (simp only [State.mk_canon]; refine ⟨?_, ?_⟩)
    | with_reducible apply Tab.wf_set'
    | with_reducible apply Tab.wf_filter'
    | with_reducible apply State.arrive_canon
    | with_reducible apply State.hbArrive_canon
    | with_reducible apply State.canon_ite
    | with_reducible apply State.canon_ite2
    | with_reducible apply State.canon_ite3
    | dsimp only
    | (split <;> (try (rename_i heq; have q2 := congrArg Prod.snd heq; have q1 := congrArg Prod.fst heq; dsimp only at q1 q2; (try subst q1); first | subst q2 | (have q3 := congrArg Prod.snd q2; have q4 := congrArg Prod.fst q2; dsimp only at q3 q4; (try subst q4); subst q3)))))
@[simp] theorem State.releaseHeld_canon (s : State) (src : Nat) (hc : s.Canon) : (State.releaseHeld s src).Canon := by
  unfold State.releaseHeld
  try dsimp only
  repeat' (first
    | (simp (maxDischargeDepth := 30) [*]; done)
    | intro _
    | (with_reducible first | apply State.canon_ite | apply State.canon_foldl | apply State.canon_foldl_snd | apply State.canon_foldl_fst)
    | (split <;> (try (rename_i q; obtain ⟨q1, q2⟩ := Prod.ext_iff.1 q; dsimp only at q1 q2; (try obtain ⟨q3, q4⟩ := Prod.ext_iff.1 q2); subst_vars))))
@[simp] theorem State.cpPageRead_canon (s : State) (n a : Nat) (hc : s.Canon) : (State.cpPageRead s n a).2.Canon := by
  unfold State.cpPageRead
  try dsimp only
  repeat' (first
    | (simp (maxDischargeDepth := 30) [*]; done)
    | intro _
    | (with_reducible first | apply State.canon_ite | apply State.canon_foldl | apply State.canon_foldl_snd | apply State.canon_foldl_fst)
    | (split <;> (try (rename_i q; obtain ⟨q1, q2⟩ := Prod.ext_iff.1 q; dsimp only at q1 q2; (try obtain ⟨q3, q4⟩ := Prod.ext_iff.1 q2); subst_vars))))
@[simp] theorem State.aperAsk_canon (s : State) (n g len : Nat) (write : Bool) (b : List Byte) (hc : s.Canon) : (State.aperAsk s n g len write b).2.Canon := by
  unfold State.aperAsk
  try dsimp only
  repeat' (first
    | (with_reducible assumption)
    | intro _
    | with_reducible apply State.canon_foldl
    | with_reducible apply State.canon_foldl_snd
    | with_reducible apply State.canon_foldl_fst
    | with_reducible apply State.canon_foldl_thd
    | with_reducible apply State.Canon.mem
    | with_reducible apply State.Canon.regs
    | (simp only [State.mk_canon]; refine ⟨?_, ?_⟩)
    | with_reducible apply Tab.wf_set'
    | with_reducible apply Tab.wf_filter'
    | with_reducible apply State.modCore_canon
    | with_reducible apply State.post_canon
    | with_reducible apply State.postRead_canon
    | with_reducible apply State.canon_ite
    | with_reducible apply State.canon_ite2
    | with_reducible apply State.canon_ite3
    | dsimp only
    | (split <;> (try (rename_i heq; have q2 := congrArg Prod.snd heq; have q1 := congrArg Prod.fst heq; dsimp only at q1 q2; (try subst q1); first | subst q2 | (have q3 := congrArg Prod.snd q2; have q4 := congrArg Prod.fst q2; dsimp only at q3 q4; (try subst q4); subst q3)))))
@[simp] theorem State.partRead_canon (s : State) (n a len : Nat) (hc : s.Canon) : (State.partRead s n a len).2.2.Canon := by
  unfold State.partRead
  try dsimp only
  repeat' (first
    | (simp (maxDischargeDepth := 30) [*]; done)
    | intro _
    | (with_reducible first | apply State.canon_ite | apply State.canon_foldl | apply State.canon_foldl_snd | apply State.canon_foldl_fst)
    | (split <;> (try (rename_i q; obtain ⟨q1, q2⟩ := Prod.ext_iff.1 q; dsimp only at q1 q2; (try obtain ⟨q3, q4⟩ := Prod.ext_iff.1 q2); subst_vars))))
@[simp] theorem State.narrowRead_canon (s : State) (n a len : Nat) (hc : s.Canon) : (State.narrowRead s n a len).2.2.Canon := by
  unfold State.narrowRead
  try dsimp only
  repeat' (first
    | (with_reducible assumption)
    | intro _
    | with_reducible apply State.canon_foldl
    | with_reducible apply State.canon_foldl_snd
    | with_reducible apply State.canon_foldl_fst
    | with_reducible apply State.canon_foldl_thd
    | with_reducible apply State.Canon.mem
    | with_reducible apply State.Canon.regs
    | (simp only [State.mk_canon]; refine ⟨?_, ?_⟩)
    | with_reducible apply Tab.wf_set'
    | with_reducible apply Tab.wf_filter'
    | with_reducible apply State.partRead_canon
    | (split <;> (try (rename_i heq; have q2 := congrArg Prod.snd heq; have q1 := congrArg Prod.fst heq; dsimp only at q1 q2; (try subst q1); first | subst q2 | (have q3 := congrArg Prod.snd q2; have q4 := congrArg Prod.fst q2; dsimp only at q3 q4; (try subst q4); subst q3)))))
@[simp] theorem State.sbPresent_canon (s : State) (n : Nat) (e : SbEntry) (hc : s.Canon) : (State.sbPresent s n e).Canon := by
  unfold State.sbPresent
  try dsimp only
  repeat' (first
    | (simp (maxDischargeDepth := 30) [*]; done)
    | intro _
    | (with_reducible first | apply State.canon_ite | apply State.canon_foldl | apply State.canon_foldl_snd | apply State.canon_foldl_fst)
    | (split <;> (try (rename_i q; obtain ⟨q1, q2⟩ := Prod.ext_iff.1 q; dsimp only at q1 q2; (try obtain ⟨q3, q4⟩ := Prod.ext_iff.1 q2); subst_vars))))
@[simp] theorem State.sbWrite_canon (s : State) (n : Nat) (hc : s.Canon) : (State.sbWrite s n).Canon := by
  unfold State.sbWrite
  try dsimp only
  repeat' (first
    | (simp (maxDischargeDepth := 30) [*]; done)
    | intro _
    | (with_reducible first | apply State.canon_ite | apply State.canon_foldl | apply State.canon_foldl_snd | apply State.canon_foldl_fst)
    | (split <;> (try (rename_i q; obtain ⟨q1, q2⟩ := Prod.ext_iff.1 q; dsimp only at q1 q2; (try obtain ⟨q3, q4⟩ := Prod.ext_iff.1 q2); subst_vars))))
@[simp] theorem State.sbDrain_canon (s : State) (n : Nat) (x0 : Nat) (hc : s.Canon) : (State.sbDrain s n x0).Canon := by
  induction x0 generalizing s n with
  | zero =>
    unfold State.sbDrain
    try dsimp only
    repeat' (first
      | (with_reducible assumption)
      | (split <;> (try (rename_i heq; have q2 := congrArg Prod.snd heq; have q1 := congrArg Prod.fst heq; dsimp only at q1 q2; (try subst q1); first | subst q2 | (have q3 := congrArg Prod.snd q2; have q4 := congrArg Prod.fst q2; dsimp only at q3 q4; (try subst q4); subst q3)))))
  
  | succ n ih =>
    unfold State.sbDrain
    try dsimp only
    repeat' (first
      | (with_reducible assumption)
        | intro _
      | with_reducible apply State.canon_foldl
      | with_reducible apply State.canon_foldl_snd
      | with_reducible apply State.canon_foldl_fst
      | with_reducible apply State.canon_foldl_thd
      | with_reducible apply State.Canon.mem
      | with_reducible apply State.Canon.regs
      | (simp only [State.mk_canon]; refine ⟨?_, ?_⟩)
      | with_reducible apply Tab.wf_set'
      | with_reducible apply Tab.wf_filter'
      | with_reducible apply State.sbWrite_canon
      | with_reducible apply ih
      | (split <;> (try (rename_i heq; have q2 := congrArg Prod.snd heq; have q1 := congrArg Prod.fst heq; dsimp only at q1 q2; (try subst q1); first | subst q2 | (have q3 := congrArg Prod.snd q2; have q4 := congrArg Prod.fst q2; dsimp only at q3 q4; (try subst q4); subst q3)))))
  
@[simp] theorem State.sbSettle_canon (s : State) (n : Nat) (x0 : Nat) (hc : s.Canon) : (State.sbSettle s n x0).Canon := by
  induction x0 generalizing s n with
  | zero =>
    unfold State.sbSettle
    try dsimp only
    repeat' (first
      | (with_reducible assumption)
      | (split <;> (try (rename_i heq; have q2 := congrArg Prod.snd heq; have q1 := congrArg Prod.fst heq; dsimp only at q1 q2; (try subst q1); first | subst q2 | (have q3 := congrArg Prod.snd q2; have q4 := congrArg Prod.fst q2; dsimp only at q3 q4; (try subst q4); subst q3)))))
  
  | succ n ih =>
    unfold State.sbSettle
    try dsimp only
    repeat' (first
      | (with_reducible assumption)
        | intro _
      | with_reducible apply State.canon_foldl
      | with_reducible apply State.canon_foldl_snd
      | with_reducible apply State.canon_foldl_fst
      | with_reducible apply State.canon_foldl_thd
      | with_reducible apply State.Canon.mem
      | with_reducible apply State.Canon.regs
      | (simp only [State.mk_canon]; refine ⟨?_, ?_⟩)
      | with_reducible apply Tab.wf_set'
      | with_reducible apply Tab.wf_filter'
      | with_reducible apply State.sbWrite_canon
      | with_reducible apply ih
      | with_reducible apply State.canon_ite
      | with_reducible apply State.canon_ite2
      | with_reducible apply State.canon_ite3
      | dsimp only
      | (split <;> (try (rename_i heq; have q2 := congrArg Prod.snd heq; have q1 := congrArg Prod.fst heq; dsimp only at q1 q2; (try subst q1); first | subst q2 | (have q3 := congrArg Prod.snd q2; have q4 := congrArg Prod.fst q2; dsimp only at q3 q4; (try subst q4); subst q3)))))
  
@[simp] theorem State.sbPush_canon (s : State) (n : Nat) (e : SbEntry) (hc : s.Canon) : (State.sbPush s n e).Canon := by
  simp (maxDischargeDepth := 30) (contextual := true) [State.sbPush, hc]
@[simp] theorem State.narrowStore_canon (s : State) (n a len : Nat) (v : Word) (hc : s.Canon) : (State.narrowStore s n a len v).Canon := by
  unfold State.narrowStore
  try dsimp only
  repeat' (first
    | (with_reducible assumption)
    | intro _
    | with_reducible apply State.canon_foldl
    | with_reducible apply State.canon_foldl_snd
    | with_reducible apply State.canon_foldl_fst
    | with_reducible apply State.canon_foldl_thd
    | with_reducible apply State.Canon.mem
    | with_reducible apply State.Canon.regs
    | (simp only [State.mk_canon]; refine ⟨?_, ?_⟩)
    | with_reducible apply Tab.wf_set'
    | with_reducible apply Tab.wf_filter'
    | with_reducible apply State.sbPush_canon
    | with_reducible apply State.canon_ite
    | with_reducible apply State.canon_ite2
    | with_reducible apply State.canon_ite3
    | dsimp only
    | (split <;> (try (rename_i heq; have q2 := congrArg Prod.snd heq; have q1 := congrArg Prod.fst heq; dsimp only at q1 q2; (try subst q1); first | subst q2 | (have q3 := congrArg Prod.snd q2; have q4 := congrArg Prod.fst q2; dsimp only at q3 q4; (try subst q4); subst q3)))))
@[simp] theorem State.readGroup_canon (s : State) (n g : Nat) (gs : List FetchGroup) (hc : s.Canon) : (State.readGroup s n g gs).Canon := by
  unfold State.readGroup
  try dsimp only
  repeat' (first
    | (with_reducible assumption)
    | intro _
    | with_reducible apply State.canon_foldl
    | with_reducible apply State.canon_foldl_snd
    | with_reducible apply State.canon_foldl_fst
    | with_reducible apply State.canon_foldl_thd
    | with_reducible apply State.Canon.mem
    | with_reducible apply State.Canon.regs
    | (simp only [State.mk_canon]; refine ⟨?_, ?_⟩)
    | with_reducible apply Tab.wf_set'
    | with_reducible apply Tab.wf_filter'
    | with_reducible apply State.modCore_canon
    | with_reducible apply State.canon_ite
    | with_reducible apply State.canon_ite2
    | with_reducible apply State.canon_ite3
    | dsimp only
    | (split <;> (try (rename_i heq; have q2 := congrArg Prod.snd heq; have q1 := congrArg Prod.fst heq; dsimp only at q1 q2; (try subst q1); first | subst q2 | (have q3 := congrArg Prod.snd q2; have q4 := congrArg Prod.fst q2; dsimp only at q3 q4; (try subst q4); subst q3)))))
@[simp] theorem State.fetch_canon (s : State) (n : Nat) (hc : s.Canon) : (State.fetch s n).Canon := by
  simp (maxDischargeDepth := 30) (contextual := true) [State.fetch, hc]
@[simp] theorem State.fillWord_canon (s : State) (n a : Nat) (hc : s.Canon) : (State.fillWord s n a).2.Canon := by
  unfold State.fillWord
  try dsimp only
  repeat' (first
    | (with_reducible assumption)
    | intro _
    | with_reducible apply State.canon_foldl
    | with_reducible apply State.canon_foldl_snd
    | with_reducible apply State.canon_foldl_fst
    | with_reducible apply State.canon_foldl_thd
    | with_reducible apply State.Canon.mem
    | with_reducible apply State.Canon.regs
    | (simp only [State.mk_canon]; refine ⟨?_, ?_⟩)
    | with_reducible apply Tab.wf_set'
    | with_reducible apply Tab.wf_filter'
    | with_reducible apply State.readMem_canon
    | with_reducible apply State.canon_ite
    | with_reducible apply State.canon_ite2
    | with_reducible apply State.canon_ite3
    | dsimp only
    | (split <;> (try (rename_i heq; have q2 := congrArg Prod.snd heq; have q1 := congrArg Prod.fst heq; dsimp only at q1 q2; (try subst q1); first | subst q2 | (have q3 := congrArg Prod.snd q2; have q4 := congrArg Prod.fst q2; dsimp only at q3 q4; (try subst q4); subst q3)))))
@[simp] theorem State.fillWords_canon (s : State) (n la : Nat) (x0 : Nat) (x1 : Nat) (hc : s.Canon) : (State.fillWords s n la x0 x1).2.Canon := by
  induction x0 generalizing s n la x1 with
  | zero =>
    unfold State.fillWords
    try dsimp only
    repeat' (first
      | (with_reducible assumption)
        | intro _
      | with_reducible apply State.canon_foldl
      | with_reducible apply State.canon_foldl_snd
      | with_reducible apply State.canon_foldl_fst
      | with_reducible apply State.canon_foldl_thd
      | with_reducible apply State.Canon.mem
      | with_reducible apply State.Canon.regs
      | (simp only [State.mk_canon]; refine ⟨?_, ?_⟩)
      | with_reducible apply Tab.wf_set'
      | with_reducible apply Tab.wf_filter'
      | with_reducible apply State.fillWord_canon
      | with_reducible apply State.canon_ite
      | with_reducible apply State.canon_ite2
      | with_reducible apply State.canon_ite3
      | dsimp only
      | (split <;> (try (rename_i heq; have q2 := congrArg Prod.snd heq; have q1 := congrArg Prod.fst heq; dsimp only at q1 q2; (try subst q1); first | subst q2 | (have q3 := congrArg Prod.snd q2; have q4 := congrArg Prod.fst q2; dsimp only at q3 q4; (try subst q4); subst q3)))))
  
  | succ n ih =>
    unfold State.fillWords
    try dsimp only
    repeat' (first
      | (with_reducible assumption)
        | intro _
      | with_reducible apply State.canon_foldl
      | with_reducible apply State.canon_foldl_snd
      | with_reducible apply State.canon_foldl_fst
      | with_reducible apply State.canon_foldl_thd
      | with_reducible apply State.Canon.mem
      | with_reducible apply State.Canon.regs
      | (simp only [State.mk_canon]; refine ⟨?_, ?_⟩)
      | with_reducible apply Tab.wf_set'
      | with_reducible apply Tab.wf_filter'
      | with_reducible apply State.fillWord_canon
      | with_reducible apply ih
      | with_reducible apply State.canon_ite
      | with_reducible apply State.canon_ite2
      | with_reducible apply State.canon_ite3
      | dsimp only
      | (split <;> (try (rename_i heq; have q2 := congrArg Prod.snd heq; have q1 := congrArg Prod.fst heq; dsimp only at q1 q2; (try subst q1); first | subst q2 | (have q3 := congrArg Prod.snd q2; have q4 := congrArg Prod.fst q2; dsimp only at q3 q4; (try subst q4); subst q3)))))
  
@[simp] theorem State.icFill_canon (s : State) (n a lost stall : Nat) (hc : s.Canon) : (State.icFill s n a lost stall).Canon := by
  unfold State.icFill
  try dsimp only
  repeat' (first
    | (with_reducible assumption)
    | intro _
    | with_reducible apply State.canon_foldl
    | with_reducible apply State.canon_foldl_snd
    | with_reducible apply State.canon_foldl_fst
    | with_reducible apply State.canon_foldl_thd
    | with_reducible apply State.Canon.mem
    | with_reducible apply State.Canon.regs
    | (simp only [State.mk_canon]; refine ⟨?_, ?_⟩)
    | with_reducible apply Tab.wf_set'
    | with_reducible apply Tab.wf_filter'
    | with_reducible apply State.bump_canon
    | with_reducible apply State.fillWords_canon
    | with_reducible apply State.modCore_canon
    | with_reducible apply State.sbDrain_canon
    | with_reducible apply State.canon_ite
    | with_reducible apply State.canon_ite2
    | with_reducible apply State.canon_ite3
    | dsimp only
    | (split <;> (try (rename_i heq; have q2 := congrArg Prod.snd heq; have q1 := congrArg Prod.fst heq; dsimp only at q1 q2; (try subst q1); first | subst q2 | (have q3 := congrArg Prod.snd q2; have q4 := congrArg Prod.fst q2; dsimp only at q3 q4; (try subst q4); subst q3)))))
@[simp] theorem State.loseIn_canon (s : State) (n lost : Nat) (l : List CpWord) (hc : s.Canon) : (State.loseIn s n lost l).Canon := by
  unfold State.loseIn
  try dsimp only
  repeat' (first
    | (with_reducible assumption)
    | intro _
    | with_reducible apply State.canon_foldl
    | with_reducible apply State.canon_foldl_snd
    | with_reducible apply State.canon_foldl_fst
    | with_reducible apply State.canon_foldl_thd
    | with_reducible apply State.Canon.mem
    | with_reducible apply State.Canon.regs
    | (simp only [State.mk_canon]; refine ⟨?_, ?_⟩)
    | with_reducible apply Tab.wf_set'
    | with_reducible apply Tab.wf_filter'
    | with_reducible apply State.loseArb_canon
    | with_reducible apply State.openConf_canon
    | with_reducible apply State.canon_ite
    | with_reducible apply State.canon_ite2
    | with_reducible apply State.canon_ite3
    | dsimp only
    | (split <;> (try (rename_i heq; have q2 := congrArg Prod.snd heq; have q1 := congrArg Prod.fst heq; dsimp only at q1 q2; (try subst q1); first | subst q2 | (have q3 := congrArg Prod.snd q2; have q4 := congrArg Prod.fst q2; dsimp only at q3 q4; (try subst q4); subst q3)))))
@[simp] theorem State.bundleStart_canon (s : State) (n : Nat) (b : List CpWord) (hc : s.Canon) : (State.bundleStart s n b).2.Canon := by
  unfold State.bundleStart
  try dsimp only
  repeat' (first
    | (simp (maxDischargeDepth := 30) [*]; done)
    | intro _
    | (with_reducible first | apply State.canon_ite | apply State.canon_foldl | apply State.canon_foldl_snd | apply State.canon_foldl_fst)
    | (split <;> (try (rename_i q; obtain ⟨q1, q2⟩ := Prod.ext_iff.1 q; dsimp only at q1 q2; (try obtain ⟨q3, q4⟩ := Prod.ext_iff.1 q2); subst_vars))))
@[simp] theorem State.aperOp_canon (s : State) (n : Nat) (w : CpWord) (hc : s.Canon) : (State.aperOp s n w).2.Canon := by
  unfold State.aperOp
  try dsimp only
  repeat' (first
    | (with_reducible assumption)
    | intro _
    | with_reducible apply State.canon_foldl
    | with_reducible apply State.canon_foldl_snd
    | with_reducible apply State.canon_foldl_fst
    | with_reducible apply State.canon_foldl_thd
    | with_reducible apply State.Canon.mem
    | with_reducible apply State.Canon.regs
    | (simp only [State.mk_canon]; refine ⟨?_, ?_⟩)
    | with_reducible apply Tab.wf_set'
    | with_reducible apply Tab.wf_filter'
    | with_reducible apply State.aperAsk_canon
    | with_reducible apply State.canon_ite
    | with_reducible apply State.canon_ite2
    | with_reducible apply State.canon_ite3
    | dsimp only
    | (split <;> (try (rename_i heq; have q2 := congrArg Prod.snd heq; have q1 := congrArg Prod.fst heq; dsimp only at q1 q2; (try subst q1); first | subst q2 | (have q3 := congrArg Prod.snd q2; have q4 := congrArg Prod.fst q2; dsimp only at q3 q4; (try subst q4); subst q3)))))
@[simp] theorem State.holdCycle_canon (s : State) (n : Nat) (b : List CpWord) (w : CpWord) (hc : s.Canon) : (State.holdCycle s n b w).Canon := by
  simp (maxDischargeDepth := 30) (contextual := true) [State.holdCycle, hc]
@[simp] theorem State.issueStart_canon (s : State) (n lost : Nat) (b l : List CpWord) (hc : s.Canon) : (State.issueStart s n lost b l).2.Canon := by
  unfold State.issueStart
  try dsimp only
  repeat' (first
    | (with_reducible assumption)
    | intro _
    | with_reducible apply State.canon_foldl
    | with_reducible apply State.canon_foldl_snd
    | with_reducible apply State.canon_foldl_fst
    | with_reducible apply State.canon_foldl_thd
    | with_reducible apply State.Canon.mem
    | with_reducible apply State.Canon.regs
    | (simp only [State.mk_canon]; refine ⟨?_, ?_⟩)
    | with_reducible apply Tab.wf_set'
    | with_reducible apply Tab.wf_filter'
    | with_reducible apply State.aperOp_canon
    | with_reducible apply State.bump_canon
    | with_reducible apply State.cpFault_canon
    | with_reducible apply State.holdCycle_canon
    | with_reducible apply State.loseIn_canon
    | with_reducible apply State.modCore_canon
    | with_reducible apply State.sbDrain_canon
    | with_reducible apply State.setReg_canon
    | with_reducible apply State.vuFault_canon
    | with_reducible apply State.canon_ite
    | with_reducible apply State.canon_ite2
    | with_reducible apply State.canon_ite3
    | dsimp only
    | (split <;> (try (rename_i heq; have q2 := congrArg Prod.snd heq; have q1 := congrArg Prod.fst heq; dsimp only at q1 q2; (try subst q1); first | subst q2 | (have q3 := congrArg Prod.snd q2; have q4 := congrArg Prod.fst q2; dsimp only at q3 q4; (try subst q4); subst q3)))))
@[simp] theorem State.leaves_canon (s : State) (n : Nat) (x : Word) (hc : s.Canon) : (State.leaves s n x).Canon := by
  simp (maxDischargeDepth := 30) (contextual := true) [State.leaves, hc]
@[simp] theorem State.loopNext_canon (s : State) (n : Nat) (nxt : Word) (hc : s.Canon) : (State.loopNext s n nxt).2.Canon := by
  unfold State.loopNext
  try dsimp only
  repeat' (first
    | (simp (maxDischargeDepth := 30) [*]; done)
    | intro _
    | (with_reducible first | apply State.canon_ite | apply State.canon_foldl | apply State.canon_foldl_snd | apply State.canon_foldl_fst)
    | (split <;> (try (rename_i q; obtain ⟨q1, q2⟩ := Prod.ext_iff.1 q; dsimp only at q1 q2; (try obtain ⟨q3, q4⟩ := Prod.ext_iff.1 q2); subst_vars))))
@[simp] theorem State.fireSend_canon (s : State) (n : Nat) (hc : s.Canon) : (State.fireSend s n).Canon := by
  unfold State.fireSend
  try dsimp only
  repeat' (first
    | (simp (maxDischargeDepth := 30) [*]; done)
    | intro _
    | (with_reducible first | apply State.canon_ite | apply State.canon_foldl | apply State.canon_foldl_snd | apply State.canon_foldl_fst)
    | (split <;> (try (rename_i q; obtain ⟨q1, q2⟩ := Prod.ext_iff.1 q; dsimp only at q1 q2; (try obtain ⟨q3, q4⟩ := Prod.ext_iff.1 q2); subst_vars))))
@[simp] theorem State.endProgram_canon (s : State) (n : Nat) (tc : Bool) (hc : s.Canon) : (State.endProgram s n tc).Canon := by
  simp (maxDischargeDepth := 30) (contextual := true) [State.endProgram, hc]
@[simp] theorem State.bundleDone_canon (s : State) (n : Nat) (b : List CpWord) (hc : s.Canon) : (State.bundleDone s n b).Canon := by
  unfold State.bundleDone
  try dsimp only
  repeat' (first
    | (simp (maxDischargeDepth := 30) [*]; done)
    | intro _
    | (with_reducible first | apply State.canon_ite | apply State.canon_foldl | apply State.canon_foldl_snd | apply State.canon_foldl_fst)
    | (split <;> (try (rename_i q; obtain ⟨q1, q2⟩ := Prod.ext_iff.1 q; dsimp only at q1 q2; (try obtain ⟨q3, q4⟩ := Prod.ext_iff.1 q2); subst_vars))))
@[simp] theorem State.issueNext_canon (s : State) (n : Nat) (b : List CpWord) (hc : s.Canon) : (State.issueNext s n b).Canon := by
  unfold State.issueNext
  try dsimp only
  repeat' (first
    | (with_reducible assumption)
    | intro _
    | with_reducible apply State.canon_foldl
    | with_reducible apply State.canon_foldl_snd
    | with_reducible apply State.canon_foldl_fst
    | with_reducible apply State.canon_foldl_thd
    | with_reducible apply State.Canon.mem
    | with_reducible apply State.Canon.regs
    | (simp only [State.mk_canon]; refine ⟨?_, ?_⟩)
    | with_reducible apply Tab.wf_set'
    | with_reducible apply Tab.wf_filter'
    | with_reducible apply State.bundleDone_canon
    | with_reducible apply State.cpTakeLate_canon
    | with_reducible apply State.modCore_canon
    | with_reducible apply State.sbSettle_canon
    | with_reducible apply State.setReg_canon
    | with_reducible apply State.canon_ite
    | with_reducible apply State.canon_ite2
    | with_reducible apply State.canon_ite3
    | dsimp only
    | (split <;> (try (rename_i heq; have q2 := congrArg Prod.snd heq; have q1 := congrArg Prod.fst heq; dsimp only at q1 q2; (try subst q1); first | subst q2 | (have q3 := congrArg Prod.snd q2; have q4 := congrArg Prod.fst q2; dsimp only at q3 q4; (try subst q4); subst q3)))))
@[simp] theorem State.issueEnd_canon (s : State) (n : Nat) (b : List CpWord) (hc : s.Canon) : (State.issueEnd s n b).Canon := by
  unfold State.issueEnd
  try dsimp only
  repeat' (first
    | (simp (maxDischargeDepth := 30) [*]; done)
    | (split <;> (try (rename_i q; obtain ⟨q1, q2⟩ := Prod.ext_iff.1 q; dsimp only at q1 q2; (try obtain ⟨q3, q4⟩ := Prod.ext_iff.1 q2); subst_vars))))
@[simp] theorem State.opDone_canon (s : State) (n : Nat) (w : CpWord) (l : List CpWord) (hc : s.Canon) : (State.opDone s n w l).Canon := by
  simp (maxDischargeDepth := 30) (contextual := true) [State.opDone, hc]
@[simp] theorem State.rptStart_canon (s : State) (n : Nat) (w : CpWord) (l : List CpWord) (hc : s.Canon) : (State.rptStart s n w l).Canon := by
  simp (maxDischargeDepth := 30) (contextual := true) [State.rptStart, hc]
@[simp] theorem State.cpOp_canon (s : State) (o : CpOp) (slot opc : Nat) (eff : State → Nat → CpWord → State) (hc : s.Canon) (hf : ∀ (t : State) n w, t.Canon → (eff t n w).Canon) : (State.cpOp s o slot opc eff).Canon := by
  unfold State.cpOp
  try dsimp only
  repeat' (first
    | (simp (maxDischargeDepth := 30) [*]; done)
    | (split <;> (try (rename_i q; obtain ⟨q1, q2⟩ := Prod.ext_iff.1 q; dsimp only at q1 q2; (try obtain ⟨q3, q4⟩ := Prod.ext_iff.1 q2); subst_vars))))
@[simp] theorem State.heartbeat_canon (s : State) (n : Nat) (hc : s.Canon) : (State.heartbeat s n).Canon := by
  simp (maxDischargeDepth := 30) (contextual := true) [State.heartbeat, hc]
@[simp] theorem State.waitRelease_canon (s : State) (n : Nat) (p : CpWord → Bool) (hc : s.Canon) : (State.waitRelease s n p).Canon := by
  unfold State.waitRelease
  try dsimp only
  repeat' (first
    | (simp (maxDischargeDepth := 30) [*]; done)
    | intro _
    | (with_reducible first | apply State.canon_ite | apply State.canon_foldl | apply State.canon_foldl_snd | apply State.canon_foldl_fst)
    | (split <;> (try (rename_i q; obtain ⟨q1, q2⟩ := Prod.ext_iff.1 q; dsimp only at q1 q2; (try obtain ⟨q3, q4⟩ := Prod.ext_iff.1 q2); subst_vars))))
@[simp] theorem State.interruptEntry_canon (s : State) (n : Nat) (b : List CpWord) (hc : s.Canon) : (State.interruptEntry s n b).Canon := by
  unfold State.interruptEntry
  try dsimp only
  repeat' (first
    | (simp (maxDischargeDepth := 30) [*]; done)
    | (split <;> (try (rename_i q; obtain ⟨q1, q2⟩ := Prod.ext_iff.1 q; dsimp only at q1 q2; (try obtain ⟨q3, q4⟩ := Prod.ext_iff.1 q2); subst_vars))))
@[simp] theorem State.putReg_canon (s : State) (n r : Nat) (v : Word) (hc : s.Canon) : (State.putReg s n r v).Canon := by simp [State.putReg, hc]
@[simp] theorem State.loadReq_canon (s : State) (n : Nat) (w : CpWord) (len : Nat) (op : LoadOp) (hc : s.Canon) : (State.loadReq s n w len op).Canon := by simp [State.loadReq, hc]
@[simp] theorem State.alu_canon (s : State) (n func : Nat) (w : CpWord) (hc : s.Canon) : (State.alu s n func w).Canon := by simp [State.alu, hc]
@[simp] theorem State.cmp_canon (s : State) (n : Nat) (w : CpWord) (hc : s.Canon) : (State.cmp s n w).Canon := by simp [State.cmp, hc]
@[simp] theorem State.plog_canon (s : State) (n : Nat) (w : CpWord) (hc : s.Canon) : (State.plog s n w).Canon := by simp [State.plog, hc]
@[simp] theorem State.mfc_canon (s : State) (n : Nat) (w : CpWord) (hc : s.Canon) : (State.mfc s n w).Canon := by simp [State.mfc, hc]
@[simp] theorem State.mtc_canon (s : State) (n : Nat) (w : CpWord) (hc : s.Canon) : (State.mtc s n w).Canon := by simp [State.mtc, hc]
@[simp] theorem State.longOp_canon (s : State) (n : Nat) (w : CpWord) (hc : s.Canon) : (State.longOp s n w).Canon := by simp [State.longOp, hc]
@[simp] theorem State.branch_canon (s : State) (n : Nat) (x : Word) (delayed : Bool) (hc : s.Canon) : (State.branch s n x delayed).Canon := by simp [State.branch, hc]
@[simp] theorem State.brl_canon (s : State) (n : Nat) (w : CpWord) (hc : s.Canon) : (State.brl s n w).Canon := by simp [State.brl, hc]
@[simp] theorem State.brlD_canon (s : State) (n : Nat) (w : CpWord) (hc : s.Canon) : (State.brlD s n w).Canon := by
  simp (maxDischargeDepth := 30) (contextual := true) [State.brlD, hc]
@[simp] theorem State.bri_canon (s : State) (n : Nat) (w : CpWord) (delayed : Bool) (hc : s.Canon) : (State.bri s n w delayed).Canon := by simp [State.bri, hc]
@[simp] theorem State.setCtl_canon (s : State) (n : Nat) (k : Ctl) (hc : s.Canon) : (State.setCtl s n k).Canon := by simp [State.setCtl, hc]
@[simp] theorem State.loopSet_canon (s : State) (n : Nat) (w : CpWord) (cnt : BitVec 16) (hc : s.Canon) : (State.loopSet s n w cnt).Canon := by
  simp (maxDischargeDepth := 30) (contextual := true) [State.loopSet, hc]
@[simp] theorem State.baseUpd_canon (s : State) (n : Nat) (w : CpWord) (hc : s.Canon) : (State.baseUpd s n w).Canon := by simp [State.baseUpd, hc]
@[simp] theorem State.ld_canon (s : State) (n : Nat) (w : CpWord) (hc : s.Canon) : (State.ld s n w).Canon := by simp [State.ld, hc]
@[simp] theorem State.st_canon (s : State) (n : Nat) (w : CpWord) (hc : s.Canon) : (State.st s n w).Canon := by simp [State.st, hc]
@[simp] theorem State.lea_canon (s : State) (n : Nat) (w : CpWord) (hc : s.Canon) : (State.lea s n w).Canon := by simp [State.lea, hc]
@[simp] theorem State.elemStore_canon (s : State) (n size : Nat) (a v : Word) (hc : s.Canon) : (State.elemStore s n size a v).Canon := by simp [State.elemStore, hc]
@[simp] theorem State.strAsk_canon (s : State) (n size : Nat) (a : Word) (write : Bool) (v : Word) (hc : s.Canon) : (State.strAsk s n size a write v).2.Canon := by
  unfold State.strAsk
  try dsimp only
  repeat' (first
    | (with_reducible assumption)
    | intro _
    | with_reducible apply State.canon_foldl
    | with_reducible apply State.canon_foldl_snd
    | with_reducible apply State.canon_foldl_fst
    | with_reducible apply State.canon_foldl_thd
    | with_reducible apply State.Canon.mem
    | with_reducible apply State.Canon.regs
    | (simp only [State.mk_canon]; refine ⟨?_, ?_⟩)
    | with_reducible apply Tab.wf_set'
    | with_reducible apply Tab.wf_filter'
    | with_reducible apply State.aperAsk_canon
    | with_reducible apply State.canon_ite
    | with_reducible apply State.canon_ite2
    | with_reducible apply State.canon_ite3
    | dsimp only
    | (split <;> (try (rename_i heq; have q2 := congrArg Prod.snd heq; have q1 := congrArg Prod.fst heq; dsimp only at q1 q2; (try subst q1); first | subst q2 | (have q3 := congrArg Prod.snd q2; have q4 := congrArg Prod.fst q2; dsimp only at q3 q4; (try subst q4); subst q3)))))
@[simp] theorem State.strAsked_canon (s : State) (n : Nat) (hc : s.Canon) : (State.strAsked s n).Canon := by simp [State.strAsked, hc]
@[simp] theorem State.fillsElem_canon (s : State) (n size : Nat) (acc a : Word) (r : StrSt) (hc : s.Canon) : (State.fillsElem s n size acc a r).2.Canon := by
  simp (maxDischargeDepth := 30) (contextual := true) [State.fillsElem, hc]
@[simp] theorem State.movsElem_canon (s : State) (n size : Nat) (a b : Word) (r : StrSt) (hc : s.Canon) : (State.movsElem s n size a b r).2.Canon := by
  unfold State.movsElem
  try dsimp only
  repeat' (first
    | (with_reducible assumption)
    | intro _
    | with_reducible apply State.canon_foldl
    | with_reducible apply State.canon_foldl_snd
    | with_reducible apply State.canon_foldl_fst
    | with_reducible apply State.canon_foldl_thd
    | with_reducible apply State.Canon.mem
    | with_reducible apply State.Canon.regs
    | (simp only [State.mk_canon]; refine ⟨?_, ?_⟩)
    | with_reducible apply Tab.wf_set'
    | with_reducible apply Tab.wf_filter'
    | with_reducible apply State.elemStore_canon
    | with_reducible apply State.narrowRead_canon
    | with_reducible apply State.strAsk_canon
    | with_reducible apply State.strAsked_canon
    | with_reducible apply State.canon_ite
    | with_reducible apply State.canon_ite2
    | with_reducible apply State.canon_ite3
    | dsimp only
    | (split <;> (try (rename_i heq; have q2 := congrArg Prod.snd heq; have q1 := congrArg Prod.fst heq; dsimp only at q1 q2; (try subst q1); first | subst q2 | (have q3 := congrArg Prod.snd q2; have q4 := congrArg Prod.fst q2; dsimp only at q3 q4; (try subst q4); subst q3)))))
@[simp] theorem State.scansElem_canon (s : State) (n size : Nat) (ne : Bool) (acc a : Word) (r : StrSt) (hc : s.Canon) : (State.scansElem s n size ne acc a r).2.Canon := by
  simp (maxDischargeDepth := 30) (contextual := true) [State.scansElem, hc]
@[simp] theorem State.cmpsElem_canon (s : State) (n size : Nat) (a b : Word) (r : StrSt) (hc : s.Canon) : (State.cmpsElem s n size a b r).2.Canon := by
  simp (maxDischargeDepth := 30) (contextual := true) [State.cmpsElem, hc]
@[simp] theorem State.strElem_canon (s : State) (n kind size : Nat) (ne : Bool) (acc : Word) (r : StrSt) (hc : s.Canon) : (State.strElem s n kind size ne acc r).2.Canon := by
  unfold State.strElem
  try dsimp only
  repeat' (first
    | (simp (maxDischargeDepth := 30) [*]; done)
    | intro _
    | (with_reducible first | apply State.canon_ite | apply State.canon_foldl | apply State.canon_foldl_snd | apply State.canon_foldl_fst)
    | (split <;> (try (rename_i q; obtain ⟨q1, q2⟩ := Prod.ext_iff.1 q; dsimp only at q1 q2; (try obtain ⟨q3, q4⟩ := Prod.ext_iff.1 q2); subst_vars))))
@[simp] theorem State.strRun_canon (s : State) (n kind size : Nat) (ne : Bool) (acc : Word) (x0 : Nat) (x1 : StrSt) (hc : s.Canon) : (State.strRun s n kind size ne acc x0 x1).2.Canon := by
  induction x0 generalizing s n kind size ne acc x1 with
  | zero =>
    unfold State.strRun
    try dsimp only
    repeat' (first
      | (with_reducible assumption)
      | (split <;> (try (rename_i heq; have q2 := congrArg Prod.snd heq; have q1 := congrArg Prod.fst heq; dsimp only at q1 q2; (try subst q1); first | subst q2 | (have q3 := congrArg Prod.snd q2; have q4 := congrArg Prod.fst q2; dsimp only at q3 q4; (try subst q4); subst q3)))))
  
  | succ n ih =>
    unfold State.strRun
    try dsimp only
    repeat' (first
      | (with_reducible assumption)
        | intro _
      | with_reducible apply State.canon_foldl
      | with_reducible apply State.canon_foldl_snd
      | with_reducible apply State.canon_foldl_fst
      | with_reducible apply State.canon_foldl_thd
      | with_reducible apply State.Canon.mem
      | with_reducible apply State.Canon.regs
      | (simp only [State.mk_canon]; refine ⟨?_, ?_⟩)
      | with_reducible apply Tab.wf_set'
      | with_reducible apply Tab.wf_filter'
      | with_reducible apply State.strElem_canon
      | with_reducible apply ih
      | with_reducible apply State.canon_ite
      | with_reducible apply State.canon_ite2
      | (split <;> (try (rename_i heq; have q2 := congrArg Prod.snd heq; have q1 := congrArg Prod.fst heq; dsimp only at q1 q2; (try subst q1); first | subst q2 | (have q3 := congrArg Prod.snd q2; have q4 := congrArg Prod.fst q2; dsimp only at q3 q4; (try subst q4); subst q3)))))
  
@[simp] theorem State.strLoses_canon (s : State) (n k : Nat) (hc : s.Canon) : (State.strLoses s n k).Canon := by
  simp (maxDischargeDepth := 30) (contextual := true) [State.strLoses, hc]
@[simp] theorem State.string_canon (s : State) (n lost : Nat) (upTo : Option Nat) (w : CpWord) (hc : s.Canon) : (State.string s n lost upTo w).Canon := by
  unfold State.string
  try dsimp only
  repeat' (first
    | (with_reducible assumption)
    | intro _
    | with_reducible apply State.canon_foldl
    | with_reducible apply State.canon_foldl_snd
    | with_reducible apply State.canon_foldl_fst
    | with_reducible apply State.canon_foldl_thd
    | with_reducible apply State.Canon.mem
    | with_reducible apply State.Canon.regs
    | (simp only [State.mk_canon]; refine ⟨?_, ?_⟩)
    | with_reducible apply Tab.wf_set'
    | with_reducible apply Tab.wf_filter'
    | with_reducible apply State.bump_canon
    | with_reducible apply State.cpFault_canon
    | with_reducible apply State.strLoses_canon
    | with_reducible apply State.elemStore_canon
    | with_reducible apply State.modCore_canon
    | with_reducible apply State.openConf_canon
    | with_reducible apply State.setReg_canon
    | with_reducible apply State.strRun_canon
    | with_reducible apply State.strWrite_canon
    | with_reducible apply State.canon_ite
    | with_reducible apply State.canon_ite2
    | with_reducible apply State.canon_ite3
    | dsimp only
    | (split <;> (try (rename_i heq; have q2 := congrArg Prod.snd heq; have q1 := congrArg Prod.fst heq; dsimp only at q1 q2; (try subst q1); first | subst q2 | (have q3 := congrArg Prod.snd q2; have q4 := congrArg Prod.fst q2; dsimp only at q3 q4; (try subst q4); subst q3)))))
@[simp] theorem State.evsend_canon (s : State) (n : Nat) (w : CpWord) (hc : s.Canon) : (State.evsend s n w).Canon := by
  simp (maxDischargeDepth := 30) (contextual := true) [State.evsend, hc]
@[simp] theorem State.fire_canon (s : State) (n : Nat) (w : CpWord) (hc : s.Canon) : (State.fire s n w).Canon := by
  unfold State.fire
  try dsimp only
  repeat' (first
    | (with_reducible assumption)
    | intro _
    | with_reducible apply State.canon_foldl
    | with_reducible apply State.canon_foldl_snd
    | with_reducible apply State.canon_foldl_fst
    | with_reducible apply State.canon_foldl_thd
    | with_reducible apply State.Canon.mem
    | with_reducible apply State.Canon.regs
    | (simp only [State.mk_canon]; refine ⟨?_, ?_⟩)
    | with_reducible apply Tab.wf_set'
    | with_reducible apply Tab.wf_filter'
    | with_reducible apply State.modCore_canon
    | with_reducible apply State.narrowRead_canon
    | (split <;> (try (rename_i heq; have q2 := congrArg Prod.snd heq; have q1 := congrArg Prod.fst heq; dsimp only at q1 q2; (try subst q1); first | subst q2 | (have q3 := congrArg Prod.snd q2; have q4 := congrArg Prod.fst q2; dsimp only at q3 q4; (try subst q4); subst q3)))))
@[simp] theorem State.dsub_canon (s : State) (n : Nat) (w : CpWord) (hc : s.Canon) : (State.dsub s n w).Canon := by
  unfold State.dsub
  try dsimp only
  repeat' (first
    | (simp (maxDischargeDepth := 30) [*]; done)
    | intro _
    | (with_reducible first | apply State.canon_ite | apply State.canon_foldl | apply State.canon_foldl_snd | apply State.canon_foldl_fst)
    | (split <;> (try (rename_i q; obtain ⟨q1, q2⟩ := Prod.ext_iff.1 q; dsimp only at q1 q2; (try obtain ⟨q3, q4⟩ := Prod.ext_iff.1 q2); subst_vars))))
@[simp] theorem State.descEnqueue_canon (s : State) (n : Nat) (hc : s.Canon) : (State.descEnqueue s n).Canon := by
  unfold State.descEnqueue
  try dsimp only
  repeat' (first
    | (simp (maxDischargeDepth := 30) [*]; done)
    | intro _
    | (with_reducible first | apply State.canon_ite | apply State.canon_foldl | apply State.canon_foldl_snd | apply State.canon_foldl_fst)
    | (split <;> (try (rename_i q; obtain ⟨q1, q2⟩ := Prod.ext_iff.1 q; dsimp only at q1 q2; (try obtain ⟨q3, q4⟩ := Prod.ext_iff.1 q2); subst_vars))))
@[simp] theorem State.vflag_canon (s : State) (n : Nat) (f : VFlag) (hc : s.Canon) : (State.vflag s n f).Canon := by
  simp (maxDischargeDepth := 30) (contextual := true) [State.vflag, hc]
@[simp] theorem State.vmap_canon (s : State) (n : Nat) (w : CpWord) (g : Nat → Nat → Nat → Nat → Nat × VFlag) (hc : s.Canon) : (State.vmap s n w g).Canon := by simp [State.vmap, hc]
@[simp] theorem State.vintOp_canon (s : State) (n : Nat) (w : CpWord) (hc : s.Canon) : (State.vintOp s n w).Canon := by simp [State.vintOp, hc]
@[simp] theorem State.vfltOp_canon (s : State) (n : Nat) (w : CpWord) (hc : s.Canon) : (State.vfltOp s n w).Canon := by simp [State.vfltOp, hc]
@[simp] theorem State.vdotOp_canon (s : State) (n : Nat) (w : CpWord) (sa sb : Bool) (hc : s.Canon) : (State.vdotOp s n w sa sb).Canon := by simp [State.vdotOp, hc]
@[simp] theorem State.lateBeats_canon (s : State) (n : Nat) (w : CpWord) (g : Nat → List VW) (hc : s.Canon) : (State.lateBeats s n w g).Canon := by simp [State.lateBeats, hc]
@[simp] theorem State.vwiden_canon (s : State) (n : Nat) (w : CpWord) (g : Nat → Nat → Nat → Nat → Nat) (hc : s.Canon) : (State.vwiden s n w g).Canon := by simp [State.vwiden, hc]
@[simp] theorem State.vnshr_canon (s : State) (n : Nat) (w : CpWord) (hc : s.Canon) : (State.vnshr s n w).Canon := by simp [State.vnshr, hc]
@[simp] theorem State.vmvfx_canon (s : State) (n : Nat) (w : CpWord) (hc : s.Canon) : (State.vmvfx s n w).Canon := by simp [State.vmvfx, hc]
@[simp] theorem State.vmvxf_canon (s : State) (n : Nat) (w : CpWord) (hc : s.Canon) : (State.vmvxf s n w).Canon := by simp [State.vmvxf, hc]
@[simp] theorem State.setvl_canon (s : State) (n : Nat) (w : CpWord) (hc : s.Canon) : (State.setvl s n w).Canon := by
  simp (maxDischargeDepth := 30) (contextual := true) [State.setvl, hc]
@[simp] theorem State.vrdc_canon (s : State) (n : Nat) (w : CpWord) (hc : s.Canon) : (State.vrdc s n w).Canon := by simp [State.vrdc, hc]
@[simp] theorem State.vwrc_canon (s : State) (n : Nat) (w : CpWord) (hc : s.Canon) : (State.vwrc s n w).Canon := by
  unfold State.vwrc
  try dsimp only
  repeat' (first
    | (simp (maxDischargeDepth := 30) [*]; done)
    | intro _
    | (with_reducible first | apply State.canon_ite | apply State.canon_foldl | apply State.canon_foldl_snd | apply State.canon_foldl_fst)
    | (split <;> (try (rename_i q; obtain ⟨q1, q2⟩ := Prod.ext_iff.1 q; dsimp only at q1 q2; (try obtain ⟨q3, q4⟩ := Prod.ext_iff.1 q2); subst_vars))))
@[simp] theorem State.redWrite_canon (s : State) (n : Nat) (w : CpWord) (r : Nat) (hc : s.Canon) : (State.redWrite s n w r).Canon := by simp [State.redWrite, hc]
@[simp] theorem State.vredOp_canon (s : State) (n : Nat) (w : CpWord) (hc : s.Canon) : (State.vredOp s n w).Canon := by simp [State.vredOp, hc]
@[simp] theorem State.vfredsum_canon (s : State) (n : Nat) (w : CpWord) (hc : s.Canon) : (State.vfredsum s n w).Canon := by
  simp (maxDischargeDepth := 30) (contextual := true) [State.vfredsum, hc]
@[simp] theorem State.vfredmax_canon (s : State) (n : Nat) (w : CpWord) (hc : s.Canon) : (State.vfredmax s n w).Canon := by
  unfold State.vfredmax
  try dsimp only
  repeat' (first
    | (simp (maxDischargeDepth := 30) [*]; done)
    | intro _
    | (with_reducible first | apply State.canon_ite | apply State.canon_foldl | apply State.canon_foldl_snd | apply State.canon_foldl_fst)
    | (split <;> (try (rename_i q; obtain ⟨q1, q2⟩ := Prod.ext_iff.1 q; dsimp only at q1 q2; (try obtain ⟨q3, q4⟩ := Prod.ext_iff.1 q2); subst_vars))))
@[simp] theorem State.wideReads_canon (s : State) (n : Nat) (x0 : List (Nat × Nat)) (hc : s.Canon) : (State.wideReads s n x0).2.Canon := by
  induction x0 generalizing s n with
  | nil =>
    unfold State.wideReads
    try dsimp only
    repeat' (first
      | (with_reducible assumption)
      | (split <;> (try (rename_i heq; have q2 := congrArg Prod.snd heq; have q1 := congrArg Prod.fst heq; dsimp only at q1 q2; (try subst q1); first | subst q2 | (have q3 := congrArg Prod.snd q2; have q4 := congrArg Prod.fst q2; dsimp only at q3 q4; (try subst q4); subst q3)))))
  
  | cons y l ih =>
    unfold State.wideReads
    try dsimp only
    repeat' (first
      | (with_reducible assumption)
        | intro _
      | with_reducible apply State.canon_foldl
      | with_reducible apply State.canon_foldl_snd
      | with_reducible apply State.canon_foldl_fst
      | with_reducible apply State.canon_foldl_thd
      | with_reducible apply State.Canon.mem
      | with_reducible apply State.Canon.regs
      | (simp only [State.mk_canon]; refine ⟨?_, ?_⟩)
      | with_reducible apply Tab.wf_set'
      | with_reducible apply Tab.wf_filter'
      | with_reducible apply State.readMem_canon
      | with_reducible apply ih
      | (split <;> (try (rename_i heq; have q2 := congrArg Prod.snd heq; have q1 := congrArg Prod.fst heq; dsimp only at q1 q2; (try subst q1); first | subst q2 | (have q3 := congrArg Prod.snd q2; have q4 := congrArg Prod.fst q2; dsimp only at q3 q4; (try subst q4); subst q3)))))
  
@[simp] theorem State.vload_canon (s : State) (n : Nat) (w : CpWord) (hc : s.Canon) : (State.vload s n w).Canon := by
  unfold State.vload
  try dsimp only
  repeat' (first
    | (simp (maxDischargeDepth := 30) [*]; done)
    | (split <;> (try (rename_i q; obtain ⟨q1, q2⟩ := Prod.ext_iff.1 q; dsimp only at q1 q2; (try obtain ⟨q3, q4⟩ := Prod.ext_iff.1 q2); subst_vars))))
@[simp] theorem State.reread_canon (s : State) (n : Nat) (hc : s.Canon) : (State.reread s n).Canon := by simp [State.reread, hc]
@[simp] theorem State.vstore_canon (s : State) (n : Nat) (w : CpWord) (hc : s.Canon) : (State.vstore s n w).Canon := by
  simp (maxDischargeDepth := 30) (contextual := true) [State.vstore, hc]
@[simp] theorem State.idxStop_canon (s : State) (n f e a : Nat) (pc : Word) (hc : s.Canon) : (State.idxStop s n f e a pc).Canon := by
  simp (maxDischargeDepth := 30) (contextual := true) [State.idxStop, hc]
@[simp] theorem State.gather_canon (s : State) (n : Nat) (w : CpWord) (base : Word) (x0 : Nat) (x1 : Nat) (x2 : Option (Nat × Word)) (hc : s.Canon) : (State.gather s n w base x0 x1 x2).Canon := by
  induction x0 generalizing s n w base x1 x2 with
  | zero =>
    unfold State.gather
    try dsimp only
    repeat' (first
      | (with_reducible assumption)
        | intro _
      | with_reducible apply State.canon_foldl
      | with_reducible apply State.canon_foldl_snd
      | with_reducible apply State.canon_foldl_fst
      | with_reducible apply State.canon_foldl_thd
      | with_reducible apply State.Canon.mem
      | with_reducible apply State.Canon.regs
      | (simp only [State.mk_canon]; refine ⟨?_, ?_⟩)
      | with_reducible apply Tab.wf_set'
      | with_reducible apply Tab.wf_filter'
      | with_reducible apply State.idxStop_canon
      | with_reducible apply State.modCore_canon
      | with_reducible apply State.readMem_canon
      | with_reducible apply State.canon_ite
      | with_reducible apply State.canon_ite2
      | with_reducible apply State.canon_ite3
      | dsimp only
      | (split <;> (try (rename_i heq; have q2 := congrArg Prod.snd heq; have q1 := congrArg Prod.fst heq; dsimp only at q1 q2; (try subst q1); first | subst q2 | (have q3 := congrArg Prod.snd q2; have q4 := congrArg Prod.fst q2; dsimp only at q3 q4; (try subst q4); subst q3)))))
  
  | succ n ih =>
    unfold State.gather
    try dsimp only
    repeat' (first
      | (with_reducible assumption)
        | intro _
      | with_reducible apply State.canon_foldl
      | with_reducible apply State.canon_foldl_snd
      | with_reducible apply State.canon_foldl_fst
      | with_reducible apply State.canon_foldl_thd
      | with_reducible apply State.Canon.mem
      | with_reducible apply State.Canon.regs
      | (simp only [State.mk_canon]; refine ⟨?_, ?_⟩)
      | with_reducible apply Tab.wf_set'
      | with_reducible apply Tab.wf_filter'
      | with_reducible apply State.idxStop_canon
      | with_reducible apply State.modCore_canon
      | with_reducible apply State.readMem_canon
      | with_reducible apply ih
      | with_reducible apply State.canon_ite
      | with_reducible apply State.canon_ite2
      | with_reducible apply State.canon_ite3
      | dsimp only
      | (split <;> (try (rename_i heq; have q2 := congrArg Prod.snd heq; have q1 := congrArg Prod.fst heq; dsimp only at q1 q2; (try subst q1); first | subst q2 | (have q3 := congrArg Prod.snd q2; have q4 := congrArg Prod.fst q2; dsimp only at q3 q4; (try subst q4); subst q3)))))
  
@[simp] theorem State.scatter_canon (s : State) (n : Nat) (w : CpWord) (base : Word) (x0 : Nat) (x1 : Nat) (hc : s.Canon) : (State.scatter s n w base x0 x1).Canon := by
  induction x0 generalizing s n w base x1 with
  | zero =>
    unfold State.scatter
    try dsimp only
    repeat' (first
      | (with_reducible assumption)
      | (split <;> (try (rename_i heq; have q2 := congrArg Prod.snd heq; have q1 := congrArg Prod.fst heq; dsimp only at q1 q2; (try subst q1); first | subst q2 | (have q3 := congrArg Prod.snd q2; have q4 := congrArg Prod.fst q2; dsimp only at q3 q4; (try subst q4); subst q3)))))
  
  | succ n ih =>
    unfold State.scatter
    try dsimp only
    repeat' (first
      | (with_reducible assumption)
        | intro _
      | with_reducible apply State.canon_foldl
      | with_reducible apply State.canon_foldl_snd
      | with_reducible apply State.canon_foldl_fst
      | with_reducible apply State.canon_foldl_thd
      | with_reducible apply State.Canon.mem
      | with_reducible apply State.Canon.regs
      | (simp only [State.mk_canon]; refine ⟨?_, ?_⟩)
      | with_reducible apply Tab.wf_set'
      | with_reducible apply Tab.wf_filter'
      | with_reducible apply State.idxStop_canon
      | with_reducible apply State.modCore_canon
      | with_reducible apply State.writeMem_canon
      | with_reducible apply ih
      | with_reducible apply State.canon_ite
      | with_reducible apply State.canon_ite2
      | with_reducible apply State.canon_ite3
      | dsimp only
      | (split <;> (try (rename_i heq; have q2 := congrArg Prod.snd heq; have q1 := congrArg Prod.fst heq; dsimp only at q1 q2; (try subst q1); first | subst q2 | (have q3 := congrArg Prod.snd q2; have q4 := congrArg Prod.fst q2; dsimp only at q3 q4; (try subst q4); subst q3)))))
  
@[simp] theorem State.vldx_canon (s : State) (n : Nat) (w : CpWord) (hc : s.Canon) : (State.vldx s n w).Canon := by simp [State.vldx, hc]
@[simp] theorem State.vstx_canon (s : State) (n : Nat) (w : CpWord) (hc : s.Canon) : (State.vstx s n w).Canon := by simp [State.vstx, hc]
@[simp] theorem State.setMacc_canon (s : State) (n j : Nat) (v : Int) (hc : s.Canon) : (State.setMacc s n j v).Canon := by simp [State.setMacc, hc]
@[simp] theorem State.macAcc_canon (s : State) (n j op : Nat) (p : Int) (hc : s.Canon) : (State.macAcc s n j op p).Canon := by
  simp (maxDischargeDepth := 30) (contextual := true) [State.macAcc, hc]
@[simp] theorem State.macOp_canon (s : State) (n : Nat) (w : CpWord) (fx fy : Bool) (hc : s.Canon) : (State.macOp s n w fx fy).Canon := by
  simp (maxDischargeDepth := 30) (contextual := true) [State.macOp, hc]
@[simp] theorem State.mclr_canon (s : State) (n : Nat) (w : CpWord) (hc : s.Canon) : (State.mclr s n w).Canon := by
  simp (maxDischargeDepth := 30) (contextual := true) [State.mclr, hc]
@[simp] theorem State.mrnd_canon (s : State) (n : Nat) (w : CpWord) (hc : s.Canon) : (State.mrnd s n w).Canon := by
  simp (maxDischargeDepth := 30) (contextual := true) [State.mrnd, hc]
@[simp] theorem State.mrdl_canon (s : State) (n : Nat) (w : CpWord) (hc : s.Canon) : (State.mrdl s n w).Canon := by simp [State.mrdl, hc]
@[simp] theorem State.mrdh_canon (s : State) (n : Nat) (w : CpWord) (hc : s.Canon) : (State.mrdh s n w).Canon := by simp [State.mrdh, hc]
@[simp] theorem State.mwr_canon (s : State) (n : Nat) (w : CpWord) (hc : s.Canon) : (State.mwr s n w).Canon := by
  unfold State.mwr
  try dsimp only
  repeat' (first
    | (simp (maxDischargeDepth := 30) [*]; done)
    | intro _
    | (with_reducible first | apply State.canon_ite | apply State.canon_foldl | apply State.canon_foldl_snd | apply State.canon_foldl_fst)
    | (split <;> (try (rename_i q; obtain ⟨q1, q2⟩ := Prod.ext_iff.1 q; dsimp only at q1 q2; (try obtain ⟨q3, q4⟩ := Prod.ext_iff.1 q2); subst_vars))))
@[simp] theorem State.mtm_canon (s : State) (n : Nat) (w : CpWord) (hc : s.Canon) : (State.mtm s n w).Canon := by simp [State.mtm, hc]
@[simp] theorem State.mfm_canon (s : State) (n : Nat) (w : CpWord) (hc : s.Canon) : (State.mfm s n w).Canon := by simp [State.mfm, hc]
@[simp] theorem State.mrep_canon (s : State) (n : Nat) (w : CpWord) (hc : s.Canon) : (State.mrep s n w).Canon := by
  simp (maxDischargeDepth := 30) (contextual := true) [State.mrep, hc]
@[simp] theorem State.idle_canon (s : State) (hc : s.Canon) : (State.idle s).Canon := by simp [State.idle, hc]
@[simp] theorem State.withFetchWord_canon (s : State) (nbits w : Nat) (hc : s.Canon) : (State.withFetchWord s nbits w).Canon := by
  unfold State.withFetchWord
  try dsimp only
  repeat' (first
    | (simp (maxDischargeDepth := 30) [*]; done)
    | intro _
    | (with_reducible first | apply State.canon_ite | apply State.canon_foldl | apply State.canon_foldl_snd | apply State.canon_foldl_fst)
    | (split <;> (try (rename_i q; obtain ⟨q1, q2⟩ := Prod.ext_iff.1 q; dsimp only at q1 q2; (try obtain ⟨q3, q4⟩ := Prod.ext_iff.1 q2); subst_vars))))

end Sys2Proof.Machine
end

