-- ==== Sys2Proof/Laws/Cores.lean ====
section
/-! SUPPORT. Reads and reports leave the control processors as they are. -/

set_option linter.all false

namespace Sys2Proof.Machine

theorem State.ite_cores {c : Prop} [Decidable c] (a b : State) : (if c then a else b).cores = if c then a.cores else b.cores := apply_ite State.cores c a b

@[simp] theorem State.setFld_cores (s : State) (a lo len v : Nat)  : (State.setFld s a lo len v).cores = s.cores := by
  first
  | (unfold State.setFld; extract_lets; (repeat' split) <;> (first | (simp +zetaDelta; done) | (simp_all +zetaDelta; done) | (simp_all +zetaDelta [State.ite_cores]; done)))
  | (simp [State.setFld, State.ite_cores]; done)
  | (simp only [State.setFld]; (repeat' split) <;> (first | (simp; done) | (simp_all; done) | (simp_all [State.ite_cores]; done)))


@[simp] theorem State.setBit_cores (s : State) (a i : Nat) (b : Bool)  : (State.setBit s a i b).cores = s.cores := by
  first
  | (unfold State.setBit; extract_lets; (repeat' split) <;> (first | (simp +zetaDelta; done) | (simp_all +zetaDelta; done) | (simp_all +zetaDelta [State.ite_cores]; done)))
  | (simp [State.setBit, State.ite_cores]; done)
  | (simp only [State.setBit]; (repeat' split) <;> (first | (simp; done) | (simp_all; done) | (simp_all [State.ite_cores]; done)))


@[simp] theorem State.bump_cores (s : State) (a : Nat) (k : Nat)  : (State.bump s a k).cores = s.cores := by
  first
  | (unfold State.bump; extract_lets; (repeat' split) <;> (first | (simp +zetaDelta; done) | (simp_all +zetaDelta; done) | (simp_all +zetaDelta [State.ite_cores]; done)))
  | (simp [State.bump, State.ite_cores]; done)
  | (simp only [State.bump]; (repeat' split) <;> (first | (simp; done) | (simp_all; done) | (simp_all [State.ite_cores]; done)))


@[simp] theorem State.count_cores (s : State) (a : Nat) (k : Nat)  : (State.count s a k).cores = s.cores := by
  first
  | (unfold State.count; extract_lets; (repeat' split) <;> (first | (simp +zetaDelta; done) | (simp_all +zetaDelta; done) | (simp_all +zetaDelta [State.ite_cores]; done)))
  | (simp [State.count, State.ite_cores]; done)
  | (simp only [State.count]; (repeat' split) <;> (first | (simp; done) | (simp_all; done) | (simp_all [State.ite_cores]; done)))


@[simp] theorem State.raiseTo_cores (s : State) (a : Nat) (v : Nat)  : (State.raiseTo s a v).cores = s.cores := by
  first
  | (unfold State.raiseTo; extract_lets; (repeat' split) <;> (first | (simp +zetaDelta; done) | (simp_all +zetaDelta; done) | (simp_all +zetaDelta [State.ite_cores]; done)))
  | (simp [State.raiseTo, State.ite_cores]; done)
  | (simp only [State.raiseTo]; (repeat' split) <;> (first | (simp; done) | (simp_all; done) | (simp_all [State.ite_cores]; done)))


@[simp] theorem State.setReg64_cores (s : State) (lo : Nat) (v : BitVec 64)  : (State.setReg64 s lo v).cores = s.cores := by
  first
  | (unfold State.setReg64; extract_lets; (repeat' split) <;> (first | (simp +zetaDelta; done) | (simp_all +zetaDelta; done) | (simp_all +zetaDelta [State.ite_cores]; done)))
  | (simp [State.setReg64, State.ite_cores]; done)
  | (simp only [State.setReg64]; (repeat' split) <;> (first | (simp; done) | (simp_all; done) | (simp_all [State.ite_cores]; done)))


@[simp] theorem State.fresh_cores (s : State)  : (State.fresh s).2.cores = s.cores := by
  first
  | (unfold State.fresh; extract_lets; (repeat' split) <;> (first | (simp +zetaDelta; done) | (simp_all +zetaDelta; done) | (simp_all +zetaDelta [State.ite_cores]; done)))
  | (simp [State.fresh, State.ite_cores]; done)
  | (simp only [State.fresh]; (repeat' split) <;> (first | (simp; done) | (simp_all; done) | (simp_all [State.ite_cores]; done)))


@[simp] theorem State.freeBytes_cores (s : State) (x0 : Nat) : (State.freeBytes s x0).2.cores = s.cores := by
  induction x0 generalizing s with
  | zero => rfl
  | succ n ih => simp [State.freeBytes, ih]


@[simp] theorem State.cpIrq_cores (s : State) (n b : Nat)  : (State.cpIrq s n b).cores = s.cores := by
  first
  | (unfold State.cpIrq; extract_lets; (repeat' split) <;> (first | (simp +zetaDelta; done) | (simp_all +zetaDelta; done) | (simp_all +zetaDelta [State.ite_cores]; done)))
  | (simp [State.cpIrq, State.ite_cores]; done)
  | (simp only [State.cpIrq]; (repeat' split) <;> (first | (simp; done) | (simp_all; done) | (simp_all [State.ite_cores]; done)))


@[simp] theorem State.sendVec_cores (s : State) (v : Nat)  : (State.sendVec s v).cores = s.cores := by
  first
  | (unfold State.sendVec; extract_lets; (repeat' split) <;> (first | (simp +zetaDelta; done) | (simp_all +zetaDelta; done) | (simp_all +zetaDelta [State.ite_cores]; done)))
  | (simp [State.sendVec, State.ite_cores]; done)
  | (simp only [State.sendVec]; (repeat' split) <;> (first | (simp; done) | (simp_all; done) | (simp_all [State.ite_cores]; done)))


@[simp] theorem State.routed_cores (t s : State) (v : Nat)  : (State.routed t s v).cores = t.cores := by
  first
  | (unfold State.routed; extract_lets; (repeat' split) <;> (first | (simp +zetaDelta; done) | (simp_all +zetaDelta; done) | (simp_all +zetaDelta [State.ite_cores]; done)))
  | (simp [State.routed, State.ite_cores]; done)
  | (simp only [State.routed]; (repeat' split) <;> (first | (simp; done) | (simp_all; done) | (simp_all [State.ite_cores]; done)))


@[simp] theorem State.raise_cores (s : State) (p b : Nat)  : (State.raise s p b).cores = s.cores := by
  first
  | (unfold State.raise; extract_lets; (repeat' split) <;> (first | (simp +zetaDelta; done) | (simp_all +zetaDelta; done) | (simp_all +zetaDelta [State.ite_cores]; done)))
  | (simp [State.raise, State.ite_cores]; done)
  | (simp only [State.raise]; (repeat' split) <;> (first | (simp; done) | (simp_all; done) | (simp_all [State.ite_cores]; done)))


@[simp] theorem State.classCnt_cores (s : State) (c : Nat)  : (State.classCnt s c).cores = s.cores := by
  first
  | (unfold State.classCnt; extract_lets; (repeat' split) <;> (first | (simp +zetaDelta; done) | (simp_all +zetaDelta; done) | (simp_all +zetaDelta [State.ite_cores]; done)))
  | (simp [State.classCnt, State.ite_cores]; done)
  | (simp only [State.classCnt]; (repeat' split) <;> (first | (simp; done) | (simp_all; done) | (simp_all [State.ite_cores]; done)))


@[simp] theorem State.err_cores (s : State) (p code unit detail : Nat) (req : Nat)  : (State.err s p code unit detail req).cores = s.cores := by
  unfold State.err
  extract_lets t
  split
  · simp [t]
  · rw [State.raise_cores, State.setReg_cores, State.setReg_cores]; simp [t]


@[simp] theorem State.errFree_cores (s : State) (p code unit : Nat) (req : Nat)  : (State.errFree s p code unit req).cores = s.cores := by
  first
  | (unfold State.errFree; extract_lets; (repeat' split) <;> (first | (simp +zetaDelta; done) | (simp_all +zetaDelta; done) | (simp_all +zetaDelta [State.ite_cores]; done)))
  | (simp [State.errFree, State.ite_cores]; done)
  | (simp only [State.errFree]; (repeat' split) <;> (first | (simp; done) | (simp_all; done) | (simp_all [State.ite_cores]; done)))


@[simp] theorem State.corrected_cores (s : State)  : (State.corrected s).cores = s.cores := by
  first
  | (unfold State.corrected; extract_lets; (repeat' split) <;> (first | (simp +zetaDelta; done) | (simp_all +zetaDelta; done) | (simp_all +zetaDelta [State.ite_cores]; done)))
  | (simp [State.corrected, State.ite_cores]; done)
  | (simp only [State.corrected]; (repeat' split) <;> (first | (simp; done) | (simp_all; done) | (simp_all [State.ite_cores]; done)))


@[simp] theorem State.unmapped_cores (s : State) (req addr : Nat)  : (State.unmapped s req addr).cores = s.cores := by
  first
  | (unfold State.unmapped; extract_lets; (repeat' split) <;> (first | (simp +zetaDelta; done) | (simp_all +zetaDelta; done) | (simp_all +zetaDelta [State.ite_cores]; done)))
  | (simp [State.unmapped, State.ite_cores]; done)
  | (simp only [State.unmapped]; (repeat' split) <;> (first | (simp; done) | (simp_all; done) | (simp_all [State.ite_cores]; done)))


@[simp] theorem State.faultLine_cores (s : State) (c u : Nat) : (s.faultLine c u).cores = s.cores := rfl

@[simp] theorem State.contend_cores (s : State) (a who : Nat) : (s.contend a who).cores = s.cores := by unfold State.contend; (repeat' split) <;> rfl

@[simp] theorem State.eccHit_cores (s : State) (w who : Nat) (ue : Bool)  : (State.eccHit s w who ue).cores = s.cores := by
  first
  | (unfold State.eccHit; extract_lets; (repeat' split) <;> (first | (simp +zetaDelta; done) | (simp_all +zetaDelta; done) | (simp_all +zetaDelta [State.ite_cores]; done)))
  | (simp [State.eccHit, State.ite_cores]; done)
  | (simp only [State.eccHit]; (repeat' split) <;> (first | (simp; done) | (simp_all; done) | (simp_all [State.ite_cores]; done)))


@[simp] theorem State.checkWord_cores (s : State) (w who : Nat)  : (State.checkWord s w who).2.cores = s.cores := by
  first
  | (unfold State.checkWord; extract_lets; (repeat' split) <;> (first | (simp +zetaDelta; done) | (simp_all +zetaDelta; done) | (simp_all +zetaDelta [State.ite_cores]; done)))
  | (simp [State.checkWord, State.ite_cores]; done)
  | (simp only [State.checkWord]; (repeat' split) <;> (first | (simp; done) | (simp_all; done) | (simp_all [State.ite_cores]; done)))


@[simp] theorem State.checkWords_cores (s : State) (who : Nat) (x0 : List Nat) : (State.checkWords s who x0).2.cores = s.cores := by
  induction x0 generalizing s with
  | nil => rfl
  | cons w t ih => simp [State.checkWords, ih]


@[simp] theorem State.readGranted_cores (s : State) (a n who : Nat) : (s.readGranted a n who).2.2.cores = s.cores := by simp [State.readGranted]

@[simp] theorem State.readMem_cores (s : State) (a n who : Nat)  : (State.readMem s a n who).2.2.cores = s.cores := by simp [State.readMem]


@[simp] theorem State.offAccess_cores (s : State) (n p cls : Nat) (write : Bool)  : (State.offAccess s n p cls write).cores = s.cores := by
  first
  | (unfold State.offAccess; extract_lets; (repeat' split) <;> (first | (simp +zetaDelta; done) | (simp_all +zetaDelta; done) | (simp_all +zetaDelta [State.ite_cores]; done)))
  | (simp [State.offAccess, State.ite_cores]; done)
  | (simp only [State.offAccess]; (repeat' split) <;> (first | (simp; done) | (simp_all; done) | (simp_all [State.ite_cores]; done)))


@[simp] theorem State.tblDataRead_cores (s : State) (p : Nat)  : (State.tblDataRead s p).2.cores = s.cores := by
  first
  | (unfold State.tblDataRead; extract_lets; (repeat' split) <;> (first | (simp +zetaDelta; done) | (simp_all +zetaDelta; done) | (simp_all +zetaDelta [State.ite_cores]; done)))
  | (simp [State.tblDataRead, State.ite_cores]; done)
  | (simp only [State.tblDataRead]; (repeat' split) <;> (first | (simp; done) | (simp_all; done) | (simp_all [State.ite_cores]; done)))


@[simp] theorem State.setCaps_cores (s : State) (i : Nat) (l : List TioCap)  : (State.setCaps s i l).cores = s.cores := by
  first
  | (unfold State.setCaps; extract_lets; (repeat' split) <;> (first | (simp +zetaDelta; done) | (simp_all +zetaDelta; done) | (simp_all +zetaDelta [State.ite_cores]; done)))
  | (simp [State.setCaps, State.ite_cores]; done)
  | (simp only [State.setCaps]; (repeat' split) <;> (first | (simp; done) | (simp_all; done) | (simp_all [State.ite_cores]; done)))


@[simp] theorem State.capPop_cores (s : State) (i : Nat)  : (State.capPop s i).cores = s.cores := by
  first
  | (unfold State.capPop; extract_lets; (repeat' split) <;> (first | (simp +zetaDelta; done) | (simp_all +zetaDelta; done) | (simp_all +zetaDelta [State.ite_cores]; done)))
  | (simp [State.capPop, State.ite_cores]; done)
  | (simp only [State.capPop]; (repeat' split) <;> (first | (simp; done) | (simp_all; done) | (simp_all [State.ite_cores]; done)))


@[simp] theorem State.dramRead_cores (s : State) (c a len req : Nat)  : (State.dramRead s c a len req).2.2.cores = s.cores := by
  first
  | (unfold State.dramRead; extract_lets; (repeat' split) <;> (first | (simp +zetaDelta; done) | (simp_all +zetaDelta; done) | (simp_all +zetaDelta [State.ite_cores]; done)))
  | (simp [State.dramRead, State.ite_cores]; done)
  | (simp only [State.dramRead]; (repeat' split) <;> (first | (simp; done) | (simp_all; done) | (simp_all [State.ite_cores]; done)))


@[simp] theorem State.seqErr_cores (s : State) (code unit i req : Nat) : (State.seqErr s code unit i req).cores = s.cores := by
  unfold State.seqErr; dsimp only; split <;> simp

@[simp] theorem State.readEffect_cores (s : State) (req a : Nat) : (State.readEffect s req a).cores = s.cores := by
  unfold State.readEffect
  extract_lets p t u
  have h : u.cores = s.cores := by simp only [u, t]; split <;> simp
  (repeat' split) <;> simpa using h

@[simp] theorem State.readReg_cores (s : State) (req a : Nat)  : (State.readReg s req a).2.cores = s.cores := by
  first
  | (unfold State.readReg; extract_lets; (repeat' split) <;> (first | (simp +zetaDelta; done) | (simp_all +zetaDelta; done) | (simp_all +zetaDelta [State.ite_cores]; done)))
  | (simp [State.readReg, State.ite_cores]; done)
  | (simp only [State.readReg]; (repeat' split) <;> (first | (simp; done) | (simp_all; done) | (simp_all [State.ite_cores]; done)))


@[simp] theorem State.blockRead_cores (s : State) (a n who : Nat) : (s.blockRead a n who).2.2.cores = s.cores := by simp [State.blockRead]

theorem State.vaultRead_cores {s t : State} {n p len cls : Nat} {b : List Byte} {l : List Nat} (h : s.vaultRead n p len cls = some (b, l, t)) :
    t.cores = s.cores := by
  unfold State.vaultRead at h
  split at h
  · simp only [Option.some.injEq] at h
    have := congrArg (fun x => x.2.2.cores) h
    simpa using this.symm
  · simp at h

@[simp] theorem State.nodeRead_cores (s : State) (src a n : Nat)  : (State.nodeRead s src a n).2.2.2.cores = s.cores := by
  unfold State.nodeRead
  split
  · dsimp only
    split
    · rename_i h
      exact State.vaultRead_cores h
    · rw [State.freeBytes_cores, State.offAccess_cores]
  · exact State.readReg_cores ..
  · rw [State.freeBytes_cores, State.unmapped_cores]


end Sys2Proof.Machine
end

