-- ==== Sys2Proof/Laws/Issue.lean ====
section
/-! SUPPORT. What an operation of a bundle does: the one lemma over its issue, and one over the end of a straight bundle (R78 to R91). -/

namespace Sys2Proof.Machine

/-- The effect of an operation that takes place, followed by the end of the operation. -/
theorem State.cpOp_takes {s u : State} {o : CpOp} {slot opc : Nat} (eff : State → Nat → CpWord → State) (h : Takes s o slot opc u)
    (hr : (o.cw slot opc).isRpt = false) (ht : ((eff u o.core.val (o.cw slot opc)).core o.core.val).todo ≠ []) :
    s.cpOp o slot opc eff = (eff u o.core.val (o.cw slot opc)).finish o slot opc := by
  obtain ⟨h1, h2, h3, ⟨v, h4, h5⟩, h6, h7⟩ := h
  have hc : ((s.core o.core.val).st != 1 || (s.core o.core.val).part != o.before ||
      (!(s.core o.core.val).part.isEmpty && (s.core o.core.val).todo != o.cw slot opc :: o.after)) = false := by
    rw [h1, h2]
    by_cases hb : o.before = []
    · simp [hb]
    · simp [h3 hb]
  unfold State.cpOp State.finish
  simp only [hc, Bool.false_eq_true, if_false]
  simp only [h2, h4, h5, hr, h6, Bool.not_true, Bool.false_eq_true, if_false, if_true]
  rw [if_neg]
  simpa [List.isEmpty_iff] using ht

end Sys2Proof.Machine
end

