-- ==== Sys2Proof/Laws/Memory.lean ====
section
/-! SUPPORT. What the shared memory operations do: which bytes change, which do not, and that memory keeps its canonical form. -/

namespace Sys2Proof.Machine

/-! ### Register and capture operations leave memory alone -/

theorem State.ite_mem {c : Prop} [Decidable c] (a b : State) : (if c then a else b).mem = if c then a.mem else b.mem :=
  apply_ite State.mem c a b

@[simp] theorem State.setFld_mem (s : State) (a lo len v : Nat) : (s.setFld a lo len v).mem = s.mem := rfl
@[simp] theorem State.setBit_mem (s : State) (a i : Nat) (b : Bool) : (s.setBit a i b).mem = s.mem := by unfold State.setBit; simp
@[simp] theorem State.bump_mem (s : State) (a k : Nat) : (s.bump a k).mem = s.mem := rfl
@[simp] theorem State.count_mem (s : State) (a k : Nat) : (s.count a k).mem = s.mem := rfl
@[simp] theorem State.cpIrq_mem (s : State) (n b : Nat) : (s.cpIrq n b).mem = s.mem := by unfold State.cpIrq; simp
@[simp] theorem State.classCnt_mem (s : State) (c : Nat) : (s.classCnt c).mem = s.mem := rfl
@[simp] theorem State.corrected_mem (s : State) : s.corrected.mem = s.mem := rfl

@[simp] theorem State.sendVec_mem (s : State) (v : Nat) : (s.sendVec v).mem = s.mem := by
  unfold State.sendVec; extract_lets; split <;> simp +zetaDelta

@[simp] theorem State.routed_mem (t s : State) (v : Nat) : (t.routed s v).mem = t.mem := by
  simp [State.routed, State.ite_mem]

@[simp] theorem State.raise_mem (s : State) (p b : Nat) : (s.raise p b).mem = s.mem := by
  unfold State.raise; dsimp only; split <;> simp

@[simp] theorem State.err_mem (s : State) (p code unit detail req : Nat) : (s.err p code unit detail req).mem = s.mem := by
  unfold State.err; dsimp only; split <;> simp

@[simp] theorem State.faultLine_mem (s : State) (c u : Nat) : (s.faultLine c u).mem = s.mem := rfl

@[simp] theorem State.eccHit_mem (s : State) (w who : Nat) (ue : Bool) : (s.eccHit w who ue).mem = s.mem := by
  unfold State.eccHit; dsimp only; (repeat' split) <;> simp

@[simp] theorem State.contend_mem (s : State) (a who : Nat) : (s.contend a who).mem = s.mem := by unfold State.contend; (repeat' split) <;> rfl

@[simp] theorem State.checkWord_mem (s : State) (w who : Nat) : (s.checkWord w who).2.mem = s.mem := by
  unfold State.checkWord; split
  · rfl
  · split
    · simp
    · split <;> simp

@[simp] theorem State.checkWords_mem (s : State) (who : Nat) (l : List Nat) : (s.checkWords who l).2.mem = s.mem := by
  induction l generalizing s with
  | nil => rfl
  | cons w t ih => simp [State.checkWords, ih]

@[simp] theorem State.writeWord_mem (s : State) (w who : Nat) (p f : Bool) : (s.writeWord w who p f).mem = s.mem := by
  unfold State.writeWord; dsimp only; (repeat' split) <;> simp

/-! ### A read -/

@[simp] theorem State.readGranted_mem (s : State) (a n who : Nat) : (s.readGranted a n who).2.2.mem = s.mem := by simp [State.readGranted]

/-- A read of memory: the bytes as they stand, and memory unchanged. -/
theorem State.readMem_bytes (s : State) (a n who : Nat) : (s.readMem a n who).1 = s.bytes a n := by
  simp [State.readMem, State.readGranted, State.bytes, State.byte]

@[simp] theorem State.readMem_mem (s : State) (a n who : Nat) : (s.readMem a n who).2.2.mem = s.mem := by simp [State.readMem]

/-! ### A write -/

theorem State.byte_of_mem {s t : State} (h : s.mem = t.mem) (b : Nat) : s.byte b = t.byte b := by unfold State.byte; rw [h]

/-- Outside the bytes stored, memory is as before. -/
theorem State.byte_setBytes_out (l : List Byte) : ∀ (s : State) (a b : Nat), b < a ∨ a + l.length ≤ b → (s.setBytes a l).byte b = s.byte b := by
  induction l with
  | nil => intro s a b _; rfl
  | cons x t ih =>
    intro s a b h
    rw [State.setBytes, ih _ _ _ (by simp only [List.length_cons] at h; omega), State.byte_setByte_ne]
    simp only [List.length_cons] at h; omega

/-- Inside them, memory holds what was stored. -/
theorem State.byte_setBytes_in (l : List Byte) : ∀ (s : State) (a i : Nat) (h : i < l.length), (s.setBytes a l).byte (a + i) = l[i] := by
  induction l with
  | nil => intro s a i h; cases h
  | cons x t ih =>
    intro s a i h
    cases i with
    | zero => rw [State.setBytes, State.byte_setBytes_out _ _ _ _ (by omega)]; simp
    | succ i =>
      have := ih (s.setByte a x) (a + 1) i (by simpa using h)
      rw [show a + (i + 1) = a + 1 + i by omega]
      simpa [State.setBytes] using this

/-- The state after the check bits of a write are kept, before its bytes are stored, has the memory it had. -/
theorem State.writeWords_mem (l : List Nat) (f g : Nat → Bool) (who : Nat) : ∀ s : State,
    (l.foldl (fun t w => t.writeWord w who (f w) (g w)) s).mem = s.mem := by
  induction l with
  | nil => intro s; rfl
  | cons w t ih => intro s; rw [List.foldl_cons, ih, State.writeWord_mem]

/-- The memory after a write is the memory before with the cells stored one after the other. -/
theorem State.writeMem_mem (s : State) (cells : List (Nat × Byte)) (pois : List Nat) (who : Nat) :
    (s.writeMem cells pois who).mem = cells.foldl (fun m c => Tab.set memDefault m c.1 c.2) s.mem := by
  have h : ∀ (l : List (Nat × Byte)) (t : State), (l.foldl (fun t c => t.setByte c.1 c.2) t).mem =
      l.foldl (fun m c => Tab.set memDefault m c.1 c.2) t.mem := by
    intro l
    induction l with
    | nil => intro t; rfl
    | cons c r ih => intro t; rw [List.foldl_cons, ih]; rfl
  unfold State.writeMem
  rw [h, State.writeWords_mem, State.contend_mem]
  rfl

/-- A byte that no cell names is as before. -/
theorem State.byte_writeMem_out (s : State) (cells : List (Nat × Byte)) (pois : List Nat) (who b : Nat) (h : ∀ c ∈ cells, c.1 ≠ b) :
    (s.writeMem cells pois who).byte b = s.byte b := by
  rw [State.byte, State.writeMem_mem, State.byte]
  generalize s.mem = m
  induction cells generalizing m with
  | nil => rfl
  | cons c r ih =>
    rw [List.foldl_cons, ih (fun x hx => h x (List.mem_cons_of_mem _ hx)), Tab.get_set_ne _ (Ne.symm (h c (List.mem_cons_self ..)))]

/-! ### The canonical form -/

theorem State.setByte_wf (s : State) (a : Nat) (b : Byte) (h : Memory.wf s.mem = true) : Memory.wf (s.setByte a b).mem = true :=
  Tab.wf_set _ _ _ _ h

theorem State.setBytes_wf (l : List Byte) : ∀ (s : State) (a : Nat), Memory.wf s.mem = true → Memory.wf (s.setBytes a l).mem = true := by
  induction l with
  | nil => intro s a h; exact h
  | cons x t ih => intro s a h; exact ih _ _ (State.setByte_wf s a x h)

theorem State.writeMem_wf (s : State) (cells : List (Nat × Byte)) (pois : List Nat) (who : Nat) (h : Memory.wf s.mem = true) :
    Memory.wf (s.writeMem cells pois who).mem = true := by
  rw [State.writeMem_mem]
  generalize s.mem = m at h
  induction cells generalizing m with
  | nil => exact h
  | cons c r ih => exact ih _ (Tab.wf_set _ _ _ _ h)

theorem State.clearRange_wf (s : State) (lo hi : Nat) (h : Memory.wf s.mem = true) : Memory.wf (s.clearRange lo hi).mem = true :=
  Tab.wf_filter _ _ _ h

theorem State.reset_wf : Memory.wf State.reset.mem = true := rfl

end Sys2Proof.Machine
end

