-- ==== Sys2Proof/Laws/Registers.lean ====
section
/-! SUPPORT. What the shared register operations do: the field written, the fields and registers left alone. -/

namespace Sys2Proof.Machine

/-! ### Fields of a word -/

theorem nat_split (w lo len : Nat) : w = w % 2 ^ lo + w / 2 ^ lo % 2 ^ len * 2 ^ lo + w / 2 ^ (lo + len) * 2 ^ (lo + len) := by
  have h1 := Nat.div_add_mod w (2 ^ lo)
  have h2 := Nat.div_add_mod (w / 2 ^ lo) (2 ^ len)
  rw [Nat.div_div_eq_div_mul, ← pow_add] at h2
  calc w = 2 ^ lo * (2 ^ len * (w / 2 ^ (lo + len)) + w / 2 ^ lo % 2 ^ len) + w % 2 ^ lo := by rw [h2, h1]
    _ = _ := by rw [pow_add 2 lo len]; ring

theorem nat_and_field (w lo len : Nat) : w &&& (2 ^ len - 1) <<< lo = w / 2 ^ lo % 2 ^ len * 2 ^ lo := by
  rw [← Nat.and_two_pow_sub_one_eq_mod, ← Nat.shiftRight_eq_div_pow, ← Nat.shiftLeft_eq]
  apply Nat.eq_of_testBit_eq
  intro i
  simp only [Nat.testBit_and, Nat.testBit_shiftLeft, Nat.testBit_shiftRight]
  by_cases h : lo ≤ i
  · simp [h, Nat.add_sub_cancel' h]
  · simp [h]

/-- What a field write leaves: the bits below and above the field, and the value in it. -/
theorem putFld_toNat (w : Word) {lo len : Nat} (v : Nat) (h : lo + len ≤ 32) :
    (putFld w lo len v).toNat = w.toNat % 2 ^ lo + v % 2 ^ len * 2 ^ lo + w.toNat / 2 ^ (lo + len) * 2 ^ (lo + len) := by
  have hs := nat_split w.toNat lo len
  have h3 : 2 ^ (lo + len) = 2 ^ lo * 2 ^ len := pow_add ..
  have hv : v % 2 ^ len * 2 ^ lo ≤ 2 ^ (lo + len) - 2 ^ lo := by
    have := Nat.mod_lt v (show 2 ^ len > 0 by positivity)
    have h5 : v % 2 ^ len * 2 ^ lo + 2 ^ lo ≤ 2 ^ (lo + len) := by rw [h3]; nlinarith [show 0 < 2 ^ lo by positivity]
    omega
  have hl := Nat.mod_lt w.toNat (show 2 ^ lo > 0 by positivity)
  have hlt := w.isLt
  have hb : w.toNat / 2 ^ (lo + len) * 2 ^ (lo + len) + 2 ^ (lo + len) ≤ 2 ^ 32 := by
    have hd : 2 ^ 32 = 2 ^ (lo + len) * 2 ^ (32 - (lo + len)) := by rw [← pow_add]; congr 1; omega
    have : w.toNat / 2 ^ (lo + len) < 2 ^ (32 - (lo + len)) := by
      rw [Nat.div_lt_iff_lt_mul (by positivity), mul_comm, ← hd]; exact hlt
    rw [hd]; nlinarith [show 0 < 2 ^ (lo + len) by positivity]
  have hp : 2 ^ lo ≤ 2 ^ (lo + len) := Nat.pow_le_pow_right (by norm_num) (by omega)
  unfold putFld
  dsimp only
  rw [BitVec.toNat_ofNat, nat_and_field, Nat.shiftLeft_eq, Nat.mod_eq_of_lt] <;> omega

/-- A field reads back what was put into it. -/
theorem bitsOf_putFld_same (w : Word) {lo len : Nat} (v : Nat) (h : lo + len ≤ 32) : bitsOf (putFld w lo len v) lo len = v % 2 ^ len := by
  have h3 : 2 ^ (lo + len) = 2 ^ lo * 2 ^ len := pow_add ..
  have hl := Nat.mod_lt w.toNat (show 2 ^ lo > 0 by positivity)
  rw [bitsOf, putFld_toNat w v h, Nat.shiftRight_eq_div_pow,
    show w.toNat % 2 ^ lo + v % 2 ^ len * 2 ^ lo + w.toNat / 2 ^ (lo + len) * 2 ^ (lo + len) =
      w.toNat % 2 ^ lo + (v % 2 ^ len + w.toNat / 2 ^ (lo + len) * 2 ^ len) * 2 ^ lo by rw [h3]; ring,
    Nat.add_mul_div_right _ _ (by positivity), Nat.div_eq_of_lt hl]
  simp

/-- A field below the one written is as before. -/
theorem bitsOf_putFld_below (w : Word) {lo len lo' len' : Nat} (v : Nat) (h : lo + len ≤ 32) (hb : lo' + len' ≤ lo) :
    bitsOf (putFld w lo len v) lo' len' = bitsOf w lo' len' := by
  have key : ∀ x : Nat, x >>> lo' % 2 ^ len' = x % 2 ^ lo / 2 ^ lo' % 2 ^ len' := by
    intro x
    rw [Nat.shiftRight_eq_div_pow, show lo = lo' + (lo - lo') by omega, pow_add, Nat.mod_mul_right_div_self,
      Nat.mod_mod_of_dvd _ (pow_dvd_pow 2 (by omega))]
  rw [bitsOf, bitsOf, key, key w.toNat, putFld_toNat w v h]
  congr 2
  rw [pow_add, show w.toNat % 2 ^ lo + v % 2 ^ len * 2 ^ lo + w.toNat / (2 ^ lo * 2 ^ len) * (2 ^ lo * 2 ^ len) =
      w.toNat % 2 ^ lo + 2 ^ lo * (v % 2 ^ len + w.toNat / (2 ^ lo * 2 ^ len) * 2 ^ len) by ring, Nat.add_mul_mod_self_left, Nat.mod_mod]

/-- A field above the one written is as before. -/
theorem bitsOf_putFld_above (w : Word) {lo len lo' len' : Nat} (v : Nat) (h : lo + len ≤ 32) (hb : lo + len ≤ lo') :
    bitsOf (putFld w lo len v) lo' len' = bitsOf w lo' len' := by
  have key : ∀ x : Nat, x >>> lo' % 2 ^ len' = x / 2 ^ (lo + len) / 2 ^ (lo' - (lo + len)) % 2 ^ len' := by
    intro x
    rw [Nat.shiftRight_eq_div_pow, Nat.div_div_eq_div_mul, ← pow_add, show lo + len + (lo' - (lo + len)) = lo' by omega]
  have hl := Nat.mod_lt w.toNat (show 2 ^ lo > 0 by positivity)
  have hv := Nat.mod_lt v (show 2 ^ len > 0 by positivity)
  have h3 : 2 ^ (lo + len) = 2 ^ lo * 2 ^ len := pow_add ..
  have hs : w.toNat % 2 ^ lo + v % 2 ^ len * 2 ^ lo < 2 ^ (lo + len) := by rw [h3]; nlinarith [show 0 < 2 ^ lo by positivity]
  rw [bitsOf, bitsOf, key, key w.toNat, putFld_toNat w v h, Nat.add_mul_div_right _ _ (by positivity), Nat.div_eq_of_lt hs, zero_add]

/-- A bit reads back what it was set to. -/
@[simp] theorem bitOf_putBit_same (w : Word) (i : Nat) (b : Bool) (h : i < 32) : bitOf (putBit w i b) i = b := by
  rw [bitOf, putBit, bitsOf_putFld_same _ _ (by omega)]; cases b <;> rfl

/-- Every other bit is as before. -/
theorem bitOf_putBit_ne (w : Word) {i j : Nat} (b : Bool) (hi : i < 32) (h : j ≠ i) : bitOf (putBit w i b) j = bitOf w j := by
  rw [bitOf, bitOf, putBit]
  rcases Nat.lt_or_gt_of_ne h with hl | hg
  · rw [bitsOf_putFld_below _ _ (by omega) (by omega)]
  · rw [bitsOf_putFld_above _ _ (by omega) (by omega)]

/-! ### Fields and counters of the register file -/

theorem State.fld_setFld_same (s : State) (a : Nat) {lo len : Nat} (v : Nat) (h : lo + len ≤ 32) : (s.setFld a lo len v).fld a lo len = v % 2 ^ len := by
  rw [State.fld, State.setFld, State.reg_setReg_same, bitsOf_putFld_same _ _ h]

theorem State.reg_setFld_ne (s : State) (a lo len v : Nat) {b : Nat} (h : b ≠ a) : (s.setFld a lo len v).reg b = s.reg b :=
  State.reg_setReg_ne _ _ _ h

@[simp] theorem State.bit_setBit_same (s : State) (a i : Nat) (b : Bool) (h : i < 32) : (s.setBit a i b).bit a i = b := by
  rw [State.bit, State.setBit, State.reg_setReg_same, bitOf_putBit_same _ _ _ h]

theorem State.reg_setBit_ne (s : State) (a i : Nat) (v : Bool) {b : Nat} (h : b ≠ a) : (s.setBit a i v).reg b = s.reg b :=
  State.reg_setReg_ne _ _ _ h

/-- A saturating counter counts up and stays at its greatest value. -/
theorem State.bump_reg (s : State) (a k : Nat) : ((s.bump a k).reg a).toNat = Nat.min 0xFFFFFFFF ((s.reg a).toNat + k) := by
  rw [State.bump, State.reg_setReg_same, w32, BitVec.toNat_ofNat, Nat.mod_eq_of_lt]
  have := Nat.min_le_left 0xFFFFFFFF ((s.reg a).toNat + k)
  exact Nat.lt_of_le_of_lt this (by decide)

theorem State.reg_bump_ne (s : State) (a k : Nat) {b : Nat} (h : b ≠ a) : (s.bump a k).reg b = s.reg b := State.reg_setReg_ne _ _ _ h

/-- A wrapping counter. -/
@[simp] theorem State.count_reg (s : State) (a k : Nat) : (s.count a k).reg a = s.reg a + w32 k := State.reg_setReg_same _ _ _

theorem State.reg_count_ne (s : State) (a k : Nat) {b : Nat} (h : b ≠ a) : (s.count a k).reg b = s.reg b := State.reg_setReg_ne _ _ _ h

end Sys2Proof.Machine
end

