-- ==== Sys2Proof/WellFormed.lean ====
section
/-! DEFINITION. Which commands a sender may form: the conditions on their operands that the encodings of the spec impose. -/

namespace Sys2Proof

/-- Bits of an operation word that say what follows it: the extension bit agrees with the extension word (R105, R106). -/
def CpWord.wf (w : CpWord) : Bool := w.word.getLsbD 30 == w.ext.isSome

/-- Operations of a bundle before one of its operations: none carries the stop bit (R105). -/
def beforeWf (l : List CpWord) : Bool := l.all (fun w => w.wf && !w.word.getLsbD 31)

/-- Operations of a bundle after one of its operations: the last carries the stop bit and no other does (R105). -/
def afterWf : List CpWord → Bool
  | [] => true
  | [w] => w.wf && w.word.getLsbD 31
  | w :: t => w.wf && !w.word.getLsbD 31 && afterWf t

/-- One operation of a bundle. -/
def CpOp.wf (o : CpOp) : Bool := beforeWf o.before && afterWf o.after

/-- Cells at strictly rising addresses. -/
def rising : List (Nat × Byte) → Bool
  | [] => true
  | [_] => true
  | c :: d :: t => decide (c.1 < d.1) && rising (d :: t)

/-- The cells of a PW: at least one, rising, within one 256-byte block, and the poisoned words among them (R181, R298). -/
def pwWf (cells : List (Nat × Byte)) (pois : List Nat) : Bool :=
  match cells with
  | [] => false
  | c :: _ => rising cells && cells.all (fun d => d.1 / 256 == c.1 / 256) && pois.all (fun w => cells.any (fun d => d.1 / 8 == w))

/-- A message body (R298): an RREQ asks for 1 to 4096 bytes, an RD for 1 to 256 bytes of one block, and read data is 1 to 256 bytes. -/
def Body.wf : Body → Bool
  | .pw cells pois _ _ _ => pwWf cells pois
  | .rreq a n _ _ => decide (0 < n ∧ n ≤ 4096 ∧ a / 2 ^ 24 = (a + n - 1) / 2 ^ 24)
  | .rd a n _ => decide (0 < n ∧ a % 256 + n ≤ 256)
  | .rdr _ data _ _ _ => decide (0 < data.length ∧ data.length ≤ 256)
  | _ => true

/-- The bundle operation of a command, if it is one. -/
def Instr.op : Instr → Option CpOp
  | .mov o | .add o | .addc o | .sub o | .subc o | .and o | .or o | .xor o | .shl o | .shr o | .sar o | .mul o | .mulhs o | .mulhu o | .min o |
    .max o | .cmp o | .plog o | .mfc o | .mtc o | .div o | .divu o | .rem o | .remu o | .isqrt o | .ld o | .st o | .lea o | .reps o | .movs o |
    .fills o | .scans o | .cmps o | .br o | .brD o | .brl o | .brlD o | .bri o | .briD o | .reti o | .retn o | .endEntry o | .nop o | .rpt o |
    .rptC o | .loop o | .loopC o | .evsend o | .evsendi o | .evwait o | .twaitR o | .twaitA o | .fire o | .starm o | .strel o | .ststop o |
    .dsub o | .dwait o | .vadd o | .vsub o | .vadds o | .vaddsu o | .vsubs o | .vsubsu o | .vmul o | .vmulhs o | .vmulhu o | .vmin o | .vminu o |
    .vmax o | .vmaxu o | .vand o | .vor o | .vxor o | .vshl o | .vshr o | .vsar o | .vabsdu o | .vavgu o | .vcmpeq o | .vcmplt o | .vcmpltu o |
    .vsel o | .vmacc o | .vmv o | .vwmul o | .vwmulu o | .vwmacc o | .vwmaccu o | .vdot4 o | .vdot4u o | .vdot4su o | .vnshr o | .vfadd o |
    .vfsub o | .vfmul o | .vfma o | .vfmin o | .vfmax o | .vfcvtFI o | .vfcvtIF o | .vmvfx o | .vmvxf o | .setvl o | .vrdc o | .vwrc o |
    .vredsum o | .vredsumu o | .vredmax o | .vredmaxu o | .vredmin o | .vredminu o | .vfredsum o | .vfredmax o | .vld o | .vst o | .vld2 o |
    .vld3 o | .vld4 o | .vst2 o | .vst3 o | .vst4 o | .vldx o | .vstx o | .macb o | .macby o | .macp o | .mclr o | .mrnd o | .mrdl o | .mrdh o |
    .mwr o | .mtm o | .mfm o | .mrep o => some o
  | _ => none

/-- A command's operands can be formed: an access is 1, 2, 4 or 8 bytes wide (R7), or a read of the host inside 4 KiB (R348); a packet's payload has a word count of 16 bits (R316); a host
access to BAR2 crosses no 4 KiB boundary and a write carries at most 512 bytes (R346, R348). -/
def Instr.wf : Instr → Bool
  | .regWrite _ _ width _ => width == 1 || width == 2 || width == 4 || width == 8
  | .rcRead req ⟨a, width⟩ | .wideReadLow req ⟨a, width⟩ =>
    width == 1 || width == 2 || width == 4 || width == 8 || (req.val == 40 && 0 < width && a.toNat % 4096 + width ≤ 4096)
  | .pw m _ | .rreq m _ | .rd m _ | .rdr m _ | .inc m _ | .ack m _ | .rcred m _ | .tc m _ | .hb m _ => m.body.wf
  | .line _ _ _ payload _ _ => decide (payload.length < 2 ^ 16)
  | .hostBar2Write off data => decide (0 < data.length ∧ data.length ≤ 512 ∧ off.toNat % 4096 + data.length ≤ 4096)
  | .hostBar2Read off len => decide (0 < len ∧ off.toNat % 4096 + len ≤ 4096)
  | .interruptEntry n => afterWf n.bundle
  | i => i.op.all CpOp.wf

end Sys2Proof
end

