-- ==== Sys2Proof/Tests/Slice0.lean ====
section
/-! SUPPORT. Tests of the model: a witness for the hypotheses of each statement, ill-formed commands that the check refuses, and examples that the
spec works out. -/

namespace Sys2Proof.Tests
open Sys2Proof.Machine

set_option Elab.async false

/-! ### States -/

/-- s with registers written. -/
def put (s : State) (l : List (Nat × Word)) : State := l.foldl (fun s e => s.setReg e.1 e.2) s

/-- A READY chip: the whole grid in service, the segments of vault 0 ON, one DRAM channel of 1 GiB in use and trained, timebase, Belfry and TIO enabled. -/
def ready : State := put State.reset
  [(Reg.KEEP_STATE, 0x902), (Reg.KEEP_GRID, 0xFFFFFFFF), (Reg.KEEP_SPIRE_PWR, 0xFFFFFFFF), (Reg.KEEP_SPIRE_PSTAT, 0xFFFFFFFF), (Reg.KEEP_DRAM, 0x01010111), (Reg.KEEP_SPIRES, 0x200000),
   (Reg.DRC_STAT 0, 0xC0), (Reg.VLT_SEG_STAT 0, 0xAAAAAAAA), (0x010008, 1), (0x020008, 1), (0x040008, 1)]

/-- A core running at 0x40, with the groups there fetched. -/
def core0 : Core := { Core.reset with st := 1, pc := 0x40, groups := [{ addr := 0x40, bad := [] }, { addr := 0x60, bad := [] }] }

/-- The same chip with core 0 running. -/
def run0 : State := ready.setCore 0 core0

/-- An operation of core 0, alone in its bundle and without a guard. -/
def op0 : CpOp := { core := 0, before := [], after := [], pred := 0, pneg := false, sub := 0, opnd := 0, ext := none }

/-! ### Operations that take place -/

/-- The state in which the bundle that o opens has passed the checks of its fetch, and whether it has. -/
def opened (s : State) (o : CpOp) (slot opc : Nat) : Bool × State :=
  if o.before.isEmpty then s.bundleStart o.core.val (o.bundle slot opc) else (true, s)

/-- The state in which it has passed the checks of its issue, and whether it has. -/
def issued (v : State) (o : CpOp) (slot opc : Nat) : Bool × State :=
  if o.before.all CpWord.isRpt then v.issueStart o.core.val o.lost (o.bundle slot opc) (o.cw slot opc :: o.after) else (true, v)

/-- The operation takes place in s, in a state with p. -/
def takesB (s : State) (o : CpOp) (slot opc : Nat) (p : State → Bool) : Bool :=
  decide ((s.core o.core.val).st = 1) && decide ((s.core o.core.val).part = o.before) &&
  decide (o.before ≠ [] → (s.core o.core.val).todo = o.cw slot opc :: o.after) &&
  (match opened s o slot opc with
   | (false, _) => false
   | (true, v) => match issued v o slot opc with
     | (false, _) => false
     | (true, u) => decide ((u.core o.core.val).passes (o.cw slot opc) = true) && decide ((u.core o.core.val).todo ≠ []) && p u)

theorem takesB_takes {s : State} {o : CpOp} {slot opc : Nat} {p : State → Bool} (h : takesB s o slot opc p = true) :
    ∃ u, Takes s o slot opc u ∧ p u = true := by
  unfold takesB at h
  simp only [Bool.and_eq_true, decide_eq_true_eq] at h
  obtain ⟨⟨⟨h1, h2⟩, h3⟩, h4⟩ := h
  split at h4
  · cases h4
  · rename_i v h5
    split at h4
    · cases h4
    · rename_i u h6
      simp only [Bool.and_eq_true, decide_eq_true_eq] at h4
      exact ⟨u, ⟨h1, h2, h3, ⟨v, h5, h6⟩, h4.1.1, h4.1.2⟩, h4.2⟩

/-- Every operation of list l with operands o takes place in s. -/
def allTake (s : State) (o : CpOp) (l : List (Nat × Nat)) : Bool := l.all (fun x => takesB s o x.1 x.2 (fun _ => true))

theorem allTake_takes {s : State} {o : CpOp} {l : List (Nat × Nat)} (h : allTake s o l = true) : ∀ x ∈ l, ∃ u, Takes s o x.1 x.2 u := by
  intro x hx
  obtain ⟨u, h, -⟩ := takesB_takes (List.all_eq_true.mp h x hx)
  exact ⟨u, h⟩

/-- Slot and opcode of m operations of the table `operations`, from number k. -/
def codes (o : CpOp) (k m : Nat) : List (Nat × Nat) := (((operations o).drop k).take m).map (·.2)

/-! ### Witnesses: operations of a bundle -/

/-- An S-slot operation on registers LR and LR, DST and SRC at the last value that names a register. -/
def opHi (k : BitVec 4) (v : BitVec 16) : CpOp := { op0 with sub := k, opnd := v }

/-- AluResults: the register, immediate and memory kinds at both ends of their operand words, and the long operations. -/
theorem witness_AluResults :
    [(0, 0), (0, 0x9000), (1, 0), (1, 0x9FFF), (2, 0), (2, 0x8FFF), (3, 0), (3, 0x8FFF)].all (fun x => allTake run0 (opHi x.1 x.2) (codes (opHi x.1 x.2) 0 16)) = true ∧
    allTake run0 op0 (codes op0 20 5) = true ∧ ({ Core.reset with lop := some (0x70, 4, 4) } : Core).lop = some (0x70, 4, 4) := by
  decide +kernel

/-- PredicatesAndControl and PredicateZero: both forms of CMP, each control register, P0 and another predicate. -/
theorem witness_PredicatesAndControl :
    [0, 7, 8, 15].all (fun k => [0, 0x9C00].all (fun v => allTake run0 (opHi k v) (codes (opHi k v) 16 1))) = true ∧
    [0, 0xFF8F].all (fun v => allTake run0 (opHi 0 v) (codes op0 17 1)) = true ∧
    [0, 0x200, 0x400, 0x600, 0x8800].all (fun v => takesB run0 (opHi 0 v) 0 0x51 (fun u => decide ((u.core 0).mtcs = [])) && allTake run0 (opHi 0 v) (codes op0 19 1)) = true := by
  decide +kernel

theorem witness_PredicateZero :
    [0, 15].all (fun k => ofld (opHi k 0).opnd.toNat 10 3 == 0 && allTake run0 (opHi k 0) (codes (opHi k 0) 16 1)) = true ∧
    (ofld (opHi 0 0).opnd.toNat 13 3 = 0 ∧ allTake run0 (opHi 0 0) (codes (opHi 0 0) 17 1) = true) ∧
    (ofld (opHi 0 0x8200).opnd.toNat 9 4 = 1 ∧ takesB run0 (opHi 0 0x8200) 0 0x51 (fun u => decide ((u.core 0).mtcs = [])) = true ∧
      allTake run0 (opHi 0 0x8200) (codes (opHi 0 0x8200) 19 1) = true) := by
  decide +kernel

/-- LoadStoreAddress: loads of each size with and without sign and update, stores, LEA. -/
theorem witness_LoadStoreAddress :
    ([0, 1, 2, 3, 4, 6, 8, 9].all (fun k => allTake run0 (opHi k 0x8FFF) (codes (opHi k 0x8FFF) 38 1)) = true) ∧
    ([0, 1, 4, 5, 8, 9].all (fun k => allTake run0 (opHi k 0x8FFF) (codes (opHi k 0x8FFF) 39 1)) = true) ∧ allTake run0 (opHi 0 0x8FFF) (codes (opHi 0 0x8FFF) 40 1) = true := by
  decide +kernel

/-- A core with a read on its way. -/
def returning (pois : Bool) (op : LoadOp) : State :=
  ready.setCore 0 { Core.reset with st := 1, pc := 0x40, loads := [{ fresh := false, due := 0, op := op, data := 0xFF, pois := pois, pc := 0x20, addr := 0x100 }] }

theorem witness_NarrowReadReturns : ∀ p ∈ [false, true], ∀ op ∈ [LoadOp.alu 1 0, .load 4 0 true, .load 0 2 false], ∃ l,
    ((returning p op).core 0).loads = [l] ∧ ((returning p op).core 0).mtcs = [] ∧ ((returning p op).core 0).vpend = [] ∧ l.pois = p ∧ l.op = op ∧
      ((returning p op).core 0).late = [] := by
  intro p _ op _
  exact ⟨_, rfl, rfl, rfl, rfl, rfl, rfl⟩

/-- A NOP of the S slot, the last of its bundle. -/
def nopWord : CpWord := { word := 0x806D0000, ext := none }

theorem witness_BundleProgress : (PlainEnd run0 0 ((run0.core 0).part ++ [nopWord]) ∧ (run0.core 0).ctl = .none) ∧
    (let s := run0.modCore 0 (fun c => { c with ctl := .branch 0x100 false, lend := 0x100 })
     PlainEnd s 0 ((s.core 0).part ++ [nopWord]) ∧ (s.core 0).ctl = .branch 0x100 false ∧ (s.core 0).lbeg.toNat ≤ 0x100 ∧ 0x100 ≤ (s.core 0).lend.toNat ∧
      ∀ l < 3, s.bit (Reg.MAC_RCTL 0) l = false) := by
  unfold PlainEnd
  decide +kernel

theorem witness_Branches : ([0, 0xFFFF].all (fun v => allTake run0 (opHi 0 v) (codes (opHi 0 v) 27 4)) = true) ∧ ([0, 0x8000].all (fun v => allTake run0 (opHi 0 v) (codes (opHi 0 v) 31 2)) = true) ∧
    allTake run0 op0 (codes op0 26 1) = true := by
  decide +kernel

theorem witness_ReturnsAndEnd : (let s := run0.modCore 0 (fun c => { c with stack := [(0x201, 0x2000)], nmiAct := true })
    allTake s op0 (codes op0 33 2) = true ∧ (s.core 0).stack = [(0x201, 0x2000)]) ∧ ([0, 1].all (fun v => allTake run0 (opHi 0 v) (codes (opHi 0 v) 35 1)) = true) := by
  decide +kernel

/-- An operation that stands before another of its bundle. -/
def opThen (v : BitVec 16) (w : CpWord) : CpOp := { op0 with opnd := v, after := [w] }

/-- VADD V0, V0, V0 in slot V0, the last of its bundle. -/
def vaddWord : CpWord := { word := 0x81000000, ext := none }

/-- RPT opens the bundle of o in s with its guard passing. -/
def rptB (s : State) (o : CpOp) (opc : Nat) : Bool :=
  decide ((s.core o.core.val).st = 1) && decide ((s.core o.core.val).part = []) && decide (o.before = []) &&
  (match s.bundleStart o.core.val (o.bundle 0 opc) with
   | (false, _) => false
   | (true, u) => decide ((u.core o.core.val).passes (o.cw 0 opc) = true))

theorem rptB_takes {s : State} {o : CpOp} {opc : Nat} (h : rptB s o opc = true) : ∃ u, RptTakes s o opc u := by
  unfold rptB at h
  simp only [Bool.and_eq_true, decide_eq_true_eq] at h
  obtain ⟨⟨⟨h1, h2⟩, h3⟩, h4⟩ := h
  split at h4
  · cases h4
  · rename_i u h5
    exact ⟨u, h1, h2, h3, h5, of_decide_eq_true h4⟩

theorem witness_RepeatsAndLoops :
    ([0, 1, 0xFFFF].all (fun v => rptB run0 (opThen v vaddWord) 0x69) = true) ∧ rptB run0 (opThen 0 vaddWord) 0x6E = true ∧
    ([0, 1, 0xFFFF].all (fun n => allTake run0 { opHi 0 8 with ext := some n } (codes op0 36 1)) = true) ∧ allTake run0 (opHi 0 8) (codes op0 37 1) = true ∧
    [1, 2].all (fun n => let c := { Core.reset with pc := 0x40, sr := 0x2040, lend := 0x40, ln := n }
      c.loopEnd c.pc && c.ln == n) = true := by
  decide +kernel

/-- REPS, with P1 as its predicate, before a string operation. -/
def repsWord : CpWord := { word := 0x006C2000, ext := none }

/-- A core that has issued REPS, two bytes left, the string operation next. -/
def strings (o : CpOp) (opc : Nat) (cnt : BitVec 16) : State :=
  ready.setCore 0 { Core.reset with st := 1, pc := 0x40, part := [repsWord], todo := [o.cw 1 opc], agv := { Scal.reset with ix0 := 0x100, ix1 := 0x200, cnt := cnt }, isv := Scal.reset }

def opStr : CpOp := { op0 with before := [repsWord] }

theorem witness_StringElements :
    takesB run0 { op0 with opnd := 0x2000, after := [{ word := 0x80B00000, ext := none }] } 0 0x6C (fun _ => true) = true ∧
    [0, 1, 2, 3].all (fun kind => [0, 1, 2].all (fun cnt => takesB (strings opStr (0x30 + kind) cnt) opStr 1 (0x30 + kind) (fun u =>
      decide ((u.core 0).part = [repsWord]) && (u.core 0).passes repsWord && !u.strStops 0 && decide ((u.core 0).agv.cnt = cnt) &&
      (decide (cnt = 0) || let r := stringRuns u opStr kind cnt.toNat
        decide (r.1.src = 0) && !r.1.hold && decide ((r.2.core 0).todo ≠ []))))) = true ∧
    takesB (strings opStr 0x30 3) { opStr with upTo := some 2 } 1 0x30 (fun u => !u.strStops 0 && let r := stringRuns u { opStr with upTo := some 2 } 0 2
      decide (r.1.src = 0) && !r.1.hold && !r.1.hit) = true ∧
    takesB (put ((strings opStr 0x30 3).modCore 0 (fun c => { c with sr := 0x2080 })) [(Reg.CP_IRQ_RAW 0, 0x40), (Reg.CP_IRQ_EN 0, 0x40)]) opStr 1 0x30 (fun u => u.strStops 0 && let r := stringRuns u opStr 0 1
      decide (r.1.src = 0) && !r.1.hold && !r.1.hit) = true ∧
    (run0.partsFault 0 1 [((elemAddr 1 0x200).toNat, 1)] = 0 ∧ run0.partsFault 0 0 [((elemAddr 1 0x100).toNat, 1)] = 0 ∧
      (run0.narrowRead 0 (elemAddr 1 0x100).toNat 1).2.1 = false ∧ ((run0.narrowRead 0 (elemAddr 1 0x100).toNat 1).2.2.narrowRead 0 (elemAddr 1 0x200).toNat 1).2.1 = false) ∧
    (run0.partsFault 0 1 [((elemAddr 1 0x05000000).toNat, 1)] ≠ 0 ∧ run0.partsFault 0 0 [((elemAddr 1 0x05000000).toNat, 1)] ≠ 0) := by
  decide +kernel

theorem witness_EventSends : ([0, 1, 0x0FFC, 0xF804].all (fun v => allTake run0 (opHi 0 v) (codes op0 45 1)) = true) ∧ allTake run0 { opHi 0 2 with ext := some 5 } (codes op0 45 1) = true ∧
    allTake run0 op0 (codes op0 46 1) = true := by
  decide +kernel

/-- A core whose bundle waits with operation w. -/
def waiting (w : CpWord) (ev : Word) : State :=
  put (ready.setCore 0 { Core.reset with st := 1, pc := 0x40, wait := [w] }) [(evtReg 0 0, ev)]

/-- EVWAIT for counter 0 to reach ACC, and TWAIT.R to the tick start plus 5. -/
def evwaitWord : CpWord := { word := 0x82820020, ext := none }
def twaitWord : CpWord := { word := 0xC2830000, ext := some 5 }

theorem witness_Waits :
    allTake run0 (opHi 0 0x20) (codes op0 47 1) = true ∧ allTake run0 { op0 with ext := some 0 } (codes op0 48 1) = true ∧ allTake run0 op0 (codes op0 49 1) = true ∧
    [0, 0x7FFFFFFF, 0x80000000].all (fun ev => (((waiting evwaitWord ev).modCore 0 Core.slotStart).core 0).wait.find? (fun w => w.slot == 5 && w.opc == 2 &&
      (((waiting evwaitWord ev).modCore 0 Core.slotStart).core 0).passes w) == some evwaitWord) = true ∧
    ((((waiting twaitWord 0).modCore 0 Core.slotStart).core 0).wait.find? (fun w => w.slot == 5 && (w.opc == 3 || w.opc == 4) &&
      (((waiting twaitWord 0).modCore 0 Core.slotStart).core 0).passes w) = some twaitWord) ∧
    waitHolds ((waiting evwaitWord 0x7FFFFFFF).modCore 0 Core.slotStart) 0 evwaitWord ∧ ¬ waitHolds ((waiting evwaitWord 0x80000000).modCore 0 Core.slotStart) 0 evwaitWord ∧
    ¬ waitHolds ((waiting twaitWord 0).modCore 0 Core.slotStart) 0 twaitWord := by
  unfold waitHolds
  decide +kernel

/-- A core with a record on its way. -/
def recording (pois : Bool) : State :=
  ready.setCore 0 { Core.reset with st := 1, fires := [{ data := [], pois := pois, pc := 0, addr := 0 }], dsubs := [{ data := [], pois := pois, pc := 0, addr := 0 }] }

theorem witness_FireRecords : takesB run0 op0 5 0x05 (fun u => decide (((recordRead u 0 (eAddr (u.core 0) op0 / 16 * 16)).2.2.core 0).todo ≠ [])) = true ∧
    ∀ p ∈ [false, true], ∃ r t, ((recording p).core 0).fires = r :: t ∧ r.pois = p ∧ ((recording p).core 0).late = [] := by
  refine ⟨by decide +kernel, fun p _ => ⟨_, _, rfl, rfl, rfl⟩⟩

theorem witness_DescriptorSubmission : (takesB run0 op0 5 0x40 (fun u => decide (u.localPart 0 (eAddr (u.core 0) op0 / 32 * 32) 32 0 = .mem (vaultAddr 0 0))) = true ∧
    allTake run0 op0 (codes op0 55 1) = true) ∧ ∀ p ∈ [false, true], ∃ r t, ((recording p).core 0).dsubs = r :: t ∧ r.pois = p ∧ ((recording p).core 0).late = [] := by
  refine ⟨by decide +kernel, fun p _ => ⟨_, _, rfl, rfl, rfl⟩⟩

/-- Core 0 running beside a busy stream 0 of its spire, one row ready and not released, one row being fetched. -/
def streaming : State :=
  (put run0 [(Reg.STR_STAT 0 0, 0x80040200), (Reg.STR_READY 0 0, 1)]).setStrm 0 0 { StreamSt.reset with count := 2, next := 2, rows := [{ j := 1, origin := 0, slot := 1, left := 4 }] }

theorem witness_StreamOperations :
    takesB run0 op0 5 0x20 (fun u => decide (((u.streamArm 0 0 (u.core 0).agv.acc).core 0).todo ≠ [])) = true ∧
    takesB streaming op0 5 0x21 (fun u => decide ((u.strm 0 0).released < (u.reg (Reg.STR_READY 0 0)).toNat) && decide (u.fld (Reg.STR_STAT 0 0) 18 9 ≠ 0)) = true ∧
    takesB streaming op0 5 0x22 (fun u => u.strBusy 0 0 && decide ((u.strm 0 0).rows ≠ [])) = true := by
  decide +kernel

/-! ### Witnesses: vector and MAC operations -/

/-- Core 0 running with elements of 8 (k = 0), 16 or 32 bits and VL = vl. -/
def vec (k : Word) (vl : Word) : State := put run0 [(Reg.VU_VTYPE 0, k), (Reg.VU_VL 0, vl)]

theorem witness_VectorIntegers : [(0, 256), (1, 128), (2, 64), (0, 0)].all (fun x => [(0, 0), (1, 0)].all (fun y =>
    allTake (vec x.1 x.2) (opHi y.1 y.2) (codes (opHi y.1 y.2) 56 26 ++ codes (opHi y.1 y.2) 98 1))) = true := by
  decide +kernel

theorem witness_VectorWidths : [(0, 256), (1, 128)].all (fun x => allTake (vec x.1 x.2) op0 (codes op0 82 4 ++ codes op0 89 1)) = true ∧
    allTake (vec 2 64) op0 (codes op0 86 3) = true := by
  decide +kernel

theorem witness_VectorFloats : [0, 1, 64].all (fun vl => allTake (vec 2 vl) op0 (codes op0 90 8)) = true := by
  decide +kernel

/-- A core on which VADD V0, V1, V1 at 32 bits issued k bundles before, with ones in the elements of V1. -/
def opAt (k : Nat) : Core :=
  let ones := BitVec.ofNat 2048 ((List.range 64).foldl (fun a i => a + 2 ^ (32 * i)) 0)
  let regs := [(0, ones + ones), (1, ones)]
  { Core.reset with vregs := regs, v1 := regs, v2 := regs, v3 := regs, v4 := [(1, ones)], vlog := [(k, .op ({ op0 with opnd := 0x0042 }.cw 2 0) 32 0 64)] }

/-- R137, R142: VMVFX one bundle behind VADD of the same register leaves the sums of the beats above 1, which are written after it. -/
theorem test_vmvfx_behind_vadd : [0, 1, 15, 16, 31, 32, 63].map (fun e => velem (((opAt 1).fdNow 0 7).v 0) 32 e) = [7, 0, 0, 0, 0, 2, 2] := by
  decide +kernel

/-- R137, R142: VADD finds the zeros of VMVFX in the beats that it reads in the same cycle or later. -/
theorem test_vadd_before_vmvfx : [0, 15, 16, 63].map (fun e => velem (((opAt 1).fdNow 1 7).v 0) 32 e) = [2, 2, 0, 0] := by
  decide +kernel

theorem witness_VectorControl : Core.reset.vlog = [] ∧ ([1, 2, 3].all (fun k => (opAt k).vlog = [(k, .op ({ op0 with opnd := 0x0042 }.cw 2 0) 32 0 64)]) ∧
    ({ op0 with opnd := 0x0042 }.cw 2 0).slot = 2 ∧ ({ op0 with opnd := 0x0042 }.cw 2 0).opc ≤ 0x1C) ∧ [0, 0xE000].all (fun v => allTake run0 (opHi 0 v) (codes op0 102 1)) = true ∧ allTake run0 op0 (codes op0 99 2 ++ codes op0 103 1) = true ∧
    [0, 0x100, 0x200].all (fun v => allTake run0 (opHi 0 v) (codes op0 101 1)) = true ∧ [0x400, 0x800, 0xC00].all (fun v => allTake run0 (opHi 0 v) (codes op0 102 2)) = true := by
  decide +kernel

theorem witness_VectorReductions : [0, 1, 2].all (fun k => allTake (vec k 64) op0 (codes op0 104 6)) = true ∧
    [0, 1, 64].all (fun vl => takesB (vec 2 vl) op0 2 0x56 (fun u => u.vl 0 == vl.toNat && u.vstart 0 == 0) && allTake (vec 2 vl) op0 (codes op0 111 1)) = true := by
  decide +kernel

theorem witness_VectorElements : (∀ a b c d : Nat, ((fun (_ a b _ : Nat) => (a &&& b, VFlag.none)) a b c d).2 = { VFlag.none with sat := ((fun (_ a b _ : Nat) => (a &&& b, VFlag.none)) a b c d).2.sat }) ∧
    (8 = 8 ∨ 8 = 16 ∨ 8 = 32) ∧ 256 ≤ 2048 / 8 :=
  ⟨fun _ _ _ _ => rfl, .inl rfl, by decide⟩

/-- The same with base in IX0 for every stage. -/
def vecAt (k vl base : Word) : State :=
  let x := { Scal.reset with ix0 := base }
  (vec k vl).setCore 0 { core0 with f := x, h1 := x, h2 := x, h3 := x, h4 := x }

theorem witness_VectorMemory :
    [0x60, 0x64, 0x65, 0x66].all (fun c => takesB (vec 0 0) op0 2 c (fun u => decide (requestsOf u 0 (op0.cw 2 c) = [])) &&
      takesB (vec 0 1) op0 2 c (fun u => decide (requestsOf u 0 (op0.cw 2 c) ≠ []) && (u.wideReads 0 (requestsOf u 0 (op0.cw 2 c))).1.all (fun p => !p.2.2))) = true ∧
    [0x61, 0x68, 0x69, 0x6A].all (fun c => takesB (vec 0 0) op0 2 c (fun u => decide (requestsOf u 0 (op0.cw 2 c) = [])) &&
      takesB (vec 0 1) op0 2 c (fun u => decide (requestsOf u 0 (op0.cw 2 c) ≠ []) && (storedCells u 0 (op0.cw 2 c)).all (fun d => decide (d.1 < 2 ^ 48)))) = true ∧
    takesB (vecAt 0 1 0x01000000) op0 2 0x61 (fun u => decide (requestsOf u 0 (op0.cw 2 0x61) ≠ []) && !(storedCells u 0 (op0.cw 2 0x61)).all (fun d => decide (d.1 < 2 ^ 48))) = true ∧
    takesB (vec 0 2) op0 2 0x6C (fun u => decide (((u.gather 0 (op0.cw 2 0x6C) ((u.core 0).vbase (op0.cw 2 0x6C)) (u.vl 0 - u.vstart 0) (u.vstart 0) none).core 0).todo ≠ [])) = true ∧
    takesB (vec 0 2) op0 2 0x6D (fun u => decide (((u.scatter 0 (op0.cw 2 0x6D) ((u.core 0).vbase (op0.cw 2 0x6D)) (u.vl 0 - u.vstart 0) (u.vstart 0)).core 0).todo ≠ [])) = true ∧
    ((vec 0 2).widePart 0 (indexed (vec 0 2) 0 (op0.cw 2 0x6C) 0 1) ((vec 0 2).vesz 0) 0 false = 0 ∧ ((vec 0 2).readMem ((vec 0 2).wideAddr 0 0 0 / 256 * 256) 256 1).2.1 = []) ∧
    (vec 0 2).widePart 0 (indexed (vec 0 2) 0 (op0.cw 2 0x6D) 0 1) ((vec 0 2).vesz 0) 1 false = 0 := by
  decide +kernel

theorem witness_vectorReturns : [none, some (3, 0x100, 0x40)].all (fun (x : Option (Nat × Word × Word)) => let c := { Core.reset with vpend := [{ due := 0, isLoad := true, v1 := false, writes := [], pois := x }] }
    c.vpend == [{ due := 0, isLoad := true, v1 := false, writes := [], pois := x }] && c.loads.isEmpty && c.mtcs.isEmpty && c.late.isEmpty) = true := by
  decide +kernel

theorem witness_MacOperations : [0, 0xFF00].all (fun v => allTake run0 (opHi 0 v) (codes op0 122 3)) = true ∧ [0, 15].all (fun v => allTake run0 (opHi 0 v) (codes op0 125 1)) = true ∧
    [0x8, 0x10008].all (fun x => allTake run0 { op0 with ext := some x } (codes op0 132 1)) = true := by
  decide +kernel

theorem witness_MacAccumulates : 32 < 33 ∧ 3 < 4 ∧ ∃ a, a ≠ Reg.MAC_ACC_LO 0 0 ∧ a ≠ Reg.MAC_ACC_HI 0 0 ∧ a ≠ Reg.MAC_STAT 0 := by
  exact ⟨by decide, by decide, 0, by decide⟩

theorem witness_MacMoves : [0, 0x9800].all (fun v => allTake run0 (opHi 0 v) (codes op0 126 4)) = true ∧ allTake run0 { op0 with ext := some 0 } (codes op0 129 1) = true ∧
    [0, 0x9100].all (fun v => allTake run0 (opHi 0 v) (codes op0 130 2)) = true ∧ allTake run0 (opHi 0 0x9600) (codes op0 131 1) = true := by
  decide +kernel

/-- GuardFails: a guard that does not pass, and a core that does not run. -/
theorem witness_GuardFails : (match run0.bundleStart 0 ({ op0 with pneg := true }.bundle 0 0) with
    | (true, v) => (match v.issueStart 0 0 ({ op0 with pneg := true }.bundle 0 0) [{ op0 with pneg := true }.cw 0 0] with
      | (true, u) => !(u.core 0).passes ({ op0 with pneg := true }.cw 0 0) && decide ((u.core 0).todo ≠ [])
      | _ => false)
    | _ => false) = true ∧ (ready.core 0).st ≠ 1 := by
  decide +kernel

/-! ### Witnesses: register pages, device time and the Belfry -/

/-- Page p answers requester req and its block is not locked. -/
def opensB (s : State) (req p : Nat) : Bool := s.reaches req && s.pageOpen req p && pageListed p && !s.lockedPage p

theorem opensB_opens {s : State} {req p : Nat} (h : opensB s req p = true) : Opens s req p := by
  unfold opensB at h
  simp only [Bool.and_eq_true, Bool.not_eq_true'] at h
  exact ⟨h.1.1.1, h.1.1.2, h.1.2, h.2⟩

/-- The pages that the statements about register commands name, for the Keep (node 41). -/
theorem witness_Opens : [0x000, 0x010, 0x020, 0x021, 0x023, 0x028, 0x040, 0x042, 0x060, 0x061, 0x080, 0x08F, 0x0A0, 0x0A3, 0x0C0, 0x100, 0x101, 0x104, 0x106, 0x108, 0x109, 0x10A, 0x10B, 0x10C,
    0x2FC].all (fun p => opensB ready 41 p) = true := by
  decide +kernel

/-- The chip with its host link up, as the host (node 40) finds it. -/
def hosted : State := { ready with host := { ready.host with up := true, trainEn := true, mse := true } }

theorem witness_RegisterWrites :
    ready.reaches 40 = false ∧ (put ready [(Reg.KEEP_GRID, 0)]).pageOpen 41 0x100 = false ∧
    (ready.reaches 41 = true ∧ ready.pageOpen 41 0x005 = true ∧ pageListed 0x005 = false ∧ pageListed 0x3FFF = false) ∧ opensB hosted 40 0x010 = true ∧
    (3 : Word).toNat % 4 = 3 ∧ [0x01002C, 0x02002C, 0x10002C, 0x10C02C].all (fun a => (put ready [(a, 1)]).lockedPage (a / 0x1000)) = true := by
  decide +kernel

theorem witness_RegisterReads : (hosted.reaches 40 = true ∧ hosted.pageOpen 40 0x10C = true ∧ pageListed 0x10C = true) ∧ (hosted.pageOpen 40 0x010 = true ∧ hosted.shadow = []) ∧ (0x10043 % 4 + 1 ≤ 4 ∧ 0x10042 % 4 + 2 ≤ 4) ∧
    [0x0107F0, 0x1007FC].all (fun a => pageListed (a / 0x1000) && decide (a % 4 = 0 ∧ 0x40 ≤ a % 0x1000 ∧ a % 0x1000 < 0x800) && !isMsix a && (descAt a).isNone && !isLow a && !isLow (a - 4)) = true := by
  decide +kernel

theorem witness_AliasesAndHeaders : [0x101444, 0x101844].all (fun x => let b := x / 0x1000 * 0x1000 + x % 0x400
    opensB ready 41 (b / 0x1000) && decide (b % 4 = 0 ∧ 0x40 ≤ b % 0x1000) && (descAt b).any (fun d => d.1.sc)) = true := by
  decide +kernel

theorem ready_canon : ready.Canon := ⟨by decide +kernel, by decide +kernel⟩

theorem witness_BlockResets : [0x020, 0x024, 0x028, 0x02F, 0x10A, 0x10B].all (fun p => opensB ready 41 p && engagedPage p && !ready.blkRstDropped p) = true ∧
    (let s := put ready [(Reg.SEQ_STATE, 8)]; opensB s 41 0x020 && engagedPage 0x020 && s.blkRstDropped 0x020) = true ∧ (put ready [(0x02002C, 1)]).lockedPage 0x024 = true := by
  decide +kernel

/-- A chip on which a schedule runs, descriptor 0 with one entry. -/
def scheduled : State := put ready [(Reg.SEQ_STATE, 8), (Reg.SEQ_DESC_LEN 0, 1), (Reg.SEQ_DESC_CTL 0, 0x80000001), (Reg.TIME_PERIOD, 50000)]

theorem witness_TimebaseWrites : (ready.bit Reg.TIME_LINK 6 = false ∧ ready.bit Reg.SEQ_STATE 3 = false ∧ ready.qany = false) ∧ (put ready [(Reg.TIME_LINK, 0x40)]).bit Reg.TIME_LINK 6 = true ∧
    (scheduled.bit Reg.TIME_LINK 6 = false ∧ scheduled.bit Reg.SEQ_STATE 3 = true ∧ scheduled.qany = false) ∧ opensB scheduled 41 0x010 = true := by
  decide +kernel

/-- A schedule at device time now. -/
def atTime (s : State) (now : BitVec 64) : State := { s with tb := { s.tb with now := now, running := true } }

theorem witness_TimeEvents : (scheduled.fld Reg.TIME_SRC 0 2 = 0 ∧ gridAt scheduled ≤ scheduled.tb.now.toNat ∧ scheduled.tb.pend = none) ∧
    (let s := { scheduled with tb := { scheduled.tb with gridK := 1 } }; s.tb.now.toNat < gridAt s) ∧
    (let s := atTime (put scheduled [(Reg.TIME_MAX_GAP, 1)]) 1; (s.reg Reg.TIME_MAX_GAP ≠ 0 ∧ s.bit Reg.SEQ_STATE 3 = true ∧ s.tb.stalled = false ∧
      max s.tb.tickStart.toNat s.bel.startTime + (s.reg Reg.TIME_MAX_GAP).toNat ≤ s.tb.now.toNat)) ∧
    [1, 0xFFFFFFFF, 5].all (fun adj => let s := { put ready [(Reg.TIME_ADJ, adj)] with tb := { ready.tb with running := true, slewPhase := 999 } }
      s.tb.running && decide (s.reg Reg.TIME_ADJ ≠ 0) && decide (999 ≤ s.tb.slewPhase)) = true := by
  decide +kernel

/-- A source event of time 0 waits, at device time now. -/
def pendingTick (s : State) (now : BitVec 64) : State := { atTime s now with tb := { (atTime s now).tb with pend := some (plainEvent 0) } }

theorem witness_TickBoundaries : (let s := pendingTick scheduled 50000; s.tb.pend = some (plainEvent 0) ∧ s.bit Reg.SEQ_STATE 3 = true ∧ s.bit 0x010008 0 = true ∧ s.bel.walk = none ∧
      boundaryAt s (plainEvent 0) ≤ s.tb.now.toNat ∧ s.stopCause = 0 ∧ s.bit Reg.SEQ_STATE 8 = false) ∧
    (let s := pendingTick (put scheduled [(Reg.SEQ_STATE, 0x118)]) 50000; boundaryAt s (plainEvent 0) ≤ s.tb.now.toNat ∧ s.stopCause = 0 ∧ s.bit Reg.SEQ_STATE 8 = true) ∧
    (let s := pendingTick (put scheduled [(Reg.SEQ_STATE, 0x208)]) 50000; boundaryAt s (plainEvent 0) ≤ s.tb.now.toNat ∧ s.bit Reg.SEQ_STATE 9 = true) ∧
    (let s := pendingTick scheduled 49999; s.tb.now.toNat < boundaryAt s (plainEvent 0)) := by
  unfold boundaryAt
  decide +kernel

theorem witness_BeforeSpireMapping : (let s := put hosted [(Reg.KEEP_GRID, 0)]; s.host.up = true ∧ s.reg Reg.KEEP_GRID = 0) ∧ [0x100000, 0x2FFFFC].all (fun a => isSpirePage (a / 0x1000)) = true ∧
    isSpirePage 0x0FF = false ∧ isSpirePage 0x300 = false := by
  decide +kernel

/-- The walk of a schedule stands at an entry whose 16 bytes are those of e. -/
def walking (e : Nat) : State := { (atTime scheduled 1000).setBytes (tblAddr 0) (leBytes e 16) with bel := { scheduled.bel with walk := some 0 } }

theorem walking_due (e : Nat) (h : e ∈ [0, 2 <<< 88, 1 <<< 88, (0x10 <<< 88) + (3 <<< 80), (0x11 <<< 88) + (4 <<< 80) + (31 <<< 72), (0x11 <<< 88) + (2 <<< 80) + (31 <<< 72), (0x12 <<< 88) + (2 <<< 80),
    (0x20 <<< 88) + (1 <<< 80) + (0xFFFFFFFF <<< 40), (0x21 <<< 88) + (2 <<< 80), (0x22 <<< 88) + (1 <<< 80)]) : EntryDue (walking e) 0 0 e 0 := by
  simp only [List.mem_cons, List.not_mem_nil, or_false] at h
  obtain rfl | rfl | rfl | rfl | rfl | rfl | rfl | rfl | rfl | rfl := h <;>
    exact ⟨by decide +kernel, by decide +kernel, by decide +kernel, by decide +kernel, by decide +kernel, by decide +kernel, by decide +kernel, by decide +kernel, by decide +kernel⟩

theorem witness_EntriesGoOut : EntryDue (walking 0) 0 0 0 0 ∧ EntryDue (walking (2 <<< 88)) 0 0 (2 <<< 88) 0 ∧ entOpcode (2 <<< 88) = 2 ∧
    (let s := walking 0; s.bel.walk = some 0 ∧ 0 < s.descLen s.actDesc) ∧ (let s := { walking 0 with bel := { (walking 0).bel with reach := 2000 } }; s.tb.now.toNat < max (s.walkEntry 0).2.2.1 s.bel.reach) ∧
    (let s := { walking 0 with bel := { (walking 0).bel with walk := some 1 } }; s.bel.walk = some 1 ∧ s.descLen s.actDesc ≤ 1 ∧ s.bel.reach ≤ s.tb.now.toNat) ∧ ready.bel.walk = none := by
  refine ⟨walking_due 0 (by decide), walking_due _ (by decide), ?_⟩
  decide +kernel

theorem witness_ScheduleCommands : (let s := put ready [(Reg.SEQ_DESC_CTL 7, 0x80000020)]; s.bit Reg.SEQ_STATE 3 = false ∧ s.chip = 2 ∧ s.bit 0x020008 0 = true ∧ runnable s 7 ∧ s.bit (Reg.SEQ_DESC_CTL 0) 31 = false ∧
      s.fld (Reg.SEQ_DESC_CTL 0) 0 6 ≤ s.fld Reg.KEEP_SPIRES 16 6) ∧
    (let s := put ready [(Reg.SEQ_DESC_CTL 7, 0x80000020), (0x020008, 0)]; s.bit 0x020008 0 = false ∧ runnable s 7) ∧
    (let s := put ready [(Reg.SEQ_DESC_CTL 7, 0x80000020), (Reg.KEEP_STATE, 0x905)]; s.chip = 5 ∧ runnable s 7) ∧
    (let s := put ready [(Reg.SEQ_DESC_CTL 7, 0x80000020), (Reg.KEEP_SPIRES, 0x1F0000)]; s.bit (Reg.SEQ_DESC_CTL 7) 31 = true ∧ s.fld Reg.KEEP_SPIRES 16 6 < s.fld (Reg.SEQ_DESC_CTL 7) 0 6) ∧
    (scheduled.bit Reg.SEQ_STATE 3 = true ∧ scheduled.chip = 2 ∧ scheduled.bit 0x020008 0 = true ∧ runnable scheduled 0 ∧ scheduled.bit (Reg.SEQ_DESC_CTL 7) 31 = false) ∧
    (let s := put scheduled [(Reg.KEEP_SPIRES, 0)]; s.bit Reg.SEQ_STATE 3 = true ∧ s.bit (Reg.SEQ_DESC_CTL 0) 31 = true ∧ s.fld Reg.KEEP_SPIRES 16 6 < s.fld (Reg.SEQ_DESC_CTL 0) 0 6) ∧
    (let s := put scheduled [(0x020008, 0)]; s.bit Reg.SEQ_STATE 3 = true ∧ s.bit 0x020008 0 = false ∧ runnable s 0) ∧
    ((put scheduled [(Reg.SEQ_STATE, 0x108)]).bit Reg.SEQ_STATE 8 = true ∧ (put scheduled [(Reg.SEQ_STATE, 0x208), (0x020008, 0)]).bit Reg.SEQ_STATE 9 = true) ∧
    (ready.bit Reg.SEQ_STATE 8 = false ∧ ready.bit Reg.SEQ_STATE 9 = false) := by
  unfold runnable
  decide +kernel

/-- The conditions of its completion meet for START at SPIRES = 32, for SWITCH and STOP on the running schedule, for CANCEL with either pending bit, and for a plain register write. -/
theorem witness_completion : (let s := put ready [(Reg.SEQ_DESC_CTL 7, 0x80000020)]; opensB s 41 0x020 = true ∧ s.bit Reg.SEQ_STATE 3 = false ∧ s.chip = 2 ∧ s.bit 0x020008 0 = true ∧ runnable s 7) ∧
    opensB scheduled 41 0x020 = true ∧ opensB (put scheduled [(Reg.SEQ_STATE, 0x108)]) 41 0x020 = true ∧ opensB (put scheduled [(Reg.SEQ_STATE, 0x208)]) 41 0x020 = true ∧
    [0x010, 0x020, 0x023, 0x10C, 0x2FC].all (fun p => opensB ready 41 p) = true := by
  unfold runnable
  decide +kernel

theorem witness_DescriptorsAndTable : (let t := put ready [(Reg.SEQ_DESC_LEN 0, 131072), (Reg.SEQ_DESC_PERIOD 0, 50000), (Reg.SEQ_DESC_CTL 0, 1)]; descWrong t 0 = 0) ∧
    (let t := put ready [(Reg.SEQ_DESC_LEN 0, 131073)]; descWrong t 0 = 1) ∧ (let t := put ready [(Reg.SEQ_DESC_LEN 0, 1), (Reg.SEQ_DESC_PERIOD 0, 100000001)]; descWrong t 0 = 3) ∧
    (scheduled.bit Reg.SEQ_STATE 3 = true ∧ scheduled.fld Reg.SEQ_STATE 0 3 = 0) ∧ entryInUse scheduled 0 ∧ ¬ entryInUse scheduled 1 := by
  unfold entryInUse
  decide +kernel

theorem witness_TableLoads : (let s := put ready [(Reg.SEQ_LOAD_CNT, 131072)]; s.bit Reg.SEQ_LOAD_CTL 30 = false ∧ s.fld Reg.SEQ_LOAD_CNT 0 18 ≠ 0 ∧ s.fld Reg.SEQ_LOAD_IDX 0 17 + s.fld Reg.SEQ_LOAD_CNT 0 18 ≤ 131072 ∧
      ¬ rangeInUse s 0 131072 ∧ s.reg64 Reg.SEQ_LOAD_SRC_LO < s.dramCap ∧ s.credUsed 42 (s.nodeOf 0) < 2 ∧ 2 ≤ (s.setCred 42 (s.nodeOf 0) 2).credUsed 42 (s.nodeOf 0)) ∧ ready.fld Reg.SEQ_LOAD_CNT 0 18 = 0 ∧
    (let x : Returned := { tag := .loader 0, addr := 0, data := List.replicate 16 0, pois := [], off := false }
     let s := { ready with returned := [x], bel := { ready.bel with loader := { Loader.reset with phase := 2, left := 16 } } }
     s.returned.find? (fun x => x.tag == .loader s.bel.loads) = some x ∧ x.pois = [] ∧ s.bel.loader.phase = 2 ∧ x.data.length = 16 * (x.data.length / 16) ∧ s.bel.loader.left = x.data.length ∧ ¬ rangeInUse s 0 1) ∧
    (let l := { Loader.reset with phase := 3, image := true }; l.phase = 3 ∧ l.image = true ∧ l.result = 0 ∧ (~~~l.crc).toNat ≠ leAt l.hdrBytes 0x18 4) := by
  unfold rangeInUse
  decide +kernel

/-! ### Witnesses: core events, messages and vaults -/

/-- Core 0 as given. -/
def withCore (c : Core) : State := ready.setCore 0 c

theorem witness_CoreEvents :
    (let s := put (withCore { Core.reset with queue := [(0x40, 7)] }) [(0x100008, 1)]
     let c := s.core 0
     c.loads.isEmpty && c.mtcs.isEmpty && c.vpend.isEmpty && c.late.isEmpty && decide (c.queue = [(0x40, 7)] ∧ c.st = 0 ∧ c.nmiPend = false) && s.bit 0x100008 0 && !s.bit (Reg.CP_CTL 0) 0 &&
       (s.eligible 0).isNone) = true ∧ (ready.core 0).queue = [] ∧
    [6, 31].all (fun k => let s := put (withCore { Core.reset with st := 1, pc := 0x40, sr := 0x2080 }) [(Reg.CP_IRQ_RAW 0, w32 (2 ^ k)), (Reg.CP_IRQ_EN 0, 0xFFFFFFFF)]
      s.atBoundary 0 && !s.bit (Reg.CP_CTL 0) 0 && s.eligible 0 == some k) = true ∧
    (let s := withCore { Core.reset with nmiPend := true }; s.atBoundary 0 = true ∧ s.bit (Reg.CP_CTL 0) 0 = false ∧ (s.core 0).nmiPend = true ∧ (s.core 0).nmiAct = false) ∧
    (let s := withCore { Core.reset with st := 2 }; s.atBoundary 0 = false ∧ opensB s 41 (Reg.CP_NMI 0 / 0x1000) = true ∧ opensB s 41 (Reg.CP_CTL 0 / 0x1000) = true) ∧
    (let s := put (withCore { Core.reset with st := 1 }) [(Reg.CP_CTL 0, 1)]; s.bit (Reg.CP_CTL 0) 0 = true ∧ s.atBoundary 0 = true) ∧
    (let s := put (withCore { Core.reset with tcmpArmed := true }) [(Reg.CP_TCMP_LO 0, 0), (Reg.CP_TCMP_HI 0, 0)]; (s.core 0).tcmpArmed = true ∧ s.reg64 (Reg.CP_TCMP_LO 0) ≤ s.tb.now.toNat) ∧
    (let s := put (withCore { Core.reset with tcmpArmed := true }) [(Reg.CP_TCMP_LO 0, 1)]; s.tb.now.toNat < s.reg64 (Reg.CP_TCMP_LO 0)) ∧
    opensB ready 41 (Reg.CP_IC_CTL 0 / 0x1000) = true ∧
    (let s := withCore { core0 with groups := [] }; s.missAt 0 (s.core 0).pc.toNat = true ∧ (s.core 0).part = [] ∧ (s.core 0).todo = [] ∧ (s.core 0).sbuf = [] ∧
      (List.range 16).all (fun i => s.localPart 0 (0x40 + 4 * i) 4 2 == .mem (vaultAddr 0 (0x40 + 4 * i))) = true ∧
      ready.poison = [] ∧ ready.eccTwo = [] ∧ ready.eccOne = []) ∧
    (let s := withCore { core0 with f := Scal.reset }; let c := s.core 0
     Settled c ∧ c.st = 1 ∧ c.part = [] ∧ c.todo = [] ∧ s.mustYield 0 = false ∧ c.groups = [{ addr := 0x40, bad := [] }, { addr := 0x60, bad := [] }] ∧ c.pc.toNat / 32 * 32 = 0x40 ∧
      [0x83000000, 0x807F0000].all (fun w => !({ word := w, ext := none } : CpWord).ok false) = true ∧ c.nmiAct = false ∧ c.stack.length < 8) ∧
    (let s := withCore { core0 with groups := [], sbuf := [.bytes [(vaultAddr 0 0, 1)]] }; (s.core 0).sbuf = [.bytes [(vaultAddr 0 0, 1)]] ∧ s.cellOn 0 (vaultAddr 0 0, 1) = true) := by
  unfold Settled
  decide +kernel

/-- A core whose groups are gone misses the group of PC and the next; one that holds them or does not run misses none. -/
theorem witness_Misses : ¬ Misses ready 0 0x40 ∧ ¬ Misses run0 0 0x40 ∧ Misses (withCore { core0 with groups := [] }) 0 0x40 ∧ Misses (withCore { core0 with groups := [] }) 0 0x60 ∧
    Misses (withCore { core0 with groups := [], sbuf := [.bytes [(vaultAddr 0 0, 1)]] }) 0 0x40 ∧ ¬ Misses run0 0 (run0.core 0).pc.toNat := by
  unfold Misses
  decide +kernel

/-- A message from node src to node dst. -/
def msg (src dst : Node) (b : Body) : Msg := { id := 0, src := src, dst := dst, body := b }

/-- CanArrive, evaluated. -/
def arrivesB (s : State) (m : Msg) : Bool :=
  s.mayArrive m && match m.body with
    | .pw .. | .rreq .. | .rd .. => !atDram m.dst.val || decide ((s.dch (m.dst.val - 32)).queue.length < 64)
    | .inc .. => decide (m.dst.val < 32)
    | .tc | .hb => decide (m.dst.val = 42 ∧ m.src.val < 32)
    | _ => true

theorem arrivesB_canArrive {s : State} {m : Msg} (h : arrivesB s m = true) : CanArrive s m := by
  obtain ⟨id, src, dst, b⟩ := m
  unfold arrivesB at h
  rw [Bool.and_eq_true] at h
  refine ⟨h.1, ?_⟩
  have h2 := h.2
  cases b <;> simp only [Bool.or_eq_true, Bool.not_eq_true', decide_eq_true_eq] at h2 ⊢
  all_goals first | trivial | exact h2 | exact fun hd => h2.resolve_left (by rw [hd]; exact Bool.noConfusion)

theorem witness_Messages :
    [msg 1 0 (.pw [(vaultAddr 0 0, 1)] [] (some 511) false .plain), msg 41 32 (.pw [(0, 1)] [] none false .plain), msg 1 32 (.rd 0 1 .plain), msg 1 32 (.rreq 0 256 0x100 .plain), msg 1 0 (.rd (vaultAddr 0 0) 8 .plain),
      msg 1 0 (.rreq (vaultAddr 0 0) 8 0x100 .plain), msg 0 1 (.rdr 0 [1] [] false .plain), msg 1 0 (.inc 511 0xFFFF), msg 0 1 (.ack 3 (.rwr 0 1)), msg 0 40 .rcred, msg 0 48 .rcred, msg 31 42 .tc, msg 0 42 .hb,
      msg 0 48 (.rd 0x400 256 (.loadw 0 0)), msg 48 0 (.rdr 0x400 [1] [] false (.loadw 0 0))].all
        (arrivesB ready) = true ∧
    (ready.regionOf (vaultAddr 0 0) = .vault 0 ∧ ready.segOn 0 0 = true ∧ ready.regionOf 0 = .dram ∧ atDram 32 = true ∧ atDram 39 = true ∧ atDram 40 = false) ∧
    (let s := { ready with mesh := [msg 1 0 (.rd 0 1 .plain), msg 1 0 (.rd 0 2 .plain)] }; s.mayArrive (msg 1 0 (.rd 0 2 .plain)) = false) ∧
    (let s := { ready with bel := { ready.bel with hbDue := 0x80000000 } }; s.bel.hbDue.getLsbD 31 = true ∧ s.bit Reg.KEEP_SPIRE_PSTAT 31 = true ∧ s.bel.hbDue.getLsbD 0 = false ∧ (s.core 31).st = 0) ∧
    (let s := { run0 with bel := { ready.bel with hbDue := 1 } }; (s.core 0).st = 1 ∧ (s.core 0).part = [] ∧ (s.core 0).todo = []) ∧
    (let s := withCore { core0 with part := [nopWord] }; (s.core 0).part ≠ [] ∧ (s.core 0).rpt = none) ∧
    (let s := withCore { core0 with groups := [] }; s.missAt 0 (s.core 0).pc.toNat = true ∧ (s.core 0).first = 0 ∧ (s.core 0).wait = [] ∧ (s.core 0).part = []) ∧
    (let m := msg 0 1 (.rdr 8 (List.replicate 8 1) [] false .plain); arrivesB ready m = true ∧ [1].Nodup ∧ ([] : List Nat).Nodup ∧ 8 / 8 ∈ [1]) ∧
    (let s := { ready with held := [{ node := 0, waits := [3], dst := 1, body := .tc }, { node := 1, waits := [3], dst := 1, body := .inc 0 1 }, { node := 2, waits := [3], dst := 1, body := .tc }], unacked := [(2, 3)] }
     (s.held.find? (fun h => h.node == 0)).any (fun h => h.waits.all (fun i => !s.unacked.contains (0, i))) && (s.held.find? (fun h => h.node == 1)).any (fun h => h.waits.all (fun i => !s.unacked.contains (1, i))) &&
       (s.held.find? (fun h => h.node == 2)).any (fun h => h.waits.any (fun i => s.unacked.contains (2, i)))) = true := by
  decide +kernel

theorem witness_CountersAndVaults : opensB ready 41 (spirePage 0 12) = true ∧ opensB ready 41 (spirePage 31 12) = true ∧ opensB ready 41 (spirePage 0 4) = true ∧
    (let s := put ready [(Reg.VLT_SEG_STAT 0, 0x40000002)]; s.fld (Reg.VLT_SEG_STAT 0) 30 2 = 1 ∧ Tab.get (fun _ => 0) s.wakeAt 15 ≤ s.tb.now.toNat ∧ s.fld (Reg.VLT_SEG_STAT 0) 2 2 ≠ 1) ∧
    (let s := { put ready [(Reg.VLT_SEG_STAT 0, 0x40000002)] with wakeAt := [(15, 1)] }; s.fld (Reg.VLT_SEG_STAT 0) 30 2 = 1 ∧ s.tb.now.toNat < Tab.get (fun _ => 0) s.wakeAt 15) ∧
    (put ready [(Reg.VLT_SCRUB_CTL 0, 0)]).bit (Reg.VLT_SCRUB_CTL 0) 31 = false ∧
    (let s := put ready [(Reg.VLT_SCRUB_CTL 0, 0x80000000), (Reg.VLT_SCRUB_POS 0, 0xFFFE)]; s.bit (Reg.VLT_SCRUB_CTL 0) 31 = true ∧ (s.reg (Reg.VLT_SCRUB_POS 0)).toNat + 1 < 2 ^ 16 ∧ s.segOn 0 (0xFFFE * 256) = true ∧
      s.segOn 0 (0xFFFF * 256) = true ∧ s.poison = [] ∧ s.eccTwo = []) ∧
    (let s := { ready with scrubWb := [(vaultAddr 0 0 / 256, [vaultAddr 0 0 / 8])] }
     s.scrubWb.find? (fun e => decide (vaultAddr 0 0 / 256 ≤ e.1) && decide (e.1 < vaultAddr 0 0 / 256 + 2 ^ 16)) = some (vaultAddr 0 0 / 256, [vaultAddr 0 0 / 8])) := by
  decide +kernel

/-! ### Witnesses: domes, transfers, the Lantern -/

/-- Nothing in memory is poisoned or damaged. -/
def cleanB (s : State) : Bool := s.poison.isEmpty && s.eccTwo.isEmpty && s.eccOne.isEmpty

theorem clean_block {s : State} {n p : Nat} (h : cleanB s = true) (hp : p % 256 = 0) (hs : s.segOn n p = true) : blockSound s n p := by
  simp only [cleanB, Bool.and_eq_true, List.isEmpty_iff] at h
  refine ⟨hp, hs, fun w _ _ => ?_⟩
  rw [h.1.1, h.1.2, h.2]
  exact ⟨List.not_mem_nil, List.not_mem_nil, List.not_mem_nil⟩

theorem clean_words {s : State} {a n : Nat} (h : cleanB s = true) : wordsSound s a n := by
  simp only [cleanB, Bool.and_eq_true, List.isEmpty_iff] at h
  intro w _
  rw [h.1.1, h.1.2, h.2]
  exact ⟨List.not_mem_nil, List.not_mem_nil, List.not_mem_nil⟩

/-- Dome 0 enabled and as given. -/
def withDome (d : Dome) : State := (put ready [(domePage 0 * 0x1000 + 8, 1)]).setDome 0 d

theorem heads (d : Dome) (ws : List Nat) (rest : List (List Nat)) (h1 : d.halt = false) (h2 : d.tl = none) (h3 : d.queue = ws :: rest)
    (h4 : (withDome d).dome 0 = d) (h5 : (withDome d).bit (domePage 0 * 0x1000 + 8) 0 = true) : Heads (withDome d) 0 ws rest :=
  ⟨h5, by rw [h4]; exact h1, by rw [h4]; exact h2, by rw [h4]; exact h3⟩

/-- A LOADW from the vault, one from DRAM, a RUN of one position, row and column with SWAP, and one FIRST pass. -/
def wLoadw : List Nat := [1, 0, 0, 0, 0, 0, 0, 0]
def wLoadg : List Nat := [1, 2 ^ 24, 0, 0, 0, 0, 0, 0]
def wRun : List Nat := [2, 0, 0, 128 * 2 ^ 16, 127 * 2 ^ 23 + 127 * 2 ^ 16 + 64, 2 ^ 15, 0, 0]
def wFirst : List Nat := [2, 0, 0, 128 * 2 ^ 16, 127 * 2 ^ 23 + 127 * 2 ^ 16 + 64, 2 ^ 13, 0, 0]

/-- A RUN of two positions, the output of the second in the next segment. -/
def wCut : List Nat := [2, 0, 0xFFFC0, 128 * 2 ^ 16 + 1, 127 * 2 ^ 23 + 127 * 2 ^ 16 + 1, 2 ^ 15, 0, 0]

/-- A RUN of one INT position. -/
def wInt : List Nat := [2, 0, 0, 128 * 2 ^ 16, 127 * 2 ^ 23 + 127 * 2 ^ 16 + 64, 2 ^ 16, 0, 0]

/-- A LOADCB that has read nothing, and a load that has read one block. -/
def wTable : LoadSt := { words := [3, 0, 0, 0, 0, 0, 0, 0], src := 0, got := [], sent := 0 }

theorem witness_readTo : readTo wTable 0 (fun _ => ([], false)) ∧ readTo { wTable with got := [(0, ([1], true))] } 1 (fun _ => ([1], true)) := ⟨rfl, rfl⟩

theorem witness_Heads : Heads (withDome { Dome.reset with queue := [wLoadw, wRun] }) 0 wLoadw [wRun] :=
  heads _ _ _ rfl rfl rfl (by decide +kernel) (by decide +kernel)

theorem witness_DomeCommands :
    [wLoadw, wLoadg].all (fun ws => let s := withDome { Dome.reset with queue := [ws] }; descType ws == 1 && s.loadwReason 0 ws == 0) = true ∧
    (let s := withDome { Dome.reset with queue := [wLoadw], shFull := true }; s.loadwReason 0 wLoadw ≠ 0) ∧
    (let s := withDome { Dome.reset with queue := [wRun], shFull := true, shadow := { Bank.reset with kind := 1 } }; descType wRun = 2 ∧ (s.dome 0).run = none ∧ (runF wRun).swap = true ∧ s.runReason 0 wRun = 0) ∧
    (let s := withDome { Dome.reset with queue := [wFirst], actValid := true, active := { Bank.reset with kind := 1 } }; (runF wFirst).swap = false ∧ s.runReason 0 wFirst = 0) ∧
    (let l : LoadSt := { words := wLoadw, src := 0, got := [], sent := 0 }; let s := withDome { Dome.reset with queue := [wRun], lw := some l }; (s.dome 0).lw.isSome = true ∧ (s.dome 0).shFull = false) ∧
    [[3, 0, 0, 0, 0, 0, 0, 0], [4, 0, 1 * 2 ^ 10, 0, 0, 0, 0, 0], [5, 0, 0, 0, 0, 0, 0, 0], [6, 3, 0, 0, 0, 0, 0, 0], [7, 1, 0, 2 ^ 16 + 1, 2 ^ 16 + 1, 1, 0, 0], [8, 0, 0, 0, 0, 0, 0, 0]].all (fun ws =>
      (withDome { Dome.reset with queue := [ws] }).tableReason 0 ws == 0) = true ∧
    (let l : LoadSt := { words := wLoadw, src := 0, got := [], sent := 0 }; let s := withDome { Dome.reset with lw := some l }; (s.dome 0).lw = some l ∧ dw l.words 1 24 1 ≠ 1 ∧ cleanB s = true ∧
      (List.range (tileBlocks (dw l.words 4 0 2))).all (fun i => s.phys 0 (l.src + 256 * i) % 256 == 0 && s.segOn 0 (s.phys 0 (l.src + 256 * i))) = true) ∧
    (let l : LoadSt := { words := wLoadg, src := 0x400, got := [], sent := 3 }; let s := withDome { Dome.reset with lw := some l }
     (s.dome 0).lw = some l ∧ dw l.words 1 24 1 = 1 ∧ l.sent < tileBlocks (dw l.words 4 0 2) ∧ s.credUsed 0 (48 + lanBank (l.src + 256 * l.sent)) < 2) ∧
    (let s := withDome { Dome.reset with tl := some wTable }; wTable.got.length < tableBlocks wTable.words ∧ (s.dome 0).tl = some wTable ∧ s.segOn 0 (s.phys 0 0) = true ∧ s.phys 0 0 % 256 = 0) ∧
    (let s := put (withDome { Dome.reset with tl := some wTable }) [(Reg.VLT_SEG_STAT 0, 0)]; s.segOn 0 (s.phys 0 0) = false ∧ s.phys 0 0 % 256 = 0) ∧
    (let f := runF wCut
     let s := put (withDome { Dome.reset with run := some (RunSt.start wCut 0 0), active := { Bank.reset with kind := 1 }, actValid := true }) [(Reg.VLT_SEG_STAT 0, 2)]
     f.outs = true ∧ f.pen = false ∧ f.win = 0 ∧ f.p = 2 ∧ f.n = 1 ∧ cleanB s = true ∧ (s.runBlocks 0 f).all (fun b => s.phys 0 (256 * b) % 256 == 0 && s.segOn 0 (s.phys 0 (256 * b))) = true ∧
      s.segOn 0 (s.phys 0 (s.outAddr 0 f 0 0)) = true ∧ s.segOn 0 (s.phys 0 (s.outAddr 0 f 1 0)) = false ∧ s.outAddr 0 f 1 0 / 256 ≠ s.outAddr 0 f 0 0 / 256) ∧
    (let s := withDome { Dome.reset with queue := [[9, 0, 0, 0, 0, 0, 0, 0]] }; (s.dome 0).queue = [[9, 0, 0, 0, 0, 0, 0, 0]] ∧ descType [9, 0, 0, 0, 0, 0, 0, 0] = 9) ∧
    [(wFirst, false, false), (wRun, true, false), (wInt, true, true)].all (fun x => let f := runF x.1
      let s := withDome { Dome.reset with run := some (RunSt.start x.1 0 0), active := { Bank.reset with kind := if x.2.2 then 2 else 1 }, actValid := true }
      f.outs == x.2.1 && f.int == x.2.2 && f.win == 0 && !f.pen && f.p == 1 && f.odst % 64 == 0 && cleanB s && (s.runBlocks 0 f).all (fun b => s.phys 0 (256 * b) % 256 == 0 && s.segOn 0 (s.phys 0 (256 * b))) &&
        (List.range f.p).all (fun p => (List.range f.n).all (fun c => s.segOn 0 (s.phys 0 (s.outAddr 0 f p c))))) = true := by
  decide +kernel

theorem witness_ScaleCommands : (put ready [(Reg.DOME_TNS_CFG 0 63, 0x80)]).bit (Reg.DOME_TNS_CFG 0 63) 7 = true ∧ (put ready [(Reg.DOME_TNS_CFG 0 0, 0)]).bit (Reg.DOME_TNS_CFG 0 0) 7 = false ∧
    ready.rangeOk 0 (ready.fld (Reg.DOME_LOG_BASE 0) 8 16 * 256) (max 1 (ready.fld (Reg.DOME_LOG_LEN 0) 0 16) * 256) 1 = true ∧
    (let s := put ready [(Reg.DOME_LOG_BASE 0, 0xFFFF00), (Reg.DOME_LOG_LEN 0, 2)]; s.rangeOk 0 (s.fld (Reg.DOME_LOG_BASE 0) 8 16 * 256) (max 1 (s.fld (Reg.DOME_LOG_LEN 0) 0 16) * 256) 1 = false) ∧
    (let t := put ready [(Reg.DOME_WREG_CTL 0 0, 1), (Reg.DOME_WREG_LEN 0 0, 0xFFFF00), (Reg.DOME_WREG_BASE1 0 0, 0x100000)]; t.updReason 0 0x80000000 = 0) ∧ ready.updReason 0 0x80000000 ≠ 0 ∧
    (let s := withDome { Dome.reset with upd := 1 }; (s.dome 0).upd = 1 ∧ (s.dome 0).tl = none ∧ descType wTable.words = 3) ∧ (let s := put (withDome { Dome.reset with upd := 2 }) [(Reg.VLT_SEG_STAT 0, 0)]; (s.dome 0).upd = 2 ∧ (s.dome 0).updGot = [] ∧
      s.segOn 0 (s.phys 0 (s.fld (Reg.DOME_UPD_GSRC 0) 0 24)) = false ∧ s.phys 0 (s.fld (Reg.DOME_UPD_GSRC 0) 0 24) % 256 = 0) ∧
    (let s := put (withDome { Dome.reset with upd := 2 }) [(Reg.VLT_SEG_STAT 0, 0xAAAAAAAA)]; (s.dome 0).upd = 2 ∧ (∀ seg < 16, s.segOn 0 (seg * 2 ^ 20) = true) ∧ cleanB s = true ∧ (updReadBlocks s 0).length = 211 ∧
      (updReadBlocks s 0).all (fun b => s.segOn 0 (s.phys 0 b) && s.phys 0 b % 256 == 0) = true) := by
  decide +kernel

/-- Channel 0 of spire 0 set to copy cnt bytes from src to dst, with its status st. -/
def dma0 (src dst : Nat) (cnt st : Word) : State :=
  put ready [(dmaReg Reg.DMA_SRC_LO 0, w32 src), (dmaReg Reg.DMA_SRC_LO 0 + 4, w32 (src / 2 ^ 32)), (dmaReg Reg.DMA_DST_LO 0, w32 dst), (dmaReg Reg.DMA_DST_LO 0 + 4, w32 (dst / 2 ^ 32)),
    (dmaReg Reg.DMA_CNT 0, cnt), (dmaReg Reg.DMA_LEFT 0, cnt), (dmaReg Reg.DMA_STAT 0, st), (dmaPage 0 * 0x1000 + 8, 1)]

theorem witness_DmaChannels : (let s := dma0 0 (vaultAddr 0 0) 0x1000 0; s.bit (dmaReg Reg.DMA_STAT 0) 31 = false ∧ s.dmaReason 0 = 0 ∧ s.reg (dmaReg Reg.DMA_CNT 0) ≠ 0) ∧ (dma0 0 0 0 0).dmaReason 0 = 0 ∧
    (let s := dma0 0 (2 ^ 30) 1 0; s.dmaReason 0 ≠ 0) ∧ opensB ready 41 (dmaPage 0) = true ∧ opensB ready 41 (dmaPage 287) = true ∧
    (let s := dma0 0 (vaultAddr 0 0) 0x1000 0x80000000; s.bit (dmaReg Reg.DMA_STAT 0) 31 = true ∧ (s.reg (dmaReg Reg.DMA_LEFT 0)).toNat + (s.reg (dmaReg Reg.DMA_DONE 0)).toNat = (s.reg (dmaReg Reg.DMA_CNT 0)).toNat ∧
      (s.dmaSt 0).ending = none ∧ s.fld (dmaReg Reg.DMA_SHAPE 0) 24 3 = 0 ∧ s.regionOf (s.reg64 (dmaReg Reg.DMA_SRC_LO 0)) = .dram ∧ s.readCred = []) ∧
    (let s := dma0 (vaultAddr 0 0) 0 0x100 0x80000000; s.regionOf (vaultAddr 0 0) = .vault 0 ∧ s.regionOf 0 ≠ .vault 0 ∧ s.segsOn 0 0 0x100 = true ∧ cleanB s = true) ∧
    [0x01000020, 0x02000010, 0x03000020, 0x04000010].all (fun x => let s := put (dma0 (vaultAddr 0 0) 0 0x100 0x80000000) [(dmaReg Reg.DMA_SHAPE 0, x)]
      let shape := s.fld (dmaReg Reg.DMA_SHAPE 0) 24 3
      decide (1 ≤ shape ∧ shape ≤ 4) && decide (shapeSpan shape (s.fld (dmaReg Reg.DMA_SHAPE 0) 0 20) ≤ 2 ^ 24) && (List.range 16).all (fun g => s.segOn 0 (g * 2 ^ 20)) && cleanB s) = true ∧
    (let s := (dma0 0 (vaultAddr 0 0) 1 0x80000000).setCred 0 32 2; (cutBlocks 0 1).any (fun q => 2 ≤ s.credUsed (dmaNode 0) (s.nodeOf q.1)) = true) := by
  decide +kernel

/-- Stream 0 of spire 0 busy, its index list at the start of the vault, rows of 4 bytes from base. -/
def strm0 (base : Nat) (x : StreamSt) : State :=
  (put ready [(Reg.STR_STAT 0 0, 0x80000200), (Reg.STR_IBASE_LO 0 0, 0), (Reg.STR_IBASE_LO 0 0 + 4, 0x100), (Reg.STR_DBASE_LO 0 0, w32 base), (Reg.STR_DBASE_LO 0 0 + 4, w32 (base / 2 ^ 32)), (Reg.STR_ROW 0 0, 3)]).setStrm
    0 0 x

theorem witness_StreamRows : (let x := { StreamSt.reset with count := 1, blocks := 1, held := [some (List.replicate 256 0)] }; let s := strm0 0 x; x.held = [some (List.replicate 256 0)] ∧ s.bit (Reg.STR_STAT 0 0) 31 = true ∧ x.next < x.count ∧ s.fld (Reg.STR_STAT 0 0) 9 9 ≠ 0 ∧ s.segsOn 0 0 4 = true ∧
      cleanB s = true ∧ s.strRowOk 0 0 (s.strAddr 0 0 0) = true ∧ s.fld (Reg.STR_ROW 0 0) 16 3 = 0 ∧ s.regionOf (s.strAddr 0 0 0) ≠ .vault 0) ∧
    (let s := strm0 0 { StreamSt.reset with count := 1, blocks := 1, held := [none] }; (s.strm 0 0).held = [none] ∧ (s.strm 0 0).rows = []) ∧
    (let s := put (strm0 0 StreamSt.reset) [(Reg.STR_STAT 0 0, 0), (strPage 0 * 0x1000 + 8, 1)]; s.bit (Reg.STR_STAT 0 0) 31 = false ∧ s.armReason 0 0 1 = 0 ∧ s.segOn 0 0 = true) ∧
    (let s := strm0 (2 ^ 30) { StreamSt.reset with count := 1 }; s.strRowOk 0 0 (s.strAddr 0 0 0) = false) ∧
    [0, 1].all (fun left => let s := strm0 0 { StreamSt.reset with count := 2, rows := [{ j := 0, origin := 0, slot := 0, left := left }] }; (s.strm 0 0).rows.length == 1 && (s.strm 0 0).ending.isNone) = true ∧
    (let s := strm0 0 { StreamSt.reset with count := 1, rows := [{ j := 0, origin := 0, slot := 0, left := 0 }] }; (s.reg (Reg.STR_READY 0 0) + 1).toNat = (s.strm 0 0).count) := by
  decide +kernel

/-- The Lantern enabled, with a request of spire 3 for the block at 0x400 at bank 0. -/
def lan (lines : List (Nat × List LanLine)) (fills : List (Nat × List LanFill)) : State :=
  { put ready [(0x0C0008, 1)] with lantern := { Lantern.reset with lines := lines, fills := fills, queue := [(0, [{ spire := 3, blk := 0, addr := 0x400 }])] } }

theorem witness_LanternCommands : (let s := lan [] []; (s.lanQueue 0).length = 1 ∧ s.lantern.inv = false ∧ 0x400 / 256 % 4 = 0 ∧ s.bit 0x0C0008 0 = true ∧ (s.lanLines 0x400).find? (fun l => l.addr == 0x400) = none ∧ 0x400 < s.dramCap ∧
      s.lanFills 0 = [] ∧ s.credUsed 48 (s.nodeOf 0x400) = 0) ∧
    (let x : LanLine := { addr := 0x400, data := [], ce := 0, ue := false }; let s := lan [(1, [x])] []; (s.lanLines 0x400).find? (fun l => l.addr == 0x400) = some x) ∧
    (let s := lan [] [(0, [{ addr := 0x400, waiters := [], install := true, sent := true }])]; (s.lanFills 0).any (fun f => f.addr == 0x400) = true) ∧
    (let s := lan [] [(0, (List.range 32).map (fun i => { addr := 0x800 + 0x400 * i, waiters := [], install := true, sent := true }))]; (s.lanFills 0).all (fun f => f.addr != 0x400) = true ∧ 32 ≤ (s.lanFills 0).length) ∧
    (let x : Returned := { tag := .lantern 0 4, addr := 0x400, data := [], pois := [], off := false }; let s := { lan [] [(0, [{ addr := 0x400, waiters := [], install := true, sent := true }])] with returned := [x] }
     s.returned = [x] ∧ x.pois = [] ∧ (s.lanFills 0).length = 1 ∧ s.bit 0x0C0008 0 = true) ∧
    (opensB ready 41 0x0C0 = true ∧ ready.lantern.inv = false ∧ ready.lantern.pre = none ∧ ready.fld Reg.LAN_PRE_LEN 0 15 = 0 ∧ (put ready [(Reg.LAN_PRE_LEN, 0x7FFF)]).fld Reg.LAN_PRE_LEN 0 15 ≠ 0) ∧
    ({ Lantern.reset with inv := true } : Lantern).inv = true := by
  decide +kernel

/-! ### Witnesses: ports, timed I/O, the host -/

/-- Port 0 enabled for channel 0 and lines of 8 pixels in RAW8, with the given state. -/
def withPort (x : Port) : State :=
  { put ready [(0x080008, 1), (Reg.SP_CFG 0, 0x1A80), (Reg.SP_LINE 0, 8)] with ports := [(0, x)] }

/-- A stripe and its arm. -/
def arm0 : Arm := { spire := 0, base := 0, len := 4, rows := 2, halo := 0, vc := 0, ctr := 0, cont := false }
def stripe0 (row : Nat) : Stripe := { slot := 0, row := row, cont := false, dmg := false, hdr := false, line := 8, fs := 0, bl01 := 0, bl23 := 0, grid := 0 }

theorem witness_portOn : portOn (withPort Port.reset) 0 ∧ ¬ portOn ready 0 ∧ ¬ portOn (put ready [(0x081008, 1), (Reg.SP_CFG 0, 0x10)]) 1 := by
  unfold portOn
  decide +kernel

theorem witness_SensorPorts :
    (let s := withPort { Port.reset with chans := [(0, { PortCh.reset with arms := [arm0], stripe := some (stripe0 1) })] }
     s.bit (Reg.SP_CFG 0) 12 = true ∧ s.bit (Reg.SP_CFG 0) 13 = false ∧ s.fld (Reg.SP_CFG 0) 6 6 = 0x2A ∧ ((s.port 0).chan 0).arms = [arm0] ∧ ((s.port 0).chan 0).stripe = some (stripe0 1) ∧ (stripe0 1).row < arm0.rows ∧
       (List.replicate 8 (0 : Byte)).length = s.fld (Reg.SP_LINE 0) 0 14 * dtBits 0x2A / 8 ∧ s.fld (Reg.SP_LINE 0) 0 14 ≤ (s.bufferSize 0 - (s.port 0).buffered) / bppOf (stripe0 1).line) ∧
    (let s := put (withPort { Port.reset with chans := [(0, { PortCh.reset with arms := [arm0] })] }) [(Reg.SP_FS_CFG 0, 2)]
     ((s.port 0).chan 0).arms = [arm0] ∧ ((s.port 0).chan 0).stripe = none ∧ ((s.port 0).chan 0).psel = !s.bit (Reg.SP_FS_CFG 0) 1) ∧
    (let s := put (withPort { Port.reset with i2c := i2cPlan 0 0 }) [(Reg.SP_I2C_STAT 0, 0x80000000)]; s.bit (Reg.SP_I2C_STAT 0) 31 = true ∧ (s.port 0).i2c = i2cPlan 0 0) ∧
    (let x : SpiXfer := { cs := true, cpol := false, cpha := false, div := 9, out := [true] }; let s := put (withPort { Port.reset with spi := some x }) [(Reg.SP_SPI_CTL 0, 0x40000000)]
     s.bit (Reg.SP_SPI_CTL 0) 30 = true ∧ (s.port 0).spi = some x) ∧
    (let s := withPort Port.reset; ((s.port 0).chan 0).arms = [] ∧ ((s.port 0).chan 0).stripe = none ∧ (s.port 0).landing = []) ∧
    [none, some 0].all (fun l => let w : LandW := { spire := 0, cells := [(vaultAddr 0 0, 1)], arr := none, last := l }
      let s := withPort { Port.reset with landing := [w], chans := [(0, { PortCh.reset with arms := [arm0], stripe := some (stripe0 2) })] }
      (s.port 0).landing == [w] && ((s.port 0).chan 0).stripe == some (stripe0 2)) = true ∧
    ((withPort { Port.reset with pulse := some 0 }).port 0).pulse = some 0 ∧ ((withPort { Port.reset with pulses := [0] }).port 0).pulses = [0] ∧ ((withPort { Port.reset with pulses := [1] }).port 0).pulses.head? = some 1 ∧
    ((put ready [(Reg.SP_I2C_STAT 0, 0x80000000)]).bit (Reg.SP_I2C_STAT 0) 31 = true ∧ ready.bit (Reg.SP_I2C_STAT 0) 31 = false) ∧
    ((put ready [(Reg.SP_SPI_CTL 0, 0x40000000)]).bit (Reg.SP_SPI_CTL 0) 30 = true ∧ ready.bit (Reg.SP_SPI_CTL 0) 30 = false) ∧ opensB ready 41 0x080 = true ∧
    (let v : Word := 0xA80; ready.bit 0x080008 0 = false ∧ ready.bit (Reg.SP_CFG 0) 4 = false ∧ 0x2A ≤ v.toNat / 2 ^ 6 % 2 ^ 6 ∧ v.toNat / 2 ^ 6 % 2 ^ 6 ≤ 0x2E ∧ v.toNat % 4 ≠ 3 ∧ (withPort Port.reset).bit 0x080008 0 = true) ∧
    [0x020000FF, 0x0A002101].all (fun i => let s := put ready [(Reg.SP_TBL_IDX 0, i)]
      decide (s.fld (Reg.SP_TBL_IDX 0) 26 2 < 3 ∧ s.fld (Reg.SP_TBL_IDX 0) 25 1 ≠ s.fld (Reg.SP_FS_CFG 0) (s.fld (Reg.SP_TBL_IDX 0) 26 2) 1 ∧ s.fld (Reg.SP_TBL_IDX 0) 0 14 < tblSize (s.fld (Reg.SP_TBL_IDX 0) 26 2))) = true ∧
    (ready.fld (Reg.SP_TBL_IDX 0) 26 2 < 3 ∧ ready.fld (Reg.SP_TBL_IDX 0) 25 1 = ready.fld (Reg.SP_FS_CFG 0) (ready.fld (Reg.SP_TBL_IDX 0) 26 2) 1) := by
  decide +kernel

/-- A record for channel 95, 20 ns wide, its active edge at time t. -/
def fire95 (t : Word) : FireRec := { w0 := t, w1 := 0, w2 := 0x5F000014, w3 := 0, whole := true }

/-- Output channel 95 on, its record in the inbox. -/
def firing (t : Word) (x : TioChan) : State :=
  { put ready [(Reg.TIO_OCFG 95, 1)] with tio := { Tio.reset with quiet := false, inbox := [fire95 t], chans := [(95, x)] } }

theorem witness_TimedIo :
    ((fire95 100).chan = 95 ∧ (fire95 100).width = 20 ∧ (fire95 100).time = 100) ∧ soundRecord (firing 100 TioChan.reset) (fire95 100) ∧ ¬ soundRecord ready (fire95 100) ∧
    (let s := firing 100 TioChan.reset; s.tio.quiet = false ∧ s.tio.inbox = [fire95 100] ∧ 100 ≤ ((fire95 100).time - s.tb.now).toInt ∧ (s.chan 95).last.toNat ≤ 100 ∧ (s.chan 95).queue.length < 64 ∧ (s.chan 95).endT.toNat + 20 ≤ 100) ∧
    ((fire95 99).time - (firing 99 TioChan.reset).tb.now).toInt < 100 ∧ (let s := firing 100 { TioChan.reset with last := 101 }; 100 < (s.chan 95).last.toNat) ∧
    (let s := firing 100 { TioChan.reset with queue := List.replicate 64 { time := 0, width := 20, joined := false } }; 64 ≤ (s.chan 95).queue.length) ∧ ready.tio.quiet = true ∧
    [false, true].all (fun j => let s := firing 0 { TioChan.reset with queue := [{ time := 0, width := 20, joined := j }] }; (s.chan 95).queue.length == 1 && decide ((0 : Nat) ≤ s.tb.now.toNat)) = true ∧
    (let s := firing 0 { TioChan.reset with active := true }; (s.chan 95).active = true ∧ (s.chan 95).chainEnd ≤ s.tb.now.toNat) ∧ (let s := firing 0 { TioChan.reset with active := true, pulseEnd := 1 }; s.tb.now.toNat < (s.chan 95).chainEnd) ∧
    [(0x80000000, 0), (0xA0000000, 1), (0xC0000000, 2)].all (fun x => let s := put ready [(Reg.TIO_IN_CFG 31, x.1)]; s.bit (Reg.TIO_IN_CFG 31) 31 && s.fld (Reg.TIO_IN_CFG 31) 29 2 == x.2 && decide ((s.caps 31).length < 4)) = true ∧
    (let s := put ready [(Reg.TIO_IN_CFG 31, 0x80000005)]; s.fld (Reg.TIO_IN_CFG 31) 0 8 ≤ 5 ∧ 4 < s.fld (Reg.TIO_IN_CFG 31) 0 8 ∧ 31 ∉ s.tio.inLvl) ∧
    (let s := { put ready [(Reg.TIO_IN_CFG 31, 0xA0000000)] with tio := { Tio.reset with inLvl := [31] } }; 31 ∈ s.tio.inLvl ∧ s.fld (Reg.TIO_IN_CFG 31) 0 8 ≤ 0) ∧
    (let s := put ready [(Reg.TIO_ENC_CFG 7, 0xA0000001)]; 0 < s.fld (Reg.TIO_ENC_CFG 7) 0 8 ∧ s.fld (Reg.TIO_ENC_CFG 7) 0 8 ≤ 1) ∧
    (let s := { put ready [(Reg.TIO_IN_CFG 31, 0x90000000)] with tio := { Tio.reset with caps := [(31, List.replicate 4 { time := 0, rise := true })] } }; s.bit (Reg.TIO_IN_CFG 31) 28 = true ∧ 4 ≤ (s.caps 31).length) ∧
    (let s := put ready [(Reg.TIO_ENC_CFG 7, 0xA0000000)]; s.bit (Reg.TIO_ENC_CFG 7) 31 = true ∧ s.bit (Reg.TIO_ENC_CFG 7) 29 = true ∧ s.encLvl 7 = (false, false) ∧ 7 ∉ s.tio.encZ ∧ s.fld (Reg.TIO_ENC_CFG 7) 0 8 ≤ 0 ∧
      (acceptedAt s 0 0).toNat / 2 ≠ (acceptedAt s 3 0).toNat / 2) ∧
    (opensB ready 41 0x040 = true ∧ ready.chip ≠ 5 ∧ ready.bit 0x040008 0 = true) ∧ (ready.reaches 41 = true ∧ ready.pageOpen 41 0x042 = true ∧ ready.shadow = []) := by
  unfold soundRecord
  decide +kernel

/-- The host link up, a window of 64 slots at DRAM address 0 open. -/
def window : State := put hosted [(Reg.OCU_WBASE_LO, 6), (Reg.OCU_CTL, 1)]

/-- The same with MSI-X enabled, vector 40 unmasked and pending. -/
def vectors (v : Nat) : State :=
  put { window with host := { window.host with bme := true, msixEn := true } } [(0x6E400 + 16 * 40 + 12, 0), (0x6F404, w32 (2 ^ v))]

theorem witness_Vectors : (put window [(Reg.OCU_RING_CFG 0, 0x80000001), (Reg.OCU_RING_LEN 0, 1), (Reg.SEQ_STATE, 8)]).inRing 1 = true ∧ vecOpen (vectors 8) 40 ∧ ¬ vecOpen ready 40 ∧ (vectors 8).bit 0x6F404 8 = true ∧
    ((hosted.cfgWord 0x108).getLsbD 4 = false ∧ (hosted.cfgWord 0x114).getLsbD 13 = true ∧ (hosted.cfgWord 0x118).getLsbD 8 = false) := by
  unfold vecOpen
  decide +kernel

theorem witness_HostInterface :
    (ready.host.up = false ∧ window.nslot * 2 ^ 18 ≤ 2 ^ 24) ∧ (window.host.up = true ∧ 2 ^ 24 - 1 < window.nslot * 2 ^ 18 ∧ hostSlot window 63 ∧ window.host.reads = [] ∧ window.credUsed 40 (window.nodeOf window.wbase) = 0) ∧
    ¬ hostSlot (put window [(Reg.OCU_OWN 1, 0x80000000)]) 63 ∧ ¬ hostSlot hosted 0 ∧
    (let h : Handover := { slots := [3], waits := [7], ack := true, done := 1 }; let s := { window with host := { window.host with handovers := [h], bar2Out := [7] } }; s.host.handovers = [h] ∧ 7 ∈ s.host.bar2Out ∧ 7 ∉ window.host.bar2Out) ∧
    [0x800000, 2, 1, 0x7C0001].all (fun v => let d : Doorbell := { v := v, waits := [], hands := 0 }; let s := { window with host := { window.host with doorbells := [d] } }
      s.host.doorbells == [d] && (v.getLsbD 23 || s.inGrid (v.toNat / 2 ^ 18 % 2 ^ 5))) = true ∧ (put window [(Reg.KEEP_GRID, 1)]).inGrid 31 = false ∧ ({ v := 0, waits := [], hands := 1 } : Doorbell).hands ≠ 0 ∧
    (let x : Returned := { tag := .logRing 7, addr := 0, data := [1, 0, 0, 0], pois := [], off := false }
     let s := { put window [(Reg.OCU_RING_CFG 7, 0x80000000), (Reg.OCU_OWN 0, 1)] with returned := [x] }
     s.returned = [x] ∧ s.bit (Reg.OCU_RING_CFG 7) 31 = true ∧ w32 (leNum x.data) = Tab.get (fun _ => 0) s.host.ringLast 7 + 1 ∧ s.devOwns 0 = true ∧ window.devOwns 0 = false) ∧
    (let s := { put ready [(Reg.KEEP_CLK_STAT, 8)] with host := { HostIf.reset with trainEn := true } }; s.host.up = false ∧ s.host.perstN = true ∧ s.host.trainEn = true ∧ s.bit Reg.KEEP_CLK_STAT 3 = true) ∧
    (ready.host.trainEn = false ∧ hosted.host.trainEn = true ∧ hosted.host.up = true) ∧ opensB window 40 0x061 = true ∧ opensB window 41 0x061 = true ∧
    (window.nslot < 0 + 65 ∧ 63 + 1 ≤ window.nslot ∧ window.nslot ≤ 4096 ∧ window.bit Reg.SEQ_STATE 3 = false) ∧ (window.wbase % 2 ^ 18 = 0 ∧ window.wbase + window.nslot * 2 ^ 18 ≤ window.dramCap) ∧
    (let s := put window [(Reg.KEEP_DRAM, 0)]; s.dramCap < s.wbase + s.nslot * 2 ^ 18) ∧ window.bit (Reg.OCU_RING_CFG 0) 31 = false ∧ (put window [(Reg.OCU_RING_CFG 0, 0x80000001)]).bit (Reg.OCU_RING_CFG 0) 31 = true := by
  unfold hostSlot
  decide +kernel

/-! ### Witnesses: links, bring-up, the Keep, DRAM -/

/-- Link 0 in state st, enabled, with the given transfers and queues. -/
def withLink (st : Nat) (l : Link) : State := { put ready [(0x0A0008, 1), (Reg.AXL_STAT 0, w32 (st * 4096))] with links := [(0, l)] }

/-- An empty DATA flit, a SYNC flit, an LCTL and a probe, with their CRC. -/
def dataFlit : BitVec 256 := mkFlit 2 0 0
def syncFlit : BitVec 256 := mkFlit 1 0 (3 * 2 ^ 236)
def lctlFlit : BitVec 256 := mkFlit 3 0 0
def probeFlit : BitVec 256 := mkFlit 4 0 0
def answerFlit : BitVec 256 := mkFlit 4 0 (2 ^ 236)

/-- A remote write of one byte into window 63. -/
def rwr0 : RwrMsg := { win := 63, off := 0, len := 1, arr := true, actr := 511, tag := 5, data := [], pois := [], target := none }

/-- Piece 0 of a transfer, one byte long. -/
def piece0 (sent : Bool) (cnt : Nat) : Piece := { num := 0, start := 0, len := 1, got := [], cnt := cnt, bad := [], off := false, sent := sent }

/-- Link 0 accepts the flit f next. -/
def inOrderB (s : State) (f : BitVec 256) (ft : Nat) : Bool := s.fld (Reg.AXL_STAT 0) 12 4 == 7 && flitOk f && ffld f 252 4 == ft && ffld f 244 8 == (s.lnk 0).seqRx

theorem inOrderB_inOrder {s : State} {f : BitVec 256} {ft : Nat} (h : inOrderB s f ft = true) : inOrder s 0 f ft := by
  simpa [inOrderB, inOrder, and_assoc] using h

theorem witness_LinkTraffic :
    ready.fld (Reg.AXL_STAT 0) 12 4 ≠ 7 ∧ (let s := withLink 7 Link.reset; s.fld (Reg.AXL_STAT 0) 12 4 = 7) ∧ flitOk (dataFlit ^^^ 1) = false ∧
    (flitOk dataFlit = true ∧ ffld dataFlit 252 4 = 2 ∧ ffld dataFlit 244 8 = 0) ∧ (flitOk syncFlit = true ∧ ffld syncFlit 252 4 = 1 ∧ ffld syncFlit 236 4 = 3 ∧ ffld syncFlit 16 108 = 0) ∧
    (let s := withLink 7 { Link.reset with nak := true, seqRx := 1 }; (s.lnk 0).nak = true ∧ ffld dataFlit 244 8 ≠ (s.lnk 0).seqRx) ∧
    (let s := withLink 7 { Link.reset with rxWrite := [rwr0, rwr0] }; (s.lnk 0).rxWrite = [rwr0] ++ [rwr0] ∧ rwr0.data.length < rwr0.len ∧ inOrderB s dataFlit 2 = true) ∧
    (let s := withLink 7 Link.reset; inOrderB s syncFlit 1 = true ∧ (s.lnk 0).open' = none) ∧
    (flitOk lctlFlit = true ∧ ffld lctlFlit 252 4 = 3 ∧ ffld lctlFlit 231 1 = 0) ∧ (flitOk probeFlit = true ∧ ffld probeFlit 252 4 = 4 ∧ ffld probeFlit 236 4 = 0) ∧ (flitOk answerFlit = true ∧ ffld answerFlit 236 4 = 1) ∧
    (let s := atTime (withLink 7 { Link.reset with replay := [(0, { bits := dataFlit, pois := 0 })] }) 1000; (s.lnk 0).lctlAt + 1000 ≤ s.tb.now.toNat ∧ (s.lnk 0).replay ≠ [] ∧ (s.lnk 0).repRun ≠ 7) ∧
    (let s := withLink 6 { Link.reset with good := 0xFF }; s.fld (Reg.AXL_STAT 0) 12 4 = 6 ∧ (s.lnk 0).replay = [] ∧ (chooseGroup ((s.lnk 0).good &&& 0xFF).toNat (max (s.fld (Reg.AXL_CTL 0) 3 2) 0)).isSome = true ∧
      chooseGroup ((s.lnk 0).good &&& 0x8A).toNat (max (s.fld (Reg.AXL_CTL 0) 3 2) 0) = none) ∧ [1, 5].all (fun k => (withLink k Link.reset).fld (Reg.AXL_STAT 0) 12 4 == k) = true := by
  decide +kernel

/-- An LCTL with NAK = 1, and a link with flits held whose next replay is the eighth. -/
theorem witness_LinkReplays : (let f := mkFlit 3 0 (255 * 2 ^ 232 + 2 ^ 231); flitOk f = true ∧ ffld f 252 4 = 3 ∧ ffld f 231 1 = 1 ∧ dropTo [(0, { bits := dataFlit, pois := 0 })] (ffld f 232 8) ≠ []) ∧
    (let s := atTime (withLink 7 { Link.reset with replay := [(3, { bits := dataFlit, pois := 0 })], repRun := 7, repSeq := 3 }) 1000
     (s.lnk 0).lctlAt + 1000 ≤ s.tb.now.toNat ∧ (s.lnk 0).replay = [(3, { bits := dataFlit, pois := 0 })] ∧ (s.lnk 0).repRun = 7 ∧ (s.lnk 0).repSeq = 3) := by
  decide +kernel

theorem witness_LinkMessages :
    (let s := put (withLink 7 { Link.reset with rxWrite := [rwr0] }) [(Reg.AXL_WIN_CTL 0 63, 0x80000006), (Reg.AXL_WIN_SIZE 0 63, 1)]
     (s.lnk 0).rxWrite = [rwr0] ∧ rwr0.target = none ∧ rwr0.data.length < rwr0.len ∧ rwr0.len ≤ [0].length ∧ (put s [(Reg.AXL_WIN_CTL 0 63, 0x80000002)]).bit (Reg.AXL_WIN_CTL 0 63) 2 = false ∧ s.bit (Reg.AXL_WIN_CTL 0 63) 31 = true ∧ s.bit (Reg.AXL_WIN_CTL 0 63) 1 = true ∧ s.bit (Reg.AXL_WIN_CTL 0 63) 2 = true ∧ rwr0.off + rwr0.len ≤ s.fld (Reg.AXL_WIN_SIZE 0 63) 0 24 * 4096) ∧
    (let s := put (withLink 7 { Link.reset with rxResp := [(64, 0)], rdma := [(1, { Rdma.reset with pieces := [piece0 true 1] })] }) [(Reg.AXL_RD_STAT 0 1, 0x80000000), (Reg.AXL_RD_CNT 0 1, 1)]
     (s.lnk 0).rxResp = [(64, 0)] ∧ (s.rd 0 1).pieces.find? (fun p => p.sent && p.num % 64 == 64 % 64) = some (piece0 true 1) ∧ s.bit (Reg.AXL_RD_STAT 0 1) 31 = true ∧ (s.rd 0 1).ending = none ∧
       s.reg (Reg.AXL_RD_DONE 0 1) + w32 1 = s.reg (Reg.AXL_RD_CNT 0 1)) ∧
    (let s := put (withLink 7 { Link.reset with rxResp := [(65, 1)], rdma := [(1, { Rdma.reset with pieces := [{ piece0 true 1 with num := 1 }] })] }) [(Reg.AXL_RD_STAT 0 1, 0x80000000)]
     (s.lnk 0).rxResp = [(65, 1)] ∧ (s.rd 0 1).pieces = [{ piece0 true 1 with num := 1 }] ∧ s.bit (Reg.AXL_RD_STAT 0 1) 31 = true ∧ (s.rd 0 1).ending = none) ∧
    (let s := put (withLink 7 { Link.reset with turn := 3 }) [(Reg.AXL_RD_STAT 0 3, 0x80000000), (Reg.AXL_RD_CNT 0 3, 0x100)]
     (s.rd 0 3).ending = none ∧ (s.rd 0 3).pieces = [] ∧ 0 < min 0x100 (256 - 0) ∧ s.readCred = [] ∧ (s.lnk 0).turn = 3 ∧ s.rdCan 0 3 = true ∧ (s.rd 0 2).pieces = []) ∧
    [0, 1].all (fun cnt => let s := put (withLink 7 { Link.reset with rdma := [(3, { Rdma.reset with pieces := [piece0 false cnt] })] }) [(Reg.AXL_RD_STAT 0 3, 0x80000000)]
      (s.rd 0 3).pieces.find? (fun p => !p.sent) == some (piece0 false cnt)) = true ∧
    (let s := put (withLink 7 { Link.reset with rxSync := [(1, 2)] }) [(Reg.SEQ_STATE, 8), (Reg.TIME_SRC, 3)]; (s.lnk 0).rxSync = [(1, 2)] ∧ s.bit Reg.SEQ_STATE 3 = true ∧ s.fld Reg.TIME_SRC 0 2 = 3 ∧ s.fld Reg.TIME_SRC 12 4 = 0 ∧ s.tb.pend = none) ∧
    (let s := put (withLink 7 Link.reset) [(Reg.TIME_LINK, 0x40)]; s.bit Reg.TIME_LINK 6 = true ∧ s.fld Reg.TIME_LINK 4 2 = 0 ∧ (s.lnk 0).probeAt ≤ s.tb.now.toNat) := by
  decide +kernel

theorem witness_LinkCommands :
    opensB ready 41 0x0A0 = true ∧ ((withLink 0 Link.reset).bit 0x0A0008 0 = true ∧ (withLink 0 Link.reset).fld (Reg.AXL_STAT 0) 12 4 = 0) ∧ ready.bit 0x0A0008 0 = false ∧
    (ready.bit (Reg.AXL_WIN_CTL 0 63) 31 = false ∧ ready.winOk 0 63 false = false ∧ (put ready [(Reg.AXL_WIN_SIZE 0 63, 1)]).winOk 0 63 false = true ∧ (put ready [(Reg.AXL_WIN_CTL 0 63, 0x80000000)]).bit (Reg.AXL_WIN_CTL 0 63) 31 = true) ∧
    (let s := put (withLink 7 Link.reset) [(Reg.AXL_RD_CNT 0 3, 1)]; s.bit (Reg.AXL_RD_STAT 0 3) 31 = false ∧ (s.rangeHome (s.reg64 (Reg.AXL_RD_SRC_LO 0 3)) 1).isSome = true ∧ s.fld (Reg.AXL_STAT 0) 12 4 = 7 ∧ s.reg (Reg.AXL_RD_CNT 0 3) ≠ 0) ∧
    (let s := withLink 7 Link.reset; s.bit (Reg.AXL_RD_STAT 0 3) 31 = false ∧ s.fld (Reg.AXL_STAT 0) 12 4 = 7 ∧ s.reg (Reg.AXL_RD_CNT 0 3) = 0) ∧
    (let s := put ready [(Reg.AXL_RD_SRC_LO 0 3, 0x40000000)]; (s.rangeHome (s.reg64 (Reg.AXL_RD_SRC_LO 0 3)) 1).isSome = false) ∧
    [true, false].all (fun b => let s := put (withLink 7 { Link.reset with rdma := [(3, { Rdma.reset with pieces := [piece0 b 0] })] }) [(Reg.AXL_RD_STAT 0 3, 0x80000000)]
      s.bit (Reg.AXL_RD_STAT 0 3) 31 && (s.rd 0 3).ending.isNone && (s.rd 0 3).pieces.all (fun p => p.sent == b)) = true := by
  decide +kernel

/-- The form of a boot image of four bytes with SVN 1. -/
def imageForm : List Byte := leBytes 0x4B515655 4 ++ leBytes 1 4 ++ leBytes 1 4 ++ leBytes 4 4

/-- A chip that waits for secure boot, an image in slot A or B. -/
def booting (a : Nat) : State := (put State.reset [(Reg.KEEP_CLK_STAT, 3)]).setBytes a imageForm

theorem formed_runs {s : State} {a : Nat} (he : s.enforced = false) (hf : s.imgFormOk a = true) : s.mayRun (s.imgFails a) = true := by
  simp [State.mayRun, he, State.imgFails, hf]

theorem unformed_stops {s : State} {a : Nat} (hf : s.imgFormOk a = false) : s.mayRun (s.imgFails a) = false := by
  simp [State.mayRun, State.imgFails, hf]

theorem witness_secureBoot : (let s := booting flashAddr; s.chip = 0 ∧ s.stage = 0 ∧ s.keep.resetN = true ∧ s.fld Reg.KEEP_CLK_STAT 0 2 = 3) ∧ (booting flashAddr).mayRun ((booting flashAddr).imgFails flashAddr) = true ∧
    (booting (flashAddr + 0x800000)).mayRun ((booting (flashAddr + 0x800000)).imgFails flashAddr) = false ∧
    (booting (flashAddr + 0x800000)).mayRun ((booting (flashAddr + 0x800000)).imgFails (flashAddr + 0x800000)) = true ∧ (booting 0).mayRun ((booting 0).imgFails flashAddr) = false ∧
    (booting 0).mayRun ((booting 0).imgFails (flashAddr + 0x800000)) = false := by
  exact ⟨by decide +kernel, formed_runs (by decide +kernel) (by decide +kernel), unformed_stops (by decide +kernel), formed_runs (by decide +kernel) (by decide +kernel), unformed_stops (by decide +kernel),
    unformed_stops (by decide +kernel)⟩

/-- A chip in bring-up that waits for the stage k, in a quick start when a map is in use. -/
def atStage (k : Nat) (m : Option RepairMap) : State :=
  { put State.reset [(Reg.KEEP_STATE, if m.isSome then 0x20101 else 0x10101), (Reg.KEEP_DRAM, 0x00010001)] with keep := { KeepSt.reset with next := k, map := m } }

/-- A map of a whole device. -/
def map0 : RepairMap := { copy := 0, dramOk := 1, bypA := 0, bypB := 0, failed := 0, gen := 1, train := [], rows := [] }

theorem atStage_canon : (atStage 8 none).Canon ∧ (atStage 8 (some map0)).Canon := ⟨⟨by decide +kernel, by decide +kernel⟩, by decide +kernel, by decide +kernel⟩

theorem witness_BringUp :
    [2, 3, 4, 5, 6, 7, 8].all (fun k => [none, some map0].all (fun m => let s := atStage k m; s.keep.next == k && decide (s.chip ≤ 1) && s.bootMode == (if m.isSome then 2 else 1) && decide (s.keep.map = m))) = true ∧
    (ready.keep.next ≠ 2 ∧ 1 < ready.chip) ∧ (1 : BitVec 34).toNat ≠ map0.failed ∧ ((0xFF000000 : Word) &&& 0x00FFFFFF = 0 ∧ (0x00800000 : Word) &&& 0x00FFFFFF ≠ 0) ∧
    (bitsOf (atStage 5 none).keep.cfg 2 2 = 0 ∧ (1 : Byte).getLsbD 0 = true ∧ map0.dramOk.testBit 0 = true ∧ (0 : Byte).getLsbD 0 = false) ∧
    (atStage 8 none).keep.map = none ∧ (let s := atStage 7 none; ((s.bit Reg.KEEP_DRAM 16 && (s.bootMode == 2 || (1 : Byte).getLsbD 0)) = true ∧ (s.bit Reg.KEEP_DRAM 16 && (s.bootMode == 2 || (0 : Byte).getLsbD 0)) = false)) ∧
    popCount (gridOf 0 0) = 32 ∧ popCount (gridOf 0x3FFFFFFFF 0) = 0 ∧ 0 < popCount (gridOf 3 0) ∧
    [FlashOp.bringup, .store, .drop].all (fun op => ({ KeepSt.reset with flash := [op] } : KeepSt).flash == [op]) = true := by
  decide +kernel

theorem witness_RepairKeepsGrid : gridOf (1 + 2 ^ 33) 0 = 0xFFFFFFFF ∧ (let s := atStage 6 none; s.keep.next = 6 ∧ s.chip ≤ 1 ∧ s.bootMode ≠ 2) := by
  decide +kernel

/-- The chip in RECOVERY. -/
def recovery : State := put State.reset [(Reg.KEEP_STATE, 0x30F00)]

theorem witness_KeepCommands :
    opensB ready 41 0x000 = true ∧ (put ready [(Reg.KEEP_CMD_STAT, 0x80000000)]).bit Reg.KEEP_CMD_STAT 31 = true ∧ (ready.bit Reg.KEEP_CMD_STAT 31 = false ∧ serving ready ∧ ready.stage ≠ 0x0F ∧ ready.chip ≠ 0) ∧
    (opensB recovery 41 0x000 = true ∧ recovery.stage = 0x0F ∧ recovery.chip = 0 ∧ ¬ serving recovery ∧ recovery.bit Reg.KEEP_CMD_STAT 31 = false) ∧
    (let s := put { hosted with host := { hosted.host with bme := true, msixEn := true } } [(0x000014, 0xFFFFFFFF), (0x000010, 4), (0x6E40C, 0), (Reg.KEEP_IRQ_HOST, 1)]
     s.groupPend 0 = true ∧ vecOpen s 0 ∧ s.bit Reg.KEEP_IRQ_HOST 0 = true) ∧ ready.groupPend 1 = false ∧ (ready.bit Reg.SEQ_STATE 3 = false ∧ ready.chip = 2) ∧ scheduled.bit Reg.SEQ_STATE 3 = true := by
  unfold serving vecOpen
  decide +kernel

/-- RECOVERY with an image in the Keep SRAM. -/
theorem witness_recBoot : (recovery.setBytes sramAddr imageForm).mayRun ((recovery.setBytes sramAddr imageForm).imgFails sramAddr) = true ∧ recovery.mayRun (recovery.imgFails sramAddr) = false :=
  ⟨formed_runs (by decide +kernel) (by decide +kernel), unformed_stops (by decide +kernel)⟩

theorem witness_PowerAndClocks :
    (let s := { ready with faultLines := [(5, 255)] }; (5, 255) ∈ s.faultLines ∧ 2 ≤ s.chip ∧ s.bit Reg.KEEP_FAULT 31 = false ∧ (5, 254) ∉ s.faultLines) ∧ (atStage 2 none).chip < 2 ∧ (put ready [(Reg.KEEP_FAULT, 0x80000000)]).bit Reg.KEEP_FAULT 31 = true ∧
    (let s := atTime { ready with wakeAt := [(islandKey 31, 50000)] } 50000; Tab.get (fun _ => 0) s.wakeAt (islandKey 31) ≠ 0 ∧ Tab.get (fun _ => 0) s.wakeAt (islandKey 31) ≤ s.tb.now.toNat ∧ Tab.get (fun _ => 0) s.wakeAt (islandKey 0) = 0) ∧
    (ready.fld Reg.KEEP_THR_STAT 0 3 = 0 ∧ (put ready [(Reg.KEEP_THR_STAT, 4)]).fld Reg.KEEP_THR_STAT 0 3 ≠ 0) ∧ ready.keep.autoLevel ≤ 4 ∧ ready.keep.resetN = true ∧ ({ KeepSt.reset with resetN := false } : KeepSt).resetN = false ∧
    (∀ e ∈ ({ KeepSt.reset with rails := [(.vddq, true)] } : KeepSt).rails, e.1 = .vddq) := by
  decide +kernel

theorem clean_cleanBlock {s : State} {b : Nat} (h : cleanB s = true) (hw : s.scrubWb = []) : cleanBlock s b := by
  simp only [cleanB, Bool.and_eq_true, List.isEmpty_iff] at h
  refine ⟨fun w _ _ => ?_, fun e he => by rw [hw] at he; cases he⟩
  rw [h.1.1, h.1.2, h.2]
  exact ⟨List.not_mem_nil, List.not_mem_nil, List.not_mem_nil⟩

theorem witness_cleanBlock : cleanBlock ready 0 := clean_cleanBlock (by decide +kernel) (by decide +kernel)

theorem witness_DramService :
    (ready.drcReady 0 = true ∧ ready.drcReady 1 = false ∧ ready.bit (Reg.DRC_STAT 0) 6 = true ∧ (ready.dch 0).oscFail = false) ∧
    (let s := put ready [(Reg.DRC_SCRUB_CTL 0, 0x80000000)]; s.bit (Reg.DRC_SCRUB_CTL 0) 31 = true ∧ (s.reg (Reg.DRC_SCRUB_POS 0)).toNat + 1 < 2 ^ s.fld (Reg.DRC_STAT 0) 4 2 * 2 ^ 22) ∧
    (let s := put ready [(Reg.DRC_SCRUB_CTL 0, 0x80000000), (Reg.DRC_SCRUB_POS 0, 0x3FFFFF)]; 2 ^ s.fld (Reg.DRC_STAT 0) 4 2 * 2 ^ 22 ≤ (s.reg (Reg.DRC_SCRUB_POS 0)).toNat + 1) ∧
    ({ DramCh.reset with oscFail := true } : DramCh).oscFail = true ∧ (32 < (0x8000 : BitVec 16).toInt.natAbs ∧ (0xFFE0 : BitVec 16).toInt.natAbs ≤ 32) ∧
    [msg 1 32 (.pw [(0, 1)] [] none false .plain), msg 1 32 (.rd 0 256 .plain), msg 1 32 (.rreq 0 1 0x100 .plain), msg 1 32 (.rd (2 ^ 30 - 1) 2 .plain)].all (fun m =>
      let s := { ready with dram := [(0, { DramCh.reset with queue := [msg 2 32 (.rd 0 1 .plain), m] })] }
      (s.dch 0).queue[1]? == some m && (s.dch 0).queue[0]? == some (msg 2 32 (.rd 0 1 .plain)) && ((s.dch 0).queue.take 1).all (fun x => x.src != m.src)) = true ∧
    (let s := { ready with dram := [(0, { DramCh.reset with queue := [msg 1 32 (.rd 0 1 .plain), msg 1 32 (.rd 0 2 .plain)] })] }; ((s.dch 0).queue.take 1).any (fun x => x.src == 1) = true ∧ (s.dch 0).queue.length ≤ 63) ∧
    (let s := { put ready [(Reg.DRC_SCRUB_CTL 0, 0x80000000)] with eccOne := [5] }; (s.dch 0).queue = [] ∧ (∀ e ∈ s.scrubWb, s.drcOwns 0 e.1 = false) ∧ (∃ w ∈ s.eccOne, 32 * 0 ≤ w ∧ w < 32 * 0 + 32) ∧
      s.poison = [] ∧ s.eccTwo = []) ∧
    (let s := { put ready [(Reg.DRC_SCRUB_CTL 0, 0)] with scrubWb := [(7, [224])] }; s.drcOwns 0 7 = true ∧ s.bit (Reg.DRC_SCRUB_CTL 0) 31 = false) ∧
    (let m := msg 1 32 (.pw [(0, 1)] [] none false .plain); ready.mayArrive m = true ∧ ready.regionOf 0 = .dram) ∧
    (2 ^ 30 - 256 + 256 ≤ ready.dramCap ∧ ready.dramCap < 2 ^ 30 - 1 + 2 ∧ ready.dramCap ≤ 2 ^ 30) := by
  decide +kernel

theorem witness_StepRunsFront : ({ ready with pending := [.nopEntry] } : State).pending = [.nopEntry] ∧ ready.pending = [] := ⟨rfl, by decide +kernel⟩

/-- StepsKeepCanon: a state in canonical form, and its step. -/
theorem witness_StepsKeepCanon : ready.Canon ∧ Completes (step { ready with pending := [.nopEntry] }) := ⟨ready_canon, ⟨_, rfl⟩⟩

/-! ### Ill-formed commands -/

theorem test_wf_width : (Instr.regWrite 40 0 3 0).wf = false ∧ (Instr.regWrite 40 0 4 0).wf = true := by decide

/-- An extension word without its bit, a stop bit before the last operation, a last operation without it. -/
theorem test_wf_bundle : (Instr.mov { op0 with after := [{ word := 0x80000000, ext := some 0 }] }).wf = false ∧ (Instr.mov { op0 with before := [{ word := 0x80000000, ext := none }] }).wf = false ∧
    (Instr.mov { op0 with before := [{ word := 0x40000000, ext := none }] }).wf = false ∧ (Instr.mov { op0 with after := [{ word := 0, ext := none }] }).wf = false ∧
    (Instr.mov { op0 with after := [{ word := 0x80000000, ext := none }, { word := 0x80000000, ext := none }] }).wf = false ∧ (Instr.mov op0).wf = true := by
  decide

/-- A PW without a byte, out of order, over two blocks, with poison outside; reads of no byte and over a block's end; a request of more than 4 KiB; answers of no byte and of 257. -/
theorem test_wf_messages : (Instr.pw (msg 0 1 (.pw [] [] none false .plain)) .good).wf = false ∧ (Instr.pw (msg 0 1 (.pw [(1, 0), (0, 0)] [] none false .plain)) .good).wf = false ∧
    (Instr.pw (msg 0 1 (.pw [(255, 0), (256, 0)] [] none false .plain)) .good).wf = false ∧ (Instr.pw (msg 0 1 (.pw [(0, 0)] [1] none false .plain)) .good).wf = false ∧
    (Instr.rd (msg 0 1 (.rd 0 0 .plain)) .good).wf = false ∧ (Instr.rd (msg 0 1 (.rd 255 2 .plain)) .good).wf = false ∧ (Instr.rreq (msg 0 1 (.rreq 255 4097 0 .plain)) .good).wf = false ∧ (Instr.rreq (msg 0 1 (.rreq 255 4096 0 .plain)) .good).wf = true ∧
    (Instr.rdr (msg 0 1 (.rdr 0 [] [] false .plain)) .good).wf = false ∧ (Instr.rd (msg 0 1 (.rd 0 256 .plain)) .good).wf = true := by
  decide

theorem test_wf_answer : (Instr.rdr (msg 0 1 (.rdr 0 (List.replicate 257 0) [] false .plain)) .good).wf = false := by decide +kernel

theorem test_wf_host : (Instr.hostBar2Write 0 []).wf = false ∧ (Instr.hostBar2Write 0x3FFFFFFF [0, 0]).wf = false ∧ (Instr.hostBar2Read 0 0).wf = false ∧ (Instr.hostBar2Read 0x3FFFFFFF 2).wf = false ∧
    (Instr.hostBar2Read 0x3FFFFFFF 1).wf = true := by
  decide +kernel

theorem line_wf (l : List Byte) : (Instr.line 0 0 0x2A l true true).wf = decide (l.length < 2 ^ 16) := rfl

theorem test_wf_line (l : List Byte) (h : l.length = 65536) : (Instr.line 0 0 0x2A l true true).wf = false := by
  rw [line_wf, h]
  decide

/-- The table gives no bits, so no word spells a command. -/
theorem test_decode : decodeTableWord 32 0x40050000 = none := rfl

/-! ### Examples that the spec works out -/

/-- The state of an outcome, or the reset state. -/
def after (o : Host.Outcome State Fault Refusal) : State :=
  match o with
  | .next t => t
  | _ => State.reset

/-- The words of the examples after R109, R129, R156, R164 and R284. -/
theorem test_words : ({ op0 with ext := some 0x12000, after := [nopWord] }.cw 0 (4 * 1 + 1)).word = 0x40050000 ∧ ({ op0 with pred := 3, opnd := 0x4010, after := [nopWord] }.cw 1 8).word = 0x18884010 ∧
    ({ op0 with opnd := 0x1844 }.cw 5 0).word = 0x82801844 ∧ ({ op0 with opnd := 0xA000, after := [nopWord] }.cw 0 0x6C).word = 0x006CA000 ∧ ({ op0 with opnd := 0 }.cw 1 (0x30 + 2 + 4 * 2)).word = 0x80BA0000 ∧
    ({ op0 with opnd := 0x4080 }.cw 2 0x6C).word = 0x816C4080 ∧ ({ op0 with opnd := 0x0520 }.cw 4 0).word = 0x82000520 ∧ ({ op0 with opnd := 0x4000 }.cw 5 0x21).word = 0x82A14000 := by
  decide +kernel

/-- Entry e3 of the example of one tick (R67): a DISPATCH to spires 0 and 1 at local address 0x2000. -/
theorem test_entry : let e := 0x00000002200100000000030020000000
    entOffset e = 2 ∧ entOpcode e = 0x20 ∧ entClass e = 1 ∧ entTindex e = 0 ∧ entryFits e = true ∧ spiresOf (e / 2 ^ 40 % 2 ^ 32) = [0, 1] ∧ e / 2 ^ 21 % 2 ^ 19 * 32 = 0x2000 ∧ e % 2 ^ 16 = 0 := by
  decide +kernel

/-- The encoder example of R37: three early ticks and one that is not. -/
theorem test_boundaries :
    [(50000000, 50390000, 49999992 + 380000, 50400000), (50400000, 50790000, 50759992, 50800000), (50800000, 51190000, 51139992, 51200000), (51200000, 51590000, 51639992, 51640000)].all (fun x =>
      boundaryAt { scheduled with tb := { scheduled.tb with tickStart := x.1, tickEndAt := some x.2.1 }, regs := (put scheduled [(Reg.TIME_PERIOD, 400000)]).regs } (plainEvent (BitVec.ofNat 64 x.2.2.1)) == x.2.2.2) = true := by
  decide +kernel

/-- The example of R49: the pending correction of −1,533 ns moves one step. -/
theorem test_slew : let s := { put ready [(Reg.TIME_ADJ, 0xFFFFFA03)] with tb := { ready.tb with now := 5000, running := true, slewPhase := 999 } }
    ((after (exec .slewStep s)).reg Reg.TIME_ADJ).toInt = -1532 ∧ (after (exec .slewStep s)).tb.now = 5000 := by
  decide +kernel

/-- The example before R140: SETVL of 300 elements of 16 bits grants 128. -/
theorem test_setvl : let s := withCore { core0 with h3 := { Scal.reset with acc := 300 }, h2 := { Scal.reset with acc := 300 } }
    let t := after (exec (.setvl { op0 with opnd := 0x6100 }) s)
    t.reg (Reg.VU_VL 0) = 128 ∧ t.reg (Reg.VU_VTYPE 0) = 1 ∧ t.reg (Reg.VU_VSTART 0) = 0 := by
  decide +kernel

/-- The filter example after R165: the first MACB, from samples that wrap in the circular buffer. -/
def filter : State :=
  let s := put run0 [(Reg.MAC_CB_BASE 0 0, 0x100), (Reg.MAC_CB_LEN 0 0, 16), (Reg.MAC_YP 0 0, 0x10C), (Reg.MAC_PCFG 0, 0x4000)]
  (s.setBytes (xramAddr 0) (leBytes 0x4000 2)).setBytes (xramAddr 0 + 0x20100) (leBytes 300 2 ++ leBytes 400 2 ++ leBytes 500 2 ++ leBytes 600 2 ++ leBytes 0 4 ++ leBytes 104 2 ++ leBytes 200 2)

theorem test_macb : let t := after (exec (.macb { op0 with opnd := 0x0520 }) filter)
    (List.range 4).map (accumulator t 0) = [16384 * 104, 16384 * 200, 16384 * 300, 16384 * 400] ∧ t.reg (Reg.MAC_YP 0 0) = 0x10E ∧ t.reg (Reg.MAC_XP 0 0) = 2 := by
  decide +kernel

/-- The same example: MRND with SH = 16 rounds 5,799,936 to 88 and 15,564,800 to 238. -/
theorem test_mrnd : let s := put run0 [(Reg.MAC_ACC_LO 0 0, 5799936), (Reg.MAC_ACC_LO 0 3, 15564800)]
    ((after (exec (.mrnd { op0 with opnd := 0x0400 }) s)).core 0).f.acc = 88 ∧ ((after (exec (.mrnd { op0 with opnd := 0x1C00 }) s)).core 0).f.acc = 238 := by
  decide +kernel

/-- The example of R129: SCANS finds the sixth word. -/
theorem test_scans : let w : CpWord := { word := 0x006CA000, ext := none }
    let o := { op0 with sub := 2, before := [w] }
    let s := (ready.setCore 0 { Core.reset with st := 1, pc := 0x40, part := [w], todo := [o.cw 1 0x3A], agv := { Scal.reset with ix0 := 0x8000, acc := 0xFF, cnt := 12 } }).setBytes (vaultAddr 0 0x8014) [0xFF]
    let x := ((after (exec (.scans o) s)).core 0).f
    x.ix0 = 0x8014 ∧ x.cnt = 7 ∧ x.p 5 = true ∧ x.acc = 0 := by
  decide +kernel

/-- The gather example after R156: element 4 lies in a segment that is off, so elements 0 to 3 are requested, VSTART is 4 and source 4 is taken. -/
theorem test_gather : let s := put (vec 2 16) [(Reg.VLT_SEG_STAT 0, 0xAAA8AAAA), (Reg.CP_VBASE 0, 0x10000)]
    let x := { Scal.reset with ix0 := 0x40000 }
    let v := [(4, (4 * 64 : BitVec 2048) ^^^ (4 * 64) ||| 64 <<< 32 ||| 128 <<< 64 ||| 192 <<< 96 ||| 0x800000 <<< 128)]
    let u := s.modCore 0 (fun c => { c with f := x, h1 := x, h2 := x, h3 := x, h4 := x, vregs := v, v1 := v, v2 := v, v3 := v })
    let t := after (exec (.vldx { op0 with opnd := 0x4080 }) u)
    t.reg (Reg.VU_VSTART 0) = 4 ∧ t.reg (Reg.CP_FAULT_ADDR 0) = 0x840000 ∧ (t.core 0).pc = 0x10100 := by
  decide +kernel

/-- The interrupt example after R103: source 9 is taken, with the target of the delayed branch saved. -/
theorem test_interrupt : let s := put (withCore { Core.reset with st := 1, pc := 0x2400, sr := 0x2080 }) [(Reg.CP_VBASE 0, 0x30000), (Reg.CP_IRQ_RAW 0, 0x100200), (Reg.CP_IRQ_EN 0, 0x100200)]
    let c := (after (exec (.interruptEntry ⟨0, []⟩) s)).core 0
    c.pc = 0x30240 ∧ c.ilvl = 9 ∧ c.stack = [(0x2400, 0x2080)] := by
  decide +kernel

/-- The codes of R192's example: 6.0 and −0.40625. -/
theorem test_codes : e4m3 0x4C = .fin false 12 (-1) ∧ fp12 0xB68 = .fin true 104 (-8) := by
  decide +kernel

/-- The example of R197: t = 2,600 comes out as 0x24. -/
theorem test_int8 : let d := { Dome.reset with rs := [(0, 0x40000000 + (BitVec.ofInt 32 (-1200)).toNat * 2 ^ 32 + 3 * 2 ^ 64 + 36 * 2 ^ 80)] }
    (d.outI { runF wInt with zo := -5 } 0 5000 400).q = 0x24 := by
  decide +kernel

/-- The example of R198: the sum, and its outputs in both formats. -/
theorem test_fp8 : fmaF 0x40C00000 (rnd (weightVal 0xB68 0x7C)) 0x3FC00000 = 0x3F990000 ∧
    (let d := { Dome.reset with rs := [(0, 0x3F000000 + 0x3E800000 * 2 ^ 32)] }; let f := { runF wRun with act := 1 }
     (d.outF f 0 (-2) 0 0x3F990000 0).q = 0x46 ∧ (d.outF { f with ofmt := 1 } 0 (-2) 0 0x3F990000 0).q = 0x43) ∧ toFp8 false (f32 0x3F880000) = (0x38, false) := by
  decide +kernel

/-- The example of R225: the close of tick 100 proposes E = 1; the record of its commit; and no step at the close of tick 102. -/
theorem test_scales : closeStep 0x01480300 0 true { conv := 98304, clip := 1200, max := 0x43E00000 } = (1, 0) ∧ closeStep 0x01480300 0 true { conv := 98304, clip := 40, max := 0x43E00000 } = (0, 0) ∧
    (logRecord 102 5 0 1 1150).map (·.toNat) = [0x66, 0, 0, 0, 0, 0, 5, 0, 1, 1, 0, 0, 0x7E, 4, 0, 0] := by
  decide +kernel

/-- The fire records of R337's example: record a is queued, b joins it, c is out of order, d is late. -/
def fire17 (w0 w2 w3 : Word) (now : BitVec 64) (x : TioChan) : State :=
  atTime { put ready [(Reg.TIO_OCFG 17, 1)] with tio := { Tio.reset with quiet := false, inbox := [{ w0 := w0, w1 := 0, w2 := w2, w3 := w3, whole := true }], chans := [(17, x)] } } now

theorem test_fire : let a := { TioChan.reset with queue := [{ time := 5000000, width := 400000, joined := false }], last := 5000000, endT := 5400000 }
    (after (exec .fireRecord (fire17 0x004C4B40 0x11061A80 0x100 4000000 TioChan.reset))).chan 17 = a ∧ ((after (exec .fireRecord (fire17 5400010 0x110493E0 0x101 4100000 a))).chan 17).endT = 5700010 ∧
    (after (exec .fireRecord (fire17 5300000 0x110186A0 0x102 4500000 { a with last := 5400010 }))).reg Reg.TIO_REJ_INFO = 0xC10102 ∧
    (after (exec .fireRecord (fire17 5900050 0x11030D40 0x103 5899980 { a with last := 5400010 }))).reg Reg.TIO_REJ_INFO = 0xC00103 := by
  decide +kernel

/-- The host's writes in R359's example: slot 0x100 goes to DEVICE with ACK, and counter 201 of spire 30 rises by 1. -/
theorem test_handover : let s := put hosted [(Reg.OCU_WBASE_LO, 12), (Reg.OCU_CTL, 1)]
    (after (exec (.ocuHand 40 0xC0000100) s)).host.handovers = [{ slots := [0x100], waits := [], ack := true, done := 1 }] ∧
    (after (exec .doorbellPresent { s with host := { s.host with doorbells := [{ v := 0x00783242, waits := [], hands := 0 }] } })).mesh.map (fun m => (m.dst, m.body)) = [(30, .inc 201 1)] := by
  decide +kernel

/-- The example of R382: 23 ns ahead, 75 ns of delay. -/
theorem test_answer : let s := put (atTime { ready with links := [(2, Link.reset)] } 1000000190) [(Reg.AXL_STAT 2, 0x7000), (Reg.TIME_LINK, 0x60)]
    let t := after (exec (.answer 2 (mkFlit 4 0 (2 ^ 236 + 1000000000 * 2 ^ 168 + 1000000052 * 2 ^ 104 + 1000000092 * 2 ^ 40))) s)
    t.reg (Reg.AXL_TOFS 2) = 23 ∧ t.reg (Reg.AXL_TDLY 2) = 75 ∧ (t.reg Reg.TIME_ADJ).toInt = -23 := by
  decide +kernel

/-- The capture of the example after R18: CODE 0x12, UNIT 3, DETAIL 0x40, read and cleared count. -/
theorem test_capture : let t := ready.err 0x085 0x12 3 0x40
    t.reg 0x085020 = 0x12030040 ∧ t.reg 0x085028 = 1 ∧ t.bit 0x085010 31 = true ∧ (after (exec (.intRawClear 41 0x085 0x80000000) t)).bit 0x085010 31 = false := by
  decide +kernel

/-- At reset no clock runs: an idle step changes nothing of device time. -/
theorem test_idle : step State.reset = .next State.reset := rfl

end Sys2Proof.Tests
end

section
/-! SUPPORT. Accesses to register pages that do not answer, and the host's accesses to spire pages before the spire mapping (R17). -/

namespace Sys2Proof.Machine

/-! ### Pages that do not answer -/

/-- A read of a word on a page that does not answer is 0 and has no effect. -/
theorem State.readReg_of_closed {s : State} {req a : Nat} (h : s.pageOpen req (a / 0x1000) = false) : s.readReg req a = (0, s) := by
  simp [State.readReg, h]

/-- A write to a page that does not answer is dropped, at every width and alignment. -/
theorem State.regWrite_of_closed {s : State} {req a : Nat} (h : s.pageOpen req (a / 0x1000) = false) (width : Nat) (v : Word) :
    s.regWrite req a width v = s := by
  simp [State.regWrite, State.writeReg, h]

/-- Any lanes of the word 0 are 0. -/
@[simp] theorem laneWord_zero (a width : Nat) : laneWord a width 0 = 0 := by
  simp [laneWord, w32]

theorem State.wordRead_of_closed {s : State} {req a : Nat} (h : s.pageOpen req ((a - a % 4) / 0x1000) = false) (width : Nat) :
    s.wordRead req a width = { s with readData := Tab.set (fun _ => 0) s.readData (shadowKey req a) 0 } := by
  simp only [State.wordRead, State.readReg_of_closed h, laneWord_zero]

/-- Reads of several words on pages that do not answer change the data of reads alone, and leave 0 under the key of each read. -/
theorem State.foldl_wordRead_of_closed (req k : Nat) : ∀ (parts : List (Nat × Nat)) (s : State),
    (∀ p ∈ parts, s.pageOpen req ((p.1 - p.1 % 4) / 0x1000) = false) →
    ∃ d, parts.foldl (fun t p => t.wordRead req p.1 p.2) s = { s with readData := d } ∧
      (Tab.get (fun _ => 0) s.readData k = 0 ∨ (∃ p ∈ parts, shadowKey req p.1 = k) → Tab.get (fun _ => 0) d k = 0)
  | [], s, _ => ⟨s.readData, rfl, by simp⟩
  | p :: parts, s, h => by
    obtain ⟨hp, hparts⟩ := List.forall_mem_cons.1 h
    obtain ⟨d, hd, hk⟩ := State.foldl_wordRead_of_closed req k parts
      { s with readData := Tab.set (fun _ => 0) s.readData (shadowKey req p.1) 0 } hparts
    refine ⟨d, by rw [List.foldl_cons, State.wordRead_of_closed hp, hd], fun hz => hk ?_⟩
    by_cases hkey : k = shadowKey req p.1
    · exact .inl (hkey ▸ Tab.get_set_same _ s.readData _ 0)
    · refine hz.imp (Tab.get_set_ne _ hkey s.readData 0).trans ?_
      rintro ⟨q, hq, rfl⟩
      obtain rfl | hq := List.mem_cons.1 hq
      · exact absurd rfl hkey
      · exact ⟨q, hq, rfl⟩

/-! ### The words that a read touches -/

theorem mem_readParts {a width : Nat} {p : Nat × Nat} (hpos : 0 < width) (h : p ∈ readParts a width) : a ≤ p.1 ∧ p.1 < a + width := by
  obtain ⟨i, hi, rfl⟩ := List.mem_map.1 h
  have hi := List.mem_range.1 hi
  change a ≤ max a _ ∧ max a _ < _
  omega

/-- A read of at least one byte starts with the part at its own address. -/
theorem exists_mem_readParts {a width : Nat} (h : 0 < width) : ∃ p ∈ readParts a width, p.1 = a := by
  refine ⟨_, List.mem_map.2 ⟨0, List.mem_range.2 (by omega), rfl⟩, ?_⟩
  change max a _ = a
  omega

/-! ### The host before the spire mapping (R17) -/

/-- Before the spire mapping no spire page answers, whoever asks. -/
theorem State.pageOpen_of_unmapped {s : State} {p : Nat} (hgrid : s.reg Reg.KEEP_GRID = 0) (hp : isSpirePage p = true) (req : Nat) :
    s.pageOpen req p = false := by
  simp [State.pageOpen, State.spireOpen, hgrid, hp]

theorem State.regWrite_of_unmapped {s : State} {a : Nat} (hgrid : s.reg Reg.KEEP_GRID = 0) (hp : isSpirePage (a / 0x1000) = true)
    (req width : Nat) (v : Word) : s.regWrite req a width v = s :=
  State.regWrite_of_closed (State.pageOpen_of_unmapped hgrid hp req) width v

/-- A read of the live host inside one spire page, before the spire mapping: it is answered, with 0, and nothing else changes. -/
theorem State.regRead_of_unmapped {s : State} {a width : Nat} (hgrid : s.reg Reg.KEEP_GRID = 0) (hlive : s.hostLive = true)
    (hp : isSpirePage (a / 0x1000) = true) (hpos : 0 < width) (hin : a % 0x1000 + width ≤ 0x1000) :
    delivered (s.regRead 40 a width) 40 a = 0 ∧ { s.regRead 40 a width with readData := s.readData } = s := by
  have hclosed : ∀ p ∈ readParts a width, s.pageOpen 40 ((p.1 - p.1 % 4) / 0x1000) = false := fun p hmem => by
    obtain ⟨hlo, hhi⟩ := mem_readParts hpos hmem
    have hpage : (p.1 - p.1 % 4) / 0x1000 = a / 0x1000 := by omega
    exact hpage ▸ State.pageOpen_of_unmapped hgrid hp 40
  obtain ⟨d, hd, hzero⟩ := State.foldl_wordRead_of_closed 40 (shadowKey 40 a) _ s hclosed
  obtain ⟨p, hmem, hpa⟩ := exists_mem_readParts (a := a) hpos
  have hread : s.regRead 40 a width = { s with readData := d } := by
    simp [State.regRead, State.reaches, hlive, hd]
  rw [hread]
  exact ⟨hzero (.inr ⟨p, hmem, by rw [hpa]⟩), rfl⟩

theorem hdr_page {off : Nat} (h : off < 0x1000) (p : Nat) : hdr p off / 0x1000 = p := by
  unfold hdr
  omega

/-- The offsets that set and that clear bits of a register are on its own page (R9). -/
theorem setClear_page {off : Nat} (h : off + 0x400 ≤ 0x1000) (a : Nat) : (a / 0x1000 * 0x1000 + off + a % 0x400) / 0x1000 = a / 0x1000 := by
  omega

/-- An address on one of the sixteen pages of a spire is on a spire page. -/
theorem isSpirePage_spirePage (n : Spire) {k off : Nat} (hk : k < 16) (h : off < 0x1000) :
    isSpirePage (((0x100 + 16 * n.val + k) * 0x1000 + off) / 0x1000) = true := by
  have hn := n.isLt
  simp only [isSpirePage, Bool.and_eq_true, decide_eq_true_eq]
  omega

/-- Settles O33: no spire page answers before the spire mapping, so a read of the host finds 0 in every word it touches and every write, by whichever
command, is a write to a closed page. -/
theorem beforeSpireMapping : Obligations.BeforeSpireMapping := by
  unfold Obligations.BeforeSpireMapping
  intro req s hreq hup hd3 hmse hgrid
  have hlive : s.hostLive = true := by simp [State.hostLive, hup, hd3, hmse]
  have dropped : ∀ (a width : Nat) (v : Word), isSpirePage (a / 0x1000) = true →
      Host.Outcome.next (s.regWrite req.val a width v) = (.next s : Host.Outcome State Fault Refusal) := fun a width v hp => by
    rw [State.regWrite_of_unmapped hgrid hp]
  simp only [List.forall_mem_cons, List.not_mem_nil, false_imp_iff, implies_true, and_true]
  refine ⟨fun a width hp hpos hin => ?_, fun a width v hp => ?_, fun page v hp => ?_, fun n v => ?_⟩
  · have hread := State.regRead_of_unmapped hgrid hlive hp hpos hin
    rw [← hreq] at hread ⊢
    exact ⟨⟨_, rfl, hread⟩, ⟨_, rfl, hread⟩⟩
  · have onSetClear : ∀ off, off + 0x400 ≤ 0x1000 →
        isSpirePage ((a.toNat / 0x1000 * 0x1000 + off + a.toNat % 0x400) / 0x1000) = true := fun off h => by rwa [setClear_page h]
    exact ⟨dropped _ _ _ hp, dropped _ _ _ (onSetClear 0x800 (by decide)), dropped _ _ _ (onSetClear 0xC00 (by decide))⟩
  · have onPage : ∀ off, off < 0x1000 → isSpirePage (hdr page.toNat off / 0x1000) = true := fun off h => by rwa [hdr_page h]
    exact ⟨dropped _ _ _ (onPage 0x10 (by decide)), dropped _ _ _ (onPage 0x1C (by decide)), dropped _ _ _ (onPage 0x2C (by decide)),
      dropped _ _ _ (onPage 8 (by decide))⟩
  · have onSpire : ∀ k off : Nat, k < 16 → off < 0x1000 → isSpirePage (((0x100 + 16 * n.val + k) * 0x1000 + off) / 0x1000) = true :=
      fun _ _ => isSpirePage_spirePage n
    exact ⟨dropped (Reg.CP_NMI n.val) 4 v (onSpire 1 0x50 (by decide) (by decide)),
      dropped (Reg.CP_CTL n.val) 4 v (onSpire 0 0x40 (by decide) (by decide)),
      dropped (Reg.CP_IRQ_SET n.val) 4 v (onSpire 1 0x4C (by decide) (by decide)),
      dropped (Reg.CP_TCMP_HI n.val) 4 v (onSpire 0 0x58 (by decide) (by decide)),
      dropped (Reg.CP_IC_CTL n.val) 4 (putBit v 0 true) (onSpire 0 0x60 (by decide) (by decide))⟩

end Sys2Proof.Machine
end

section
/-! SUPPORT. The predicates, and the operations that write and read them (R113, R117). -/

namespace Sys2Proof.Machine

/-! ### Predicates (R113) -/

@[simp] theorem Scal.p_zero (x : Scal) : x.p 0 = true := rfl

@[simp] theorem Scal.setP_zero (x : Scal) (b : Bool) : x.setP 0 b = x := rfl

theorem Scal.p_of_pos (x : Scal) {k : Nat} (h : 0 < k) : x.p k = x.pred.getLsbD k := by
  simp [Scal.p, Nat.ne_of_gt h]

/-- Predicate k reads the value written to it, and every other predicate reads as before. -/
theorem Scal.p_setP (x : Scal) {k i : Nat} (hk : k ≠ 0) (hi : i < 8) (b : Bool) : (x.setP k b).p i = if i = k then b else x.p i := by
  have hbit : ((1 : BitVec 8) <<< k).getLsbD i = decide (i = k) := by
    change (BitVec.twoPow 8 k).getLsbD i = _
    rw [BitVec.getLsbD_twoPow, ← Bool.decide_and, decide_eq_decide]
    omega
  obtain rfl | hpos := Nat.eq_zero_or_pos i
  · simp [Ne.symm hk]
  · rw [Scal.p_of_pos _ hpos, Scal.p_of_pos _ hpos, Scal.setP, if_neg hk]
    by_cases hb : b = true
    · rw [if_pos hb, BitVec.getLsbD_or, hbit]
      by_cases h : i = k <;> simp [h, hb]
    · rw [if_neg hb, BitVec.getLsbD_and, BitVec.getLsbD_not, hbit]
      by_cases h : i = k <;> simp [h, hb, hi]

/-- The value of PRED that MTC writes: bit 0 stays, and each of P1 to P7 takes its bit of v (R113). -/
theorem getLsbD_mtcPred (v : Word) (q : BitVec 8) {k : Nat} (hpos : 0 < k) (hk : k < 8) :
    ((v.setWidth 8 &&& 0xFE) ||| (q &&& 1)).getLsbD k = v.getLsbD k := by
  have hkeep : ∀ k < 8, 0 < k → (0xFE : BitVec 8).getLsbD k = true := by decide
  have hdrop : ∀ k < 8, 0 < k → (1 : BitVec 8).getLsbD k = false := by decide
  rw [BitVec.getLsbD_or, BitVec.getLsbD_and, BitVec.getLsbD_and, hkeep k hk hpos, hdrop k hk hpos]
  simp [hk]

/-- PRED as MFC reads it shows Pk in bit k, and 0 in the bits above (R113). -/
theorem getLsbD_ctlReg_pred (c : Core) {k : Nat} (hk : k < 32) : (c.ctlReg 1).getLsbD k = if k < 8 then c.wb.p k else false := by
  change ((c.wb.pred ||| 1).setWidth 32).getLsbD k = _
  simp only [BitVec.getLsbD_setWidth, hk, decide_true, Bool.true_and, BitVec.getLsbD_or, BitVec.ofNat_eq_ofNat, BitVec.getLsbD_one]
  split
  · simp [Scal.p, Bool.or_comm, Bool.beq_eq_decide_eq]
  · rw [BitVec.getLsbD_of_ge _ _ (by omega)]
    simp; omega

/-- The end of a LOOP or of a repeat level leaves what operations read in write back. -/
theorem State.wb_loopNext (s : State) (n : Nat) (x : Word) : ((s.loopNext n x).2.core n).wb = (s.core n).wb := by
  unfold State.loopNext
  dsimp only
  split
  · split
    · simp
    · split <;> simp
  · split
    · rfl
    · split
      · simp
      · split <;> simp [State.setBit]

/-! ### Operations that act on their core alone -/

/-- An effect that leaves the core as it is does not show once the operation is done, since its end writes the core again. -/
theorem State.finish_modCore_of_fixed {u : State} {o : CpOp} {f : Core → Core} (hf : f (u.core o.core.val) = u.core o.core.val) (slot opc : Nat) :
    (u.modCore o.core.val f).finish o slot opc = u.finish o slot opc := by
  have hevt : (u.modCore o.core.val f).vEvt o.core.val (o.cw slot opc) = u.vEvt o.core.val (o.cw slot opc) := by
    unfold State.vEvt
    rw [State.core_modCore_same, hf]
    rfl
  unfold State.finish State.opDone
  simp only [State.core_modCore_same, State.modCore_modCore, hf, hevt]
  simp only [State.modCore, hf]

theorem CpOp.cw_isRpt_of_lt {o : CpOp} {opc : Nat} (h : opc < 0x69) : (o.cw 0 opc).isRpt = false := by
  simp [CpWord.isRpt]
  omega

/-- An S-slot operation below RPT takes place with an effect on its core alone, which keeps what the bundle has left to issue. -/
theorem State.cpOp_modCore {s u : State} {o : CpOp} {opc : Nat} {eff : State → Nat → CpWord → State} {f : Core → Core} (h : Takes s o 0 opc u)
    (hopc : opc < 0x69) (heff : eff u o.core.val (o.cw 0 opc) = u.modCore o.core.val f)
    (htodo : (f (u.core o.core.val)).todo = (u.core o.core.val).todo) : s.cpOp o 0 opc eff = (u.modCore o.core.val f).finish o 0 opc := by
  rw [State.cpOp_takes eff h (CpOp.cw_isRpt_of_lt hopc) (by rw [heff, State.core_modCore_same, htodo]; exact h.live), heff]

/-! ### CMP, PLOG, MFC and MTC on P0 and PRED -/

/-- CMP with P0 for its Pd has no effect of its own. -/
theorem exec_cmp_of_p0 {o : CpOp} {s u : State} (hd : ofld o.opnd.toNat 10 3 = 0) (h : Takes s o 0 (0x40 + o.sub.toNat) u) :
    exec (.cmp o) s = .next (u.finish o 0 (0x40 + o.sub.toNat)) := by
  have hopc : 0x40 + o.sub.toNat < 0x69 := by omega
  change Host.Outcome.next (s.cpOp o 0 _ State.cmp) = _
  rw [State.cpOp_modCore h hopc rfl rfl, State.finish_modCore_of_fixed]
  simp [hd]

/-- PLOG with P0 for its Pd has no effect of its own. -/
theorem exec_plog_of_p0 {o : CpOp} {s u : State} (hd : ofld o.opnd.toNat 13 3 = 0) (h : Takes s o 0 0x50 u) :
    exec (.plog o) s = .next (u.finish o 0 0x50) := by
  change Host.Outcome.next (s.cpOp o 0 0x50 State.plog) = _
  rw [State.cpOp_modCore h (by decide) rfl rfl, State.finish_modCore_of_fixed]
  simp [hd]

/-- MFC writes DST with its control register, as the end of its own bundle leaves it. -/
theorem exec_mfc {o : CpOp} {s u : State} (h : Takes s o 0 0x51 u) :
    let v := ((u.loopNext o.core.val 0).2.core o.core.val).ctlReg (ofld o.opnd.toNat 9 4)
    exec (.mfc o) s = .next ((u.modCore o.core.val (fun c =>
      { c with f := c.f.set (ofld o.opnd.toNat 13 3) v
               mfcs := c.mfcs ++ [{ due := 5, ctl := ofld o.opnd.toNat 9 4, dst := ofld o.opnd.toNat 13 3, v := v }] })).finish o 0 0x51) := by
  change Host.Outcome.next (s.cpOp o 0 0x51 State.mfc) = _
  rw [State.cpOp_modCore h (by decide) (by simp only [State.mfc, State.putReg, State.modCore_modCore, CpOp.cw_opnd]; rfl) rfl]

/-- MTC to PRED writes the predicates at once. -/
theorem exec_mtc_pred {o : CpOp} {s u : State} (hk : ofld o.opnd.toNat 9 4 = 1) (h : Takes s o 0 0x52 u) :
    exec (.mtc o) s = .next ((u.modCore o.core.val (fun c =>
      { c with f := { c.f with pred := ((c.wb.get (ofld o.opnd.toNat 13 3)).setWidth 8 &&& 0xFE) ||| (c.f.pred &&& 1) } })).finish o 0 0x52) := by
  change Host.Outcome.next (s.cpOp o 0 0x52 State.mtc) = _
  rw [State.cpOp_modCore h (by decide) (by simp only [State.mtc, CpOp.cw_opnd, hk, if_true]; rfl) rfl]

/-- Settles O5: P0 is 1 by its reading and not written by setP, so CMP and PLOG to it leave the core as it is; MFC and MTC carry the predicates bit by bit. -/
theorem predicateZero : Obligations.PredicateZero := by
  unfold Obligations.PredicateZero
  refine ⟨fun x => ⟨x.p_zero, x.setP_zero, fun k _ b hk i hi => x.p_setP hk hi b⟩, fun o s u => exec_cmp_of_p0, fun o s u => exec_plog_of_p0,
    fun o s u hctl h _ => ?_, fun o s u hctl h => ⟨_, exec_mtc_pred hctl h, ?_, ?_, rfl⟩⟩
  · have hmfc := exec_mfc h
    rw [hctl] at hmfc
    exact ⟨_, hmfc, fun k hk => by rw [getLsbD_ctlReg_pred _ hk, State.wb_loopNext]⟩
  · exact Scal.p_zero _
  · intro k hpos hk
    rw [Scal.p_of_pos _ hpos]
    exact getLsbD_mtcPred _ _ hpos hk

end Sys2Proof.Machine
end
